-- ==== Sys2Proof/Word.lean ====
section
/-! DEFINITION. The word types of the part's byte layouts (R204): a byte, a 16-bit number and a
32-bit number, and the counter that stops at its maximum (section 0.5, "saturating"). -/

namespace Sys2Proof

/-- One byte of a frame, a telegram or a scan. -/
abbrev Byte := BitVec 8

/-- A 16-bit number: an id, a mask, a key, a counter. -/
abbrev Half := BitVec 16

/-- A 32-bit number: a period count, an odometer, a bit image. -/
abbrev Word := BitVec 32

/-- One more, stopping at 65535: a saturating 16-bit counter (section 0.5, R17, R39, R136). -/
def satInc (c : Half) : Half := if c = 0xFFFF#16 then c else c + 1

end Sys2Proof
end

