-- ==== Sys2Proof/Config.lean ====
section
/-! DEFINITION. What is fixed for every part (capacities, durations), and the free values: opaque
constants with no body, so that no proof can rest on what they are. -/

namespace Sys2Proof

namespace Config

/-- Frames an ingress buffer holds (R5). -/
def ingressPlaces : Nat := 2
/-- Entries an egress queue holds (R12). -/
def egressPlaces : Nat := 8
/-- Requests the management request queue holds (R24). -/
def requestPlaces : Nat := 4
/-- Transactions the junction queue holds (R102). -/
def junctionPlaces : Nat := 4
/-- Requests a sounder channel's queue holds (R162). -/
def soundPlaces : Nat := 4
/-- Slots of the signal table (R26). -/
def slotCount : Nat := 128
/-- Milliseconds of the activity timer (R2). -/
def activityMs : Nat := 20
/-- Milliseconds of the idle timer (R4). -/
def idleMs : Nat := 5
/-- Milliseconds of the age tick (R29). -/
def ageTickMs : Nat := 20
/-- Milliseconds between desk scans (R36). -/
def scanMs : Nat := 20
/-- Milliseconds of the control period (R50). -/
def periodMs : Nat := 20
/-- Milliseconds of the start-up check (R194). -/
def checkMs : Nat := 250
/-- Milliseconds of one unit of a pattern's step time (R159). -/
def stepMs : Nat := 50
/-- Milliseconds the driver's horn sounds at least (R169). -/
def hornMinMs : Nat := 300
/-- Milliseconds of one open-load interval of the direct horn (R171). -/
def hornIntervalMs : Nat := 50

/-- FREE VALUE. The byte at `position` of a slot whose FRESH value is too short to have one, as the
reading numbered `reading` finds it; the spec states none (R33; log 7). -/
opaque absentByte (reading slot position : Nat) : Byte

/-- FREE VALUE. The order in which arrivals of one good scan are taken, as a code for `permute`;
the spec allows every order (R44, R104, R155; log 6). `group` tells the orders of one scan apart. -/
opaque arrivalOrder (scan group : Nat) : Nat

/-- FREE VALUE. What the direct horn item returns for a press time; the spec gives the press time
no time base (R173; log 19). -/
opaque pressTimeReading (clock : Nat) : Word

end Config

end Sys2Proof
end

