-- ==== Sys2Proof/Syntax.lean ====
section
/-! DEFINITION. The commands: one constructor for each row of spec/opcode_table.json, in the
table's order, with the operands that come from outside the part. -/

namespace Sys2Proof

/-- A line port: LPA or LPB (chapter 1). -/
inductive Line where
  | a | b
  deriving DecidableEq, Repr

/-- A sounder channel (R162). -/
inductive Channel where
  | horn | bell | chime
  deriving DecidableEq, Repr

/-- A scan that arrived from the desk: the bytes received, and whether it is late, that is, an expiry of the scan
timer has closed the exchange that it belongs to before its arrival ended (R37). DESIGN CHOICE: the command says so
(log 64). -/
structure ScanArrival where
  bytes : List Byte
  late : Bool
  deriving DecidableEq, Repr

/-- The commands. A management request row has no operand of its own: it takes the request at the
front of the management request queue, whose payload holds its operands (R24, R174; log 4). -/
inductive Instr where
  /-- POWER_ON with the six strap inputs as a number (R1, R193). -/
  | powerOn (straps : Nat)
  /-- IDLE_MARKER_ARRIVAL (R2). -/
  | idleMarkerArrival (p : Line)
  /-- FRAME_ARRIVAL_START (R2). -/
  | frameArrivalStart (p : Line)
  /-- FRAME_ARRIVAL_END with the bytes received (R5). -/
  | frameArrivalEnd (p : Line) (bytes : List Byte)
  /-- FRAME_HANDLING (R6). -/
  | frameHandling (p : Line)
  /-- ACTIVITY_TIMER_EXPIRY (R2). -/
  | activityTimerExpiry (p : Line)
  /-- IDLE_TIMER_EXPIRY (R4). -/
  | idleTimerExpiry (p : Line)
  /-- IDLE_MARKER_END (R4). -/
  | idleMarkerEnd (p : Line)
  /-- TRANSMISSION_END (R14). -/
  | transmissionEnd (p : Line)
  /-- CLASSIFY_FRAME: the frame classifier takes the oldest frame that port `p` handed over (R19). -/
  | classifyFrame (p : Line)
  /-- AGE_TICK (R29). -/
  | ageTick
  /-- SCAN_TIMER_EXPIRY (R36). -/
  | scanTimerExpiry
  /-- SCAN_ARRIVAL_END with the scan that arrived (R37). -/
  | scanArrivalEnd (scan : ScanArrival)
  /-- CONTROL_PERIOD (R50). -/
  | controlPeriod
  /-- ATTEMPT_TIMER_EXPIRY (R115). -/
  | attemptTimerExpiry
  /-- TELEGRAM_ARRIVAL_START (R127). -/
  | telegramArrivalStart
  /-- TELEGRAM_ARRIVAL_END with the bytes received (R128). -/
  | telegramArrivalEnd (bytes : List Byte)
  /-- REQUEST_TRANSMISSION_END (R131). -/
  | requestTransmissionEnd
  /-- SOUND_STEP_BOUNDARY of a channel; `load` says whether load was sensed at any time during the
  step that ends (R167, R171). -/
  | soundStepBoundary (ch : Channel) (load : Bool)
  /-- DIRECT_HORN_MIN_END (R169). -/
  | directHornMinEnd
  /-- DIRECT_HORN_INTERVAL; `load` as for a step (R171). -/
  | directHornInterval (load : Bool)
  /-- STARTUP_CHECK_END with the check's outcome (R194). -/
  | startupCheckEnd (pass : Bool)
  /-- READ_ITEM (R176). -/
  | readItem
  /-- WRITE_ITEM (R177). -/
  | writeItem
  /-- LOAD_ENTRY (R179). -/
  | loadEntry
  /-- READ_ENTRY (R182). -/
  | readEntry
  /-- COMMIT (R183). -/
  | commit
  /-- READ_LOAD_SUM (R181). -/
  | readLoadSum
  /-- READ_FLAGS (R188). -/
  | readFlags
  /-- SET_ENABLES (R189). -/
  | setEnables
  /-- READ_RESTRICTIONS (R184). -/
  | readRestrictions
  /-- READ_JUNCTIONS (R184). -/
  | readJunctions
  /-- READ_STOPS (R184). -/
  | readStops
  /-- READ_STEP (R185). -/
  | readStep
  /-- HOLD_SOFT (R197). -/
  | holdSoft
  /-- HOLD_HARD (R197). -/
  | holdHard
  /-- RELEASE (R197). -/
  | release
  /-- STEP_ENTER (R199). -/
  | stepEnter
  /-- STEP_ONE (R78, R199). -/
  | stepOne
  /-- STEP_EXIT (R199). -/
  | stepExit
  /-- ENTER_SERVICE (R196). -/
  | enterService
  /-- RESTART (R202). -/
  | restart
  /-- SET_ROUTE (R101). -/
  | setRoute
  /-- UNKNOWN_REQUEST (R175). -/
  | unknownRequest
  deriving DecidableEq, Repr

end Sys2Proof
end

