-- ==== Sys2Proof/WellFormed.lean ====
section
/-! DEFINITION. Which commands the outside can give: the six strap inputs read as a number 0..63
(R1). Every other operand is a port, a channel, a sensed level or received bytes, and the part must
take any of them (R7, R37 and R128 judge the bytes). -/

namespace Sys2Proof

/-- The operand checks of a command. -/
def Instr.wellFormed : Instr → Bool
  | .powerOn straps => decide (straps < 64)
  | .idleMarkerArrival _ => true
  | .frameArrivalStart _ => true
  | .frameArrivalEnd _ _ => true
  | .frameHandling _ => true
  | .activityTimerExpiry _ => true
  | .idleTimerExpiry _ => true
  | .idleMarkerEnd _ => true
  | .transmissionEnd _ => true
  | .classifyFrame _ => true
  | .ageTick => true
  | .scanTimerExpiry => true
  | .scanArrivalEnd _ => true
  | .controlPeriod => true
  | .attemptTimerExpiry => true
  | .telegramArrivalStart => true
  | .telegramArrivalEnd _ => true
  | .requestTransmissionEnd => true
  | .soundStepBoundary _ _ => true
  | .directHornMinEnd => true
  | .directHornInterval _ => true
  | .startupCheckEnd _ => true
  | .readItem => true
  | .writeItem => true
  | .loadEntry => true
  | .readEntry => true
  | .commit => true
  | .readLoadSum => true
  | .readFlags => true
  | .setEnables => true
  | .readRestrictions => true
  | .readJunctions => true
  | .readStops => true
  | .readStep => true
  | .holdSoft => true
  | .holdHard => true
  | .release => true
  | .stepEnter => true
  | .stepOne => true
  | .stepExit => true
  | .enterService => true
  | .restart => true
  | .setRoute => true
  | .unknownRequest => true

end Sys2Proof
end

