-- ==== Sys2Proof/Decode.lean ====
section
/-! DEFINITION. The command that a word spells by the bits of spec/opcode_table.json. No row of
that table gives bits: the part takes events, not encoded commands. The encodings that the spec does
give, of frames, requests, telegrams and scans, are read in Machine/Operands.lean. -/

namespace Sys2Proof

/-- No word spells a command, because no row of the table has bits. -/
def decodeTableWord (_nbits _w : Nat) : Option Instr := none

end Sys2Proof
end

