-- ==== Sys2Proof/Machine/State.lean ====
section
/-! DEFINITION. Everything the part holds, block by block, as plain data, and its reset. Lists are in
the order the spec gives their collection; a list's first element is the oldest, the front or the head. -/

namespace Sys2Proof.Machine

/-! ### Line ports (chapter 1) -/

/-- Link state of a port (R2). -/
inductive LinkState where
  | down | up
  deriving DecidableEq, Repr

/-- Kind of a frame that passed the frame check (R7, R204). -/
inductive Kind where
  | process | manage | response | notify
  deriving DecidableEq, Repr

/-- Where an egress entry came from (R12, R13). -/
inductive Origin where
  | forward | own
  deriving DecidableEq, Repr

/-- A frame of the car line, field by field (R204). -/
structure Frame where
  dest : Byte
  src : Byte
  kind : Kind
  id : Half
  seq : Byte
  payload : List Byte
  check : Half
  deriving DecidableEq, Repr

/-- An entry of an egress queue. -/
structure Entry where
  frame : Frame
  origin : Origin
  deriving DecidableEq, Repr

/-- The seven saturating counters of a port (R17). -/
structure PortCounters where
  forwarded : Half := 0
  checkFail : Half := 0
  rxOverrun : Half := 0
  loop : Half := 0
  fwdDrop : Half := 0
  ownDrop : Half := 0
  linkDiscard : Half := 0
  deriving DecidableEq, Repr

/-- One line port (the state table of chapter 1). -/
structure LinePort where
  link : LinkState := .down
  /-- Milliseconds left of the activity timer, which always runs (R2). -/
  activityLeft : Nat := Config.activityMs
  /-- Milliseconds left of the idle timer; none while it is stopped (R4). -/
  idleLeft : Option Nat := some Config.idleMs
  /-- An idle marker is being sent (R4, R14). -/
  marker : Bool := false
  /-- Received frames awaiting handling, as received (R5). -/
  ingress : List (List Byte) := []
  egress : List Entry := []
  inFlight : Option Entry := none
  /-- Source addresses heard on this port, each once (R9). -/
  seen : List Byte := []
  /-- Frames handed to the classifier and not yet taken by it (R11; log 5). -/
  handed : List Frame := []
  counters : PortCounters := {}
  deriving DecidableEq, Repr

/-- Both ports and what they share (R16). -/
structure LineBlock where
  a : LinePort := {}
  b : LinePort := {}
  /-- Transmit sequence number, wrapping (R16). -/
  txSeq : Byte := 0
  deriving DecidableEq, Repr

/-! ### Frame classifier and signal table (chapter 2) -/

/-- What a window does with a frame it decides (R21). -/
inductive WindowAction where
  | consume | ignore
  deriving DecidableEq, Repr

/-- One window (R20). -/
structure Window where
  enabled : Bool := false
  idBase : Half := 0
  idMask : Half := 0
  action : WindowAction := .ignore
  slotBase : Nat := 0
  limit : Nat := 255
  deriving DecidableEq, Repr

/-- A MANAGE request as queued (section 2.3). -/
structure Request where
  requester : Byte
  code : Byte
  tag : Byte
  payload : List Byte
  deriving DecidableEq, Repr

/-- The frame classifier. -/
structure Classifier where
  windows : List Window := List.replicate 16 {}
  requests : List Request := []
  deriving DecidableEq, Repr

/-- State of a slot (section 2.4). -/
inductive SlotState where
  | never | fresh | stale
  deriving DecidableEq, Repr

/-- One signal slot (R26). -/
structure Slot where
  value : List Byte := []
  source : Option Byte := none
  state : SlotState := .never
  age : Nat := 0
  limit : Nat := 255
  /-- Update count, wrapping (R27). -/
  updates : Byte := 0
  deriving DecidableEq, Repr

/-- The signal table with the three bindings that are configuration items (R32). -/
structure SignalTable where
  slots : List Slot := List.replicate Config.slotCount {}
  lastStale : Option Nat := none
  tickLeft : Nat := Config.ageTickMs
  brakeSlot : Option Nat := none
  doorSlot : Option Nat := none
  stopSlot : Option Nat := none
  deriving DecidableEq, Repr

/-! ### Desk chain interface (chapter 3) -/

/-- Desk state (R40, R42). -/
inductive DeskState where
  | ok | lost
  deriving DecidableEq, Repr

/-- The kind with which DESK is raised (R43). -/
inductive DeskKind where
  | hold | emergency
  deriving DecidableEq, Repr

/-- The desk chain interface. -/
structure Desk where
  scanLeft : Nat := Config.scanMs
  exchangeOpen : Bool := false
  image : Word := 0
  handle : Int := 0
  heldKey : Bool := false
  state : DeskState := .lost
  /-- DESK kind last raised (R46). -/
  raised : Option DeskKind := none
  badRun : Nat := 0
  goodRun : Nat := 0
  badScans : Half := 0
  lamps : Word := 0
  deriving DecidableEq, Repr

/-! ### Traction demand unit (chapter 4) -/

/-- A known speed with the lowest fresh axle speed (R53). -/
structure Speed where
  v : Nat
  vMin : Nat
  deriving DecidableEq, Repr

/-- A breakpoint of a limb (R58). -/
structure Breakpoint where
  speed : Nat := 0
  effort : Nat := 0
  deriving DecidableEq, Repr

/-- A bank of the traction curve (R59). -/
structure Curve where
  power : List Breakpoint := List.replicate 8 {}
  brake : List Breakpoint := List.replicate 8 {}
  valid : Bool := false
  deriving DecidableEq, Repr

/-- A unit entry of the allocation table (R68). -/
structure UnitEntry where
  present : Bool := false
  weight : Nat := 0
  limit : Nat := 0
  axle : Option Nat := none
  status : Option Nat := none
  deriving DecidableEq, Repr

/-- A bank of the allocation table (R68). -/
structure Allocation where
  units : List UnitEntry := List.replicate 4 {}
  valid : Bool := false
  deriving DecidableEq, Repr

/-- Slip factor and clean count of a unit (R71). -/
structure UnitSlip where
  factor : Nat := 100
  clean : Nat := 0
  deriving DecidableEq, Repr

/-- Held, desk or travel direction (R56); the order gives the codes of R205. -/
inductive Direction where
  | fwd | rev | neutral
  deriving DecidableEq, Repr

/-- The TDU's raised marks (R79). -/
structure Marks where
  speedLost : Bool := false
  unitsLost : Bool := false
  brake : Bool := false
  vigil : Bool := false
  handle : Bool := false
  deriving DecidableEq, Repr

/-- The traction configuration items (R76). -/
structure TractionItems where
  deadBand : Nat := 20
  emergBrake : Nat := 800
  holdBrake : Nat := 150
  enforceBrake : Nat := 300
  overspeedBand : Nat := 30
  jerk : Nat := 1500
  vigilWarn : Nat := 2500
  vigilLimit : Nat := 5000
  slipThreshold : Nat := 20
  setpointId : Half := 0x0100
  deriving DecidableEq, Repr

/-- The limb that stage 1 used (R77). -/
inductive Limb where
  | power | brake
  deriving DecidableEq, Repr

/-- A unit's part of the step record (R77). -/
structure UnitRecord where
  available : Bool
  /-- Base share before slip, the remainder included (R70). -/
  base : Nat
  slipping : Bool
  factor : Nat
  allocated : Int
  published : Int
  deriving DecidableEq, Repr

/-- The step record (R77). -/
structure StepRecord where
  period : Word
  /-- Origin STEP; SERVICE otherwise. -/
  stepped : Bool
  speed : Option Speed
  /-- Last known v used: v was unknown (R54; log 35). -/
  lastUsed : Bool
  held : Direction
  handle : Int
  limb : Option (Limb × Nat)
  target1 : Int
  cap : Nat
  hold : Bool
  emergency : Bool
  overspeed : Bool
  target2 : Int
  jerkStep : Nat
  cmdOld : Int
  cmd : Int
  weight : Nat
  remainder : Nat
  cut : Bool
  deficit : Nat
  mech : Nat
  units : List UnitRecord
  deriving DecidableEq, Repr

/-- The desk inputs as the DCI last delivered them to the TDU (R44, R51). -/
structure DriverInputs where
  handle : Int := 0
  deadman : Bool := false
  handleEmerg : Bool := false
  dirFwd : Bool := false
  dirRev : Bool := false
  deriving DecidableEq, Repr

/-- The traction demand unit. -/
structure Traction where
  periodLeft : Nat := Config.periodMs
  periodCount : Word := 0
  curveActive : Curve := {}
  curveShadow : Curve := {}
  allocActive : Allocation := {}
  allocShadow : Allocation := {}
  /-- Speed knowledge: none while v is unknown (R53). -/
  speed : Option Speed := none
  lastV : Nat := 0
  odometer : Word := 0
  acc9 : Nat := 0
  held : Direction := .neutral
  prevDesk : Direction := .neutral
  lastTravel : Option Direction := none
  eCmd : Int := 0
  slips : List UnitSlip := List.replicate 4 {}
  vigil : Nat := 0
  vigilOn : Bool := false
  marks : Marks := {}
  computed : Bool := false
  overspeed : Bool := false
  unitsDegraded : Bool := false
  tractionCut : Bool := false
  record : Option StepRecord := none
  items : TractionItems := {}
  inputs : DriverInputs := {}
  deriving DecidableEq, Repr

/-! ### Restriction list (chapter 5) -/

/-- Source of a restriction, in the order of R81. -/
inductive Source where
  | doors | junction | route | speedLost | unitsLost | brake | vigil | handle | desk | mode
  deriving DecidableEq, Repr

/-- Kind of a restriction with what that kind alone carries: a cap value, a lift request (R81). -/
inductive Restraint where
  | cap (value : Nat)
  | hold
  | emergency (liftRequested : Bool)
  deriving DecidableEq, Repr

/-- An entry of the restriction list (R81). -/
structure Restriction where
  source : Source
  key : Half
  kind : Restraint
  raisedAt : Word
  deriving DecidableEq, Repr

/-! ### Route unit (chapter 6) -/

/-- A point setting; R96's NONE is the absence of one. -/
inductive PointDir where
  | l | s | r
  deriving DecidableEq, Repr

/-- An entry of the route table (R96). -/
structure RouteEntry where
  valid : Bool := false
  idBase : Half := 0
  idMask : Half := 0
  routeMatch : Nat := 0
  dir : Option PointDir := none
  cap : Nat := 0
  confirm : Nat := 0
  clearance : Nat := 0
  autoBell : Bool := false
  pattern : Nat := 0
  deriving DecidableEq, Repr

/-- Where a transaction's direction came from (R102). -/
inductive TxSource where
  | table | manual
  deriving DecidableEq, Repr

/-- State of a transaction, in the order of R102. -/
inductive TxState where
  | announced | requesting | confirmed | unconfirmed | proceed | awaitDriver | notRequired
  deriving DecidableEq, Repr

/-- A junction transaction (R102). -/
structure Transaction where
  junction : Half
  entry : Option Nat
  dir : Option PointDir
  source : TxSource
  state : TxState
  attempts : Nat
  lastSeq : Option Byte
  /-- Remaining distance in millimetres (R102, R117). -/
  remaining : Int
  confirm : Nat
  clearance : Nat
  cap : Nat
  deriving DecidableEq, Repr

/-- NO_MATCH_POLICY (R100). -/
inductive NoMatch where
  | pass | manual
  deriving DecidableEq, Repr

/-- The route configuration items (R100). -/
structure RouteItems where
  tramNumber : Half := 0
  confirmTimeout : Nat := 300
  shortRetries : Nat := 2
  defaultCap : Nat := 150
  proceedCap : Nat := 50
  defaultClearance : Nat := 40
  noMatch : NoMatch := .manual
  deriving DecidableEq, Repr

/-- The route unit. -/
structure RouteUnit where
  active : List RouteEntry := List.replicate 48 {}
  shadow : List RouteEntry := List.replicate 48 {}
  queue : List Transaction := []
  /-- Milliseconds left of the attempt timer; none while it is stopped (R111). -/
  attempt : Option Nat := none
  seq : Byte := 0
  routeNumber : Nat := 0
  mark : Bool := false
  items : RouteItems := {}
  /-- Clock at which the attempt timer was last restarted while it ran; none when it was started from a
  stop (the model's own, R114; log 61). -/
  restartedAt : Option Nat := none
  deriving DecidableEq, Repr

/-! ### Track link port (chapter 7) -/

/-- Transceiver state. -/
inductive Transceiver where
  | listen | receiving | transmitting
  deriving DecidableEq, Repr

/-- Link condition (R134). -/
inductive LinkCondition where
  | ok | fault
  deriving DecidableEq, Repr

/-- A REQUEST (R109). -/
structure PointRequest where
  tram : Half
  junction : Half
  dir : PointDir
  seq : Byte
  route : Nat
  deriving DecidableEq, Repr

/-- The reception in progress (R127 to R132). -/
structure Reception where
  /-- Lost to a transmission (R132). -/
  lost : Bool
  /-- Spoiled by another arrival on the carrier (R129, R139). -/
  spoiled : Bool
  /-- Arrivals of this reception whose end has not come (R129; log 11). -/
  arrivals : Nat
  deriving DecidableEq, Repr

/-- The track link port. -/
structure TrackLink where
  state : Transceiver := .listen
  reception : Option Reception := none
  /-- Arrivals still under way whose reception was abandoned (R139; log 11). -/
  abandoned : Nat := 0
  slot : Option PointRequest := none
  inFlight : Option PointRequest := none
  /-- Clock at which the REQUEST in flight started from the pending slot at the end of a transmission;
  none when it started otherwise (the model's own, R133; log 45). -/
  slotStart : Option Nat := none
  condition : LinkCondition := .ok
  run : Nat := 0
  rxGood : Half := 0
  rxBad : Half := 0
  collide : Half := 0
  txSent : Half := 0
  /-- Retry counter, wrapping (R137). -/
  retry : Half := 0
  rollover : Bool := false
  deriving DecidableEq, Repr

/-! ### Stop request unit (chapter 8) -/

/-- Kind of a stop source (R140). -/
inductive StopKind where
  | normal | assist
  deriving DecidableEq, Repr

/-- An entry of the stop source table (R140). -/
structure StopSource where
  enabled : Bool := false
  kind : StopKind := .normal
  deriving DecidableEq, Repr

/-- An entry of the stop request list (R146). -/
structure StopEntry where
  source : Nat
  kind : StopKind
  registeredAt : Word
  deriving DecidableEq, Repr

/-- Door state (section 8.4). -/
inductive DoorState where
  | closedLocked | released | closing
  deriving DecidableEq, Repr

/-- Released sides. -/
structure Sides where
  left : Bool := false
  right : Bool := false
  deriving DecidableEq, Repr

/-- The readings of a FRESH door summary (R33, R153). -/
structure DoorView where
  closed : Bool
  locked : Bool
  deriving DecidableEq, Repr

/-- The stop request unit. -/
structure StopUnit where
  sources : List StopSource := List.replicate 32 {}
  image : Word := 0
  armed : Word := 0xFFFFFFFF
  list : List StopEntry := []
  door : DoorState := .closedLocked
  sides : Sides := {}
  /-- Door summary view: none while it is not FRESH (R153). -/
  view : Option DoorView := none
  mark : Bool := false
  doorCommandId : Half := 0x0101
  stopDisplayId : Half := 0x0102
  deriving DecidableEq, Repr

/-! ### Sounder sequencer (chapter 9) -/

/-- A pattern table entry (R159). -/
structure Pattern where
  valid : Bool := false
  word1 : Half := 0
  repeats1 : Nat := 1
  word2 : Half := 0
  repeats2 : Nat := 0
  stepTime : Nat := 1
  deriving DecidableEq, Repr

/-- Source of a sound request, in the order of R163. -/
inductive SoundSource where
  | driver | vigil | doors | route | stops
  deriving DecidableEq, Repr

/-- A sound request (R162, R163). -/
structure SoundRequest where
  pattern : Nat
  source : SoundSource
  priority : Nat
  deriving DecidableEq, Repr

/-- The playing record (R162). -/
structure Playing where
  request : SoundRequest
  /-- Segment 2 is playing; segment 1 otherwise. -/
  second : Bool
  repeatsLeft : Nat
  step : Nat
  deriving DecidableEq, Repr

/-- A sounder channel (R162). -/
structure SoundChannel where
  playing : Option Playing := none
  queue : List SoundRequest := []
  /-- Milliseconds left of the step timer; none while it is stopped. -/
  stepLeft : Option Nat := none
  output : Bool := false
  isOpen : Bool := false
  deriving DecidableEq, Repr

/-- The direct horn while it is active (R169). -/
structure DirectHorn where
  pressTime : Nat
  held : Bool
  /-- Milliseconds left of the minimum on-time (R169). -/
  minLeft : Nat
  /-- Milliseconds left of the open-load interval (R171). -/
  intervalLeft : Nat
  deriving DecidableEq, Repr

/-- The pattern items (R161). -/
structure PatternItems where
  stopPat : Nat := 0
  assistPat : Nat := 1
  doorClosingPat : Nat := 2
  vigilPat : Nat := 3
  driverBellPat : Nat := 4
  emergHornPat : Nat := 5
  deriving DecidableEq, Repr

/-- The sounder sequencer. -/
structure Sounder where
  patterns : List Pattern := List.replicate 16 {}
  items : PatternItems := {}
  horn : SoundChannel := {}
  bell : SoundChannel := {}
  chime : SoundChannel := {}
  direct : Option DirectHorn := none
  /-- HORN level as last delivered (R44). -/
  hornLevel : Bool := false
  deriving DecidableEq, Repr

/-! ### Event flags, modes (chapters 10, 11) -/

/-- Map of flags to notify channels (R190). -/
inductive MapMode where
  | block | interleave
  deriving DecidableEq, Repr

/-- A notify channel's settings (R190). -/
structure NotifyChannel where
  enable : Bool := false
  dest : Nat := 0
  deriving DecidableEq, Repr

/-- The event flag array and notifier. -/
structure Notifier where
  /-- Bit n is flag n (R186). -/
  flags : BitVec 64 := 0
  enables : BitVec 64 := 0
  channels : List NotifyChannel := List.replicate 4 {}
  map : MapMode := .block
  deriving DecidableEq, Repr

/-- Operating mode; the order gives the codes of R208. -/
inductive Mode where
  | starting | failed | configure | service | holdPending | hold | step | standby
  deriving DecidableEq, Repr

/-- Mode control and management responder. -/
structure Control where
  mode : Mode := .failed
  /-- Own node address; none where the straps gave none (R1). -/
  address : Option Byte := none
  checkLeft : Nat := 0
  loadSum : Word := 0
  deriving DecidableEq, Repr

/-- The model's own counters, not the spec's (log 1, log 26). -/
structure Environment where
  /-- Milliseconds since power-on. -/
  clock : Nat := 0
  /-- Index of the next free value. -/
  free : Nat := 0
  deriving DecidableEq, Repr

/-- The MODE/HOLD entry that power-on leaves in the restriction list (R92). -/
def modeHoldAtPowerOn : Restriction := ⟨.mode, 0, .hold, 0⟩

/-- The whole part, and the queue of commands that wait. -/
structure State where
  line : LineBlock := {}
  fcl : Classifier := {}
  sgt : SignalTable := {}
  dci : Desk := {}
  tdu : Traction := {}
  rsl : List Restriction := [modeHoldAtPowerOn]
  rtu : RouteUnit := {}
  tlk : TrackLink := {}
  sru : StopUnit := {}
  ssq : Sounder := {}
  efn : Notifier := {}
  mcr : Control := {}
  env : Environment := {}
  /-- Waiting commands, first in, first out. -/
  pending : List Instr := []
  deriving DecidableEq, Repr

/-- Every block at its power-on values, the straps reading 0 (R193; log 2). -/
def State.reset : State := {}

/-- Reasons to stop with a fault. There is none: every error the spec describes is counted, flagged
or answered and leaves a next state. -/
inductive Fault where
  deriving DecidableEq, Repr

/-- Reasons to refuse a command. -/
inductive Refusal where
  /-- Raised by `exec` alone, for a command with no meaning yet; safe. No arm raises it now. -/
  | notModelled (mnemonic : String)
  deriving DecidableEq, Repr

end Sys2Proof.Machine
end

