-- ==== Sys2Proof/Machine/Operands.lean ====
section
/-! DEFINITION. The byte layouts of chapter 12: reading frames, requests, telegrams and scans, and
writing frames, telegrams and PROCESS payloads. Multi-byte numbers have their most significant byte
first (R204). -/

namespace Sys2Proof.Machine

/-- A number as one byte. -/
def byte1 (n : Nat) : List Byte := [BitVec.ofNat 8 n]

/-- A 16-bit number, most significant byte first. -/
def half2 (h : Half) : List Byte := [h.extractLsb' 8 8, h.extractLsb' 0 8]

/-- A 32-bit number, most significant byte first. -/
def word4 (w : Word) : List Byte :=
  [w.extractLsb' 24 8, w.extractLsb' 16 8, w.extractLsb' 8 8, w.extractLsb' 0 8]

/-- An unsigned number in 2 bytes. -/
def nat2 (n : Nat) : List Byte := half2 (BitVec.ofNat 16 n)

/-- A signed number in 2 bytes of two's complement. -/
def int2 (i : Int) : List Byte := half2 (BitVec.ofInt 16 i)

/-- A signed number in 4 bytes of two's complement: a single-valued item (R207). -/
def int4 (i : Int) : List Byte := word4 (BitVec.ofInt 32 i)

/-- A yes, set, on or held value as one byte (R204). -/
def flag1 (b : Bool) : List Byte := byte1 (if b then 1 else 0)

/-- NONE or an absent field: all ones across its bytes (R204). -/
def absent (bytes : Nat) : List Byte := List.replicate bytes 0xFF

/-- Two bytes as a 16-bit number. -/
def be2 (hi lo : Byte) : Half := hi ++ lo

/-- Four bytes as a 32-bit number. -/
def be4 (b3 b2 b1 b0 : Byte) : Word := b3 ++ b2 ++ b1 ++ b0

/-- The wrapping 16-bit sum of bytes (section 0.5). -/
def sum16 (bs : List Byte) : Half := bs.foldl (fun acc b => acc + b.setWidth 16) 0

/-- The wrapping 8-bit sum of bytes (R37). -/
def sum8 (bs : List Byte) : Byte := bs.foldl (fun acc b => acc + b) 0

/-- The wrapping 32-bit sum of bytes (R181). -/
def sum32 (bs : List Byte) : Word := bs.foldl (fun acc b => acc + b.setWidth 32) 0

/-- The exclusive-OR of bytes (R209). -/
def xor8 (bs : List Byte) : Byte := bs.foldl (fun acc b => acc ^^^ b) 0

/-- The frame check of bytes 0 to 6 + L: the complement of their sum (R7, R204). -/
def frameCheck (bs : List Byte) : Half := ~~~ sum16 bs

/-! ### Frames (R7, R204) -/

/-- Code of a frame kind (R204). -/
def Kind.code : Kind → Byte
  | .process => 0
  | .manage => 1
  | .response => 2
  | .notify => 3

/-- The kind a byte names, if it names one (R204). -/
def Kind.ofCode (b : Byte) : Option Kind :=
  match b.toNat with
  | 0 => some .process
  | 1 => some .manage
  | 2 => some .response
  | 3 => some .notify
  | _ => none

/-- The 7 header bytes of a frame (R204). -/
def frameHeader (dest src : Byte) (kind : Kind) (id : Half) (seq : Byte) (payload : List Byte) : List Byte :=
  [dest, src, kind.code] ++ half2 id ++ [seq, BitVec.ofNat 8 payload.length]

/-- A frame as sent: header, payload, check (R204). -/
def Frame.encode (f : Frame) : List Byte :=
  frameHeader f.dest f.src f.kind f.id f.seq f.payload ++ f.payload ++ half2 f.check

/-- A frame with its check filled in (R204). -/
def Frame.make (dest src : Byte) (kind : Kind) (id : Half) (seq : Byte) (payload : List Byte) : Frame :=
  ⟨dest, src, kind, id, seq, payload, frameCheck (frameHeader dest src kind id seq payload ++ payload)⟩

/-- The address conditions of the frame check (R7). -/
def addressesAccepted (dest src : Byte) (kind : Kind) : Bool :=
  decide (1 ≤ dest.toNat) && decide (dest.toNat ≤ 63) && decide (1 ≤ src.toNat) && decide (src.toNat ≤ 62) &&
    (kind != .process || dest == 63)

/-- The frame check on received bytes: the frame when every condition of R7 holds. -/
def acceptFrame (bytes : List Byte) : Option Frame :=
  match bytes with
  | dest :: src :: kind :: idHi :: idLo :: seq :: len :: rest =>
    match Kind.ofCode kind, rest.drop len.toNat with
    | some k, [checkHi, checkLo] =>
      if len.toNat ≤ 32 ∧ be2 checkHi checkLo = frameCheck (bytes.take (7 + len.toNat)) ∧
          addressesAccepted dest src k = true then
        some ⟨dest, src, k, be2 idHi idLo, seq, rest.take len.toNat, be2 checkHi checkLo⟩
      else none
    | _, _ => none
  | _ => none

/-- The request that a MANAGE frame carries: the code is the id's high byte, the tag its low byte (R206). -/
def Frame.request (f : Frame) : Request :=
  ⟨f.src, f.id.extractLsb' 8 8, f.id.extractLsb' 0 8, f.payload⟩

/-! ### Own PROCESS payloads (R205) -/

/-- Code of a direction (R205). -/
def Direction.code : Direction → Nat
  | .fwd => 0
  | .rev => 1
  | .neutral => 2

/-- Bits of one byte, bit 0 first (R204: unused bits are 0). -/
def bits1 (bs : List Bool) : List Byte :=
  byte1 ((bs.zipIdx.map fun (b, i) => if b then 2 ^ i else 0).sum)

/-- SETPOINT (R205). -/
def setpointPayload (held : Direction) (shares : List Int) (mech : Nat) (emergency hold overspeed : Bool)
    (deficit : Nat) : List Byte :=
  byte1 held.code ++ ((List.range 4).map fun u => int2 (shares.getD u 0)).flatten ++ nat2 mech ++
    bits1 [emergency, hold, overspeed] ++ nat2 deficit

/-- DOOR_COMMAND of type RELEASE with the released sides (R156, R205). -/
def releasePayload (sides : Sides) : List Byte := byte1 0 ++ bits1 [sides.left, sides.right]

/-- DOOR_COMMAND of type CLOSE (R205). -/
def closePayload : List Byte := byte1 1 ++ byte1 0

/-- STOP_DISPLAY (R205). -/
def stopDisplayPayload (stop assist : Bool) : List Byte := bits1 [stop, assist]

/-! ### Track telegrams (R128, R209) -/

/-- Code of a point setting (R209). -/
def PointDir.code : PointDir → Nat
  | .l => 0
  | .s => 1
  | .r => 2

/-- The point setting a byte names, if it names one (R209). -/
def PointDir.ofCode (b : Byte) : Option PointDir :=
  match b.toNat with
  | 0 => some .l
  | 1 => some .s
  | 2 => some .r
  | _ => none

/-- State in a CONFIRM (R112). -/
inductive ConfirmState where
  | setLocked | setMoving | refused
  deriving DecidableEq, Repr

/-- The CONFIRM state a byte names, if it names one (R209). -/
def ConfirmState.ofCode (b : Byte) : Option ConfirmState :=
  match b.toNat with
  | 0 => some .setLocked
  | 1 => some .setMoving
  | 2 => some .refused
  | _ => none

/-- A good telegram (R128). -/
inductive Telegram where
  | approach (junction : Half) (distance : Nat)
  | clear (junction : Half)
  | confirm (junction tram : Half) (seq : Byte) (dir : PointDir) (state : ConfirmState)
  /-- A REQUEST from another transmitter, counted and not delivered. -/
  | request
  deriving DecidableEq, Repr

/-- The telegram in bytes without their check byte, by type code and length (R128, R209). -/
def telegramBody (body : List Byte) : Option Telegram :=
  match body with
  | [1, j1, j0, d] => some (.approach (be2 j1 j0) d.toNat)
  | [2, j1, j0] => some (.clear (be2 j1 j0))
  | [3, j1, j0, t1, t0, q, dir, st] =>
    match PointDir.ofCode dir, ConfirmState.ofCode st with
    | some d, some c => some (.confirm (be2 j1 j0) (be2 t1 t0) q d c)
    | _, _ => none
  | [4, _, _, _, _, dir, _, _, _] => (PointDir.ofCode dir).map fun _ => .request
  | _ => none

/-- The telegram check: a good telegram, or none for a bad one (R128). -/
def acceptTelegram (bytes : List Byte) : Option Telegram :=
  if bytes.getLast? = some (xor8 bytes.dropLast) then telegramBody bytes.dropLast else none

/-- A REQUEST as sent (R209). -/
def PointRequest.encode (r : PointRequest) : List Byte :=
  let body := byte1 4 ++ half2 r.tram ++ half2 r.junction ++ byte1 r.dir.code ++ [r.seq] ++ nat2 r.route
  body ++ [xor8 body]

/-! ### Desk scan (R37, R210) -/

/-- Input bit numbers of the desk (R210). -/
inductive DeskInput where
  | keyOn | deadman | handleEmerg | dirFwd | dirRev | horn | bell | routeL
  | routeS | routeR | proceed | doorRelL | doorRelR | doorClose | stopCancel | lampTest
  deriving DecidableEq, Repr

/-- Bit number of a desk input (R210). -/
def DeskInput.bit : DeskInput → Nat
  | .keyOn => 0
  | .deadman => 1
  | .handleEmerg => 2
  | .dirFwd => 3
  | .dirRev => 4
  | .horn => 5
  | .bell => 6
  | .routeL => 7
  | .routeS => 8
  | .routeR => 9
  | .proceed => 10
  | .doorRelL => 11
  | .doorRelR => 12
  | .doorClose => 13
  | .stopCancel => 14
  | .lampTest => 15

/-- An input of an image is held. -/
def heldIn (image : Word) (i : DeskInput) : Bool := image.getLsbD i.bit

/-- A handle count clamped to -1000..+1000 (R37). -/
def clampHandle (count : Int) : Int := max (-1000) (min 1000 count)

/-- A good scan's 32 input bits and clamped handle, or none for a bad scan (R37, R210). DESIGN CHOICE: the
count is two's complement throughout, so 7FFh is -1 (log 44). -/
def acceptScan (bytes : List Byte) : Option (Word × Int) :=
  match bytes with
  | [b0, b1, b2, b3, h1, h0, check] =>
    if check = sum8 [b0, b1, b2, b3, h1, h0] then
      some (be4 b0 b1 b2 b3, clampHandle ((be2 h1 h0).extractLsb' 0 11).toInt)
    else none
  | _ => none

end Sys2Proof.Machine
end

