-- ==== Sys2Proof/Machine/Flags.lean ====
section
/-! DEFINITION. The 64 event flags and the notify channels they are mapped to (R186, R190). -/

namespace Sys2Proof.Machine

/-- The event flags (R186). -/
inductive Flag where
  | linkDown | fwdDrop | ownDrop | mgmtOverrun | slotRange | slotTrunc | slotStale | slotShort | liveWrite
  | deskLost | deskOk | speedLost | dirHeld | brakeFault | vigilWarn | vigilTrip | handleEmerg | unitsLost
  | rslChange
  | jqFull | jqAbandon | lateConfirm | jnUnconfirmed | trackCollide | trackFault | trackOk | retryRollover
  | stopFirst | assistFirst | doorRelRefused | soundDrop | soundOpenHorn | soundOpenBell | soundOpenChime
  deriving DecidableEq, Repr

/-- Number of a flag (R186). -/
def Flag.number : Flag → Nat
  | .linkDown => 0
  | .fwdDrop => 1
  | .ownDrop => 2
  | .mgmtOverrun => 3
  | .slotRange => 4
  | .slotTrunc => 5
  | .slotStale => 6
  | .slotShort => 7
  | .liveWrite => 8
  | .deskLost => 16
  | .deskOk => 17
  | .speedLost => 18
  | .dirHeld => 19
  | .brakeFault => 20
  | .vigilWarn => 21
  | .vigilTrip => 22
  | .handleEmerg => 23
  | .unitsLost => 24
  | .rslChange => 25
  | .jqFull => 32
  | .jqAbandon => 33
  | .lateConfirm => 34
  | .jnUnconfirmed => 35
  | .trackCollide => 36
  | .trackFault => 37
  | .trackOk => 38
  | .retryRollover => 39
  | .stopFirst => 48
  | .assistFirst => 49
  | .doorRelRefused => 50
  | .soundDrop => 51
  | .soundOpenHorn => 52
  | .soundOpenBell => 53
  | .soundOpenChime => 54

/-- The flag at a position of a channel: in BLOCK channel n / 16, position n mod 16; in INTERLEAVE
channel n mod 4, position n / 4 (R190). -/
def flagAt (map : MapMode) (channel position : Nat) : Nat :=
  match map with
  | .block => 16 * channel + position
  | .interleave => 4 * position + channel

/-- The channel of a flag (R190). -/
def channelOf (map : MapMode) (n : Nat) : Nat :=
  match map with
  | .block => n / 16
  | .interleave => n % 4

/-- A flag counts for its channel: it is set and enabled (R190). -/
def Notifier.counts (e : Notifier) (n : Nat) : Bool := e.flags.getLsbD n && e.enables.getLsbD n

/-- A channel is raised: at least one of its flags is both set and enabled (R190). -/
def Notifier.raised (e : Notifier) (channel : Nat) : Bool :=
  (List.range 16).any fun p => e.counts (flagAt e.map channel p)

/-- Set states of a channel's 16 flags in position order (R191, R207). -/
def Notifier.channelFlags (e : Notifier) (channel : Nat) : Half :=
  BitVec.ofNat 16 (((List.range 16).map fun p => if e.flags.getLsbD (flagAt e.map channel p) then 2 ^ p else 0).sum)

/-- A flag set (R187). -/
def Notifier.set (e : Notifier) (f : Flag) : Notifier := { e with flags := e.flags ||| BitVec.twoPow 64 f.number }

/-- A flag is set. -/
def Notifier.isSet (e : Notifier) (f : Flag) : Bool := e.flags.getLsbD f.number

/-- A notify channel's settings. -/
def Notifier.channel (e : Notifier) (c : Nat) : NotifyChannel := e.channels.getD c {}

/-- NOTIFY payload: the map mode, then the channel's flags (R191, R207). -/
def Notifier.payload (e : Notifier) (channel : Nat) : List Byte :=
  byte1 (match e.map with | .block => 0 | .interleave => 1) ++ half2 (e.channelFlags channel)

end Sys2Proof.Machine
end

