-- ==== Sys2Proof/Machine/Ops.lean ====
section
/-! DEFINITION. The shared operations: block updates, ports and their egress queues, the part's own
frames, event flags with their NOTIFY frames, the restriction list, and the passing of time. -/

namespace Sys2Proof.Machine

/-! ### Block updates -/

/-- The ports replaced. -/
def State.withLine (s : State) (x : LineBlock) : State := { s with line := x }
/-- The frame classifier replaced. -/
def State.withFcl (s : State) (x : Classifier) : State := { s with fcl := x }
/-- The signal table replaced. -/
def State.withSgt (s : State) (x : SignalTable) : State := { s with sgt := x }
/-- The desk chain interface replaced. -/
def State.withDci (s : State) (x : Desk) : State := { s with dci := x }
/-- The traction demand unit replaced. -/
def State.withTdu (s : State) (x : Traction) : State := { s with tdu := x }
/-- The restriction list replaced. -/
def State.withRsl (s : State) (x : List Restriction) : State := { s with rsl := x }
/-- The route unit replaced. -/
def State.withRtu (s : State) (x : RouteUnit) : State := { s with rtu := x }
/-- The track link replaced. -/
def State.withTlk (s : State) (x : TrackLink) : State := { s with tlk := x }
/-- The stop request unit replaced. -/
def State.withSru (s : State) (x : StopUnit) : State := { s with sru := x }
/-- The sounder sequencer replaced. -/
def State.withSsq (s : State) (x : Sounder) : State := { s with ssq := x }
/-- The notifier replaced. -/
def State.withEfn (s : State) (x : Notifier) : State := { s with efn := x }
/-- The mode control replaced. -/
def State.withMcr (s : State) (x : Control) : State := { s with mcr := x }
/-- The model's own counters replaced. -/
def State.withEnv (s : State) (x : Environment) : State := { s with env := x }
/-- The queue of waiting commands replaced. -/
def State.withPending (s : State) (x : List Instr) : State := { s with pending := x }

/-- The next free value's index is used up (log 26). -/
def State.bumpFree (s : State) : State := s.withEnv { s.env with free := s.env.free + 1 }

/-! ### Modes -/

/-- The modes in which the desk's inputs, the stops, the doors and DOORS are served (R44, R142, R154). -/
def Mode.active : Mode → Bool
  | .configure | .service | .holdPending | .hold | .step => true
  | .starting | .failed | .standby => false

/-- SERVICE and HOLD_PENDING, in which periods are computed (R50). -/
def Mode.driving : Mode → Bool
  | .service | .holdPending => true
  | _ => false

/-- The modes in which NOTIFY frames are queued (R191) and the sounders sound (R172). -/
def Mode.sounding : Mode → Bool
  | .configure | .service | .holdPending => true
  | _ => false

/-- The modes in which the RTU acts (R104). -/
def Mode.routing : Mode → Bool
  | .service | .holdPending | .hold | .step => true
  | _ => false

/-- The modes in which held configuration is written and windows are loaded (R23, section 10.2). -/
def Mode.held : Mode → Bool
  | .configure | .hold => true
  | _ => false

/-! ### Ports -/

/-- A port of the line block. -/
def LineBlock.port (l : LineBlock) : Line → LinePort
  | .a => l.a
  | .b => l.b

/-- A port replaced. -/
def LineBlock.withPort (l : LineBlock) (p : Line) (x : LinePort) : LineBlock :=
  match p with
  | .a => { l with a := x }
  | .b => { l with b := x }

/-- The other port. -/
def otherPort : Line → Line
  | .a => .b
  | .b => .a

/-- A port of the part. -/
def State.port (s : State) (p : Line) : LinePort := s.line.port p

/-- A port of the part replaced. -/
def State.withPort (s : State) (p : Line) (x : LinePort) : State := s.withLine (s.line.withPort p x)

/-- LINK_DISCARD counted (R3, R15). -/
def LinePort.countDiscard (p : LinePort) : LinePort :=
  { p with counters := { p.counters with linkDiscard := satInc p.counters.linkDiscard } }

/-- FWD_DROP counted (R12, R13). -/
def LinePort.countFwdDrop (p : LinePort) : LinePort :=
  { p with counters := { p.counters with fwdDrop := satInc p.counters.fwdDrop } }

/-- OWN_DROP counted (R13, R16). -/
def LinePort.countOwnDrop (p : LinePort) : LinePort :=
  { p with counters := { p.counters with ownDrop := satInc p.counters.ownDrop } }

/-- The front frame starts its transmission when the port is UP, nothing is in flight and no idle
marker is being sent (R14). -/
def LinePort.startIfReady (p : LinePort) : LinePort :=
  match p.link, p.inFlight, p.marker, p.egress with
  | .up, none, false, e :: rest => { p with inFlight := some e, egress := rest }
  | _, _, _, _ => p

/-- An entry goes to the back of the queue; the idle timer is stopped, and the front frame starts if
it can (R4, R12, R13, R14). -/
def LinePort.append (p : LinePort) (e : Entry) : LinePort :=
  LinePort.startIfReady { p with egress := p.egress ++ [e], idleLeft := none }

/-- The queue has become empty by a flush: the idle timer starts afresh if nothing is in flight and
it is stopped (R3, R4, R18). -/
def LinePort.restartIdle (p : LinePort) : LinePort :=
  match p.inFlight, p.idleLeft with
  | none, none => { p with idleLeft := some Config.idleMs }
  | _, _ => p

/-- A FORWARD frame presented to a port (R12, R15); true when FWD_DROP is to be set. -/
def LinePort.presentForward (p : LinePort) (f : Frame) : LinePort × Bool :=
  match p.link with
  | .down => (p.countDiscard, false)
  | .up =>
    if p.egress.length < Config.egressPlaces then (p.append ⟨f, .forward⟩, false)
    else (p.countFwdDrop, true)

/-- A queued entry that a new own frame replaces: an own PROCESS entry of its signal id (R13). -/
def Entry.replacedBy (e : Entry) (f : Frame) : Bool :=
  f.kind == .process && e.origin == .own && e.frame.kind == .process && e.frame.id == f.id

/-- The first entry that satisfies `q` replaced by `x`. -/
def replaceFirst {α : Type} (q : α → Bool) (x : α) : List α → List α
  | [] => []
  | y :: ys => if q y then x :: ys else y :: replaceFirst q x ys

/-- An OWN frame presented to a port (R13, R15); the flags say whether FWD_DROP and OWN_DROP are to be set. -/
def LinePort.presentOwn (p : LinePort) (f : Frame) : LinePort × Bool × Bool :=
  match p.link with
  | .down => (p.countDiscard, false, false)
  | .up =>
    if p.egress.any (·.replacedBy f) then
      ({ p with egress := replaceFirst (·.replacedBy f) ⟨f, .own⟩ p.egress }, false, false)
    else if p.egress.length < Config.egressPlaces then (p.append ⟨f, .own⟩, false, false)
    else if p.egress.any (fun e => e.origin == Origin.forward) then
      (LinePort.append ({ p with egress := p.egress.eraseP (fun e => e.origin == Origin.forward) }.countFwdDrop) ⟨f, .own⟩, true, false)
    else (p.countOwnDrop, false, true)

/-! ### The part's own frames (R16) -/

/-- Which ports an own frame is presented to (R16). -/
inductive Route where
  | both | only (p : Line) | nowhere
  deriving DecidableEq, Repr

/-- The port choice for an own frame's destination (R16). -/
def LineBlock.routeTo (l : LineBlock) (own dest : Byte) : Route :=
  if dest = 63 then .both
  else if dest = 0 ∨ dest = own then .nowhere
  else
    match l.a.seen.contains dest, l.b.seen.contains dest with
    | true, false => .only .a
    | false, true => .only .b
    | _, _ => .both

/-- An own frame presented to the ports of its route; the flags say whether FWD_DROP and OWN_DROP are
to be set. -/
def LineBlock.presentOwn (l : LineBlock) (r : Route) (f : Frame) : LineBlock × Bool × Bool :=
  match r with
  | .nowhere => ({ l with a := l.a.countOwnDrop, b := l.b.countOwnDrop }, false, true)
  | .only p =>
    let (x, fd, od) := (l.port p).presentOwn f
    (l.withPort p x, fd, od)
  | .both =>
    let (a, fdA, odA) := l.a.presentOwn f
    let (b, fdB, odB) := l.b.presentOwn f
    ({ l with a := a, b := b }, fdA || fdB, odA || odB)

/-- An own frame made and presented: source, sequence number and check filled in, the sequence
number incremented. A part with no node address makes none (R1, R16). The flags say whether FWD_DROP
and OWN_DROP are to be set. -/
def State.present (s : State) (kind : Kind) (dest : Byte) (id : Half) (payload : List Byte) : State × Bool × Bool :=
  match s.mcr.address with
  | none => (s, false, false)
  | some own =>
    let f := Frame.make dest own kind id s.line.txSeq payload
    let (l, fd, od) := s.line.presentOwn (s.line.routeTo own dest) f
    (s.withLine { l with txSeq := s.line.txSeq + 1 }, fd, od)

/-! ### Event flags and NOTIFY (R187, R190, R191) -/

/-- A NOTIFY of a channel presented (R191). -/
def State.presentNotify (s : State) (channel : Nat) : State × Bool × Bool :=
  s.present .notify (BitVec.ofNat 8 (s.efn.channel channel).dest) (BitVec.ofNat 16 channel) (s.efn.payload channel)

/-- A NOTIFY may be queued for a channel: its enable is on and the mode notifies (R191). The node
address is tested by `State.present`. -/
def State.mayNotify (s : State) (channel : Nat) : Bool := (s.efn.channel channel).enable && s.mcr.mode.sounding

/-- A flag set, with the NOTIFY of a channel that it takes from quiet to raised (R187, R190, R191).
The presentation of that NOTIFY may itself call for FWD_DROP or OWN_DROP: these are set after it
(log 8). Each NOTIFY takes another channel from quiet to raised, so `depth` 4 is never used up (log 30). -/
def State.setFlagTo (depth : Nat) (f : Flag) (s : State) : State :=
  let before := s.efn.raised (channelOf s.efn.map f.number)
  let s1 := s.withEfn (s.efn.set f)
  match depth with
  | 0 => s1
  | n + 1 =>
    let c := channelOf s.efn.map f.number
    if !before && s1.efn.raised c && s1.mayNotify c then
      let (s2, fd, od) := s1.presentNotify c
      let s3 := if fd then setFlagTo n .fwdDrop s2 else s2
      if od then setFlagTo n .ownDrop s3 else s3
    else s1

/-- A block's set request for a flag (R187). -/
def State.setFlag (s : State) (f : Flag) : State := State.setFlagTo 4 f s

/-- FWD_DROP and OWN_DROP set as a presentation calls for (R12, R13, R16). -/
def State.setDrops (s : State) (fd od : Bool) : State :=
  let s1 := if fd then s.setFlag .fwdDrop else s
  if od then s1.setFlag .ownDrop else s1

/-- An own frame sent: presented to its ports, then the drop flags it calls for (R13, R16). -/
def State.sendOwn (s : State) (kind : Kind) (dest : Byte) (id : Half) (payload : List Byte) : State :=
  let (s1, fd, od) := s.present kind dest id payload
  s1.setDrops fd od

/-- An own PROCESS frame sent to every node (R75, R148, R156). -/
def State.publish (s : State) (id : Half) (payload : List Byte) : State := s.sendOwn .process 63 id payload

/-- A NOTIFY of a channel sent (R191). -/
def State.sendNotify (s : State) (channel : Nat) : State :=
  let (s1, fd, od) := s.presentNotify channel
  s1.setDrops fd od

/-- One NOTIFY for each channel of a list that may notify, in the list's order (R189, R190, R192).
DESIGN CHOICE: each payload is taken when its NOTIFY is made, after the drop flags that an earlier one's
presentation set (R191; log 50). -/
def State.notifyAll (s : State) (channels : List Nat) : State :=
  channels.foldl (fun acc c => if acc.mayNotify c then acc.sendNotify c else acc) s

/-- The channels judged after the enables or the map changed: those that went from quiet to raised
queue a NOTIFY (R189, R190). -/
def State.judgeChannels (s : State) (before : Notifier) : State :=
  s.notifyAll ((List.range 4).filter fun c => !before.raised c && s.efn.raised c)

/-- The report on entry to a notifying mode: one NOTIFY for each raised, enabled channel (R192). -/
def State.reportChannels (s : State) : State := s.notifyAll ((List.range 4).filter fun c => s.efn.raised c)

/-! ### Restriction list (R84 to R88) -/

/-- The kind an entry takes when a raise names it (the table of R85); a raise of EMERGENCY is written
with its lift request clear. -/
def Restraint.raisedBy (held raised : Restraint) : Restraint :=
  match held, raised with
  | .emergency _, .emergency _ => .emergency false
  | .emergency l, _ => .emergency l
  | _, .emergency _ => .emergency false
  | _, r => r

/-- An entry is that of a source and key (R81). -/
def Restriction.names (e : Restriction) (source : Source) (key : Half) : Bool := e.source == source && e.key == key

/-- The entry of a source and key, if the list holds one. -/
def findRestriction (l : List Restriction) (source : Source) (key : Half) : Option Restriction :=
  l.find? (·.names source key)

/-- A raise (R84, R85). A raise that reaches the list in STANDBY is ignored (R94). -/
def State.raise (s : State) (source : Source) (key : Half) (kind : Restraint) : State :=
  if s.mcr.mode = .standby then s
  else
    match findRestriction s.rsl source key with
    | none => (s.withRsl (s.rsl ++ [⟨source, key, kind, s.tdu.periodCount⟩])).setFlag .rslChange
    | some e =>
      if e.kind.raisedBy kind = e.kind then s
      else
        (s.withRsl (replaceFirst (·.names source key) { e with kind := e.kind.raisedBy kind } s.rsl)).setFlag .rslChange

/-- A lift (R86, R87). -/
def State.lift (s : State) (source : Source) (key : Half) : State :=
  match findRestriction s.rsl source key with
  | none => s
  | some e =>
    match e.kind with
    | .emergency true => s
    | .emergency false =>
      (s.withRsl (replaceFirst (·.names source key) { e with kind := .emergency true } s.rsl)).setFlag .rslChange
    | _ => (s.withRsl (s.rsl.eraseP (·.names source key))).setFlag .rslChange

/-- Standstill: v is known and at most 0.3 km/h (section 0.5, R53). -/
def State.standstill (s : State) : Bool :=
  match s.tdu.speed with
  | some x => decide (x.v ≤ 3)
  | none => false

/-- Moving: v is known and above 0.3 km/h (section 0.5, R53). -/
def State.moving (s : State) : Bool :=
  match s.tdu.speed with
  | some x => decide (3 < x.v)
  | none => false

/-- The release condition: standstill, handle at -900 or below, DEADMAN held (R88). -/
def State.releaseCondition (s : State) : Bool :=
  s.standstill && decide (s.tdu.inputs.handle ≤ -900) && s.tdu.inputs.deadman

/-- The release test: when the condition holds, every EMERGENCY entry whose lift request is set goes,
with RSL_CHANGE set once (R88). -/
def State.releaseTest (s : State) : State :=
  let kept := s.rsl.filter (·.kind != .emergency true)
  if s.releaseCondition && decide (kept.length < s.rsl.length) then (s.withRsl kept).setFlag .rslChange else s

/-- Hold present in the summary (R61). -/
def holdPresent (l : List Restriction) : Bool := l.any (·.kind == .hold)

/-- Emergency present in the summary (R61). -/
def emergencyPresent (l : List Restriction) : Bool :=
  l.any fun e => match e.kind with | .emergency _ => true | _ => false

/-- C: the lowest cap value, 1500 when there is no CAP entry (R61). -/
def lowestCap (l : List Restriction) : Nat :=
  l.foldl (fun c e => match e.kind with | .cap v => min c v | _ => c) 1500

/-! ### Slot reading (R33) -/

/-- A slot of the table. -/
def SignalTable.slot (t : SignalTable) (i : Nat) : Slot := t.slots.getD i {}

/-- A binding's slot is FRESH; a binding of NONE never is (section 2.6). -/
def SignalTable.isFresh (t : SignalTable) (binding : Option Nat) : Bool :=
  match binding with
  | some i => (t.slot i).state == .fresh
  | none => false

/-- The first `n` bytes of a slot's value as a consumer reads them; bytes that a short value lacks are
free values (log 7). -/
def State.slotBytes (s : State) (i n : Nat) : List Byte :=
  (List.range n).map fun p => (s.sgt.slot i).value.getD p (Config.absentByte s.env.free i p)

/-- An unsigned number from two bytes of a list, most significant first. -/
def numberAt (bs : List Byte) (p : Nat) : Nat := (be2 (bs.getD p 0) (bs.getD (p + 1) 0)).toNat

/-! ### Time (log 1) -/

/-- A port after one millisecond. -/
def LinePort.tick (p : LinePort) : LinePort :=
  { p with activityLeft := p.activityLeft - 1, idleLeft := p.idleLeft.map (· - 1) }

/-- A sounder channel after one millisecond. -/
def SoundChannel.tick (c : SoundChannel) : SoundChannel := { c with stepLeft := c.stepLeft.map (· - 1) }

/-- The direct horn after one millisecond. -/
def DirectHorn.tick (d : DirectHorn) : DirectHorn :=
  { d with minLeft := d.minLeft - 1, intervalLeft := d.intervalLeft - 1 }

/-- One millisecond passes: each running timer has one less left, down to 0, and the attempt timer
only in SERVICE and HOLD_PENDING (R111). Expiries are commands (log 1). -/
def State.tick (s : State) : State :=
  { s with
    line := { s.line with a := s.line.a.tick, b := s.line.b.tick }
    sgt := { s.sgt with tickLeft := s.sgt.tickLeft - 1 }
    dci := { s.dci with scanLeft := s.dci.scanLeft - 1 }
    tdu := { s.tdu with periodLeft := s.tdu.periodLeft - 1 }
    rtu := { s.rtu with attempt := if s.mcr.mode.driving then s.rtu.attempt.map (· - 1) else s.rtu.attempt }
    ssq := { s.ssq with
      horn := s.ssq.horn.tick
      bell := s.ssq.bell.tick
      chime := s.ssq.chime.tick
      direct := s.ssq.direct.map DirectHorn.tick }
    mcr := { s.mcr with checkLeft := s.mcr.checkLeft - 1 }
    env := { s.env with clock := s.env.clock + 1 } }

end Sys2Proof.Machine
end

