-- ==== Sys2Proof/Machine/Sounders.lean ====
section
/-! DEFINITION. The sounder sequencer's operations (chapter 9): requests, playing, the direct horn and
silence. -/

namespace Sys2Proof.Machine

/-- A channel of the sequencer. -/
def Sounder.channel (q : Sounder) : Channel → SoundChannel
  | .horn => q.horn
  | .bell => q.bell
  | .chime => q.chime

/-- A channel replaced. -/
def Sounder.withChannel (q : Sounder) (ch : Channel) (c : SoundChannel) : Sounder :=
  match ch with
  | .horn => { q with horn := c }
  | .bell => { q with bell := c }
  | .chime => { q with chime := c }

/-- A pattern table entry. -/
def Sounder.pattern (q : Sounder) (i : Nat) : Pattern := q.patterns.getD i {}

/-- A channel's pattern side stands still: the direct horn is active on HORN (R170). -/
def Sounder.suspended (q : Sounder) (ch : Channel) : Bool := ch == .horn && q.direct.isSome

/-- A channel is idle (R162). -/
def Sounder.idle (q : Sounder) (ch : Channel) : Bool :=
  (q.channel ch).playing.isNone && (q.channel ch).queue.isEmpty && !q.suspended ch

/-- All three channels are idle (R162, R198). -/
def Sounder.allIdle (q : Sounder) : Bool := q.idle .horn && q.idle .bell && q.idle .chime

/-- Two requests are equal: the same pattern and source (R162, R164). -/
def SoundRequest.same (x y : SoundRequest) : Bool := x.pattern == y.pattern && x.source == y.source

/-- One request outranks another (R163). -/
def SoundRequest.outranks (x y : SoundRequest) : Bool := decide (y.priority < x.priority)

/-- The bit of a step: step 0 is the word's most significant bit (R166). -/
def stepBit (w : Half) (step : Nat) : Bool := w.getLsbD (15 - step)

/-- The word of the segment that plays. -/
def Pattern.word (p : Pattern) (second : Bool) : Half := if second then p.word2 else p.word1

/-- A step begins: the output takes the step's bit and the step timer is started (R166). -/
def SoundChannel.beginStep (c : SoundChannel) (p : Pattern) (x : Playing) : SoundChannel :=
  { c with
    playing := some x
    output := stepBit (p.word x.second) x.step
    stepLeft := some (p.stepTime * Config.stepMs) }

/-- The first queued request becomes the playing record at segment 1, step 0 (R166). A channel with
none queued goes silent: its step timer stops and its output goes off (R167). -/
def Sounder.startFirst (q : Sounder) (ch : Channel) : Sounder :=
  let c := q.channel ch
  match c.queue with
  | [] => q.withChannel ch { c with playing := none, stepLeft := none, output := false }
  | r :: rest =>
    let p := q.pattern r.pattern
    q.withChannel ch (SoundChannel.beginStep { c with queue := rest } p ⟨r, false, p.repeats1, 0⟩)

/-- A request's place: behind every one of equal or higher priority (R164). -/
def insertRequest (r : SoundRequest) (q : List SoundRequest) : List SoundRequest :=
  q.takeWhile (fun x => decide (r.priority ≤ x.priority)) ++ r :: q.dropWhile (fun x => decide (r.priority ≤ x.priority))

/-- The lowest priority present (R165). -/
def lowestPriority (q : List SoundRequest) (start : Nat) : Nat := q.foldl (fun m x => min m x.priority) start

/-- The newest request of a priority removed: the last one in the queue's order (R165). -/
def removeNewest (priority : Nat) (q : List SoundRequest) : List SoundRequest :=
  (q.reverse.eraseP (·.priority == priority)).reverse

/-- A request put in a channel's queue; the channel starts its first request if nothing plays and no
direct horn is active on it (R164). -/
def Sounder.enqueue (q : Sounder) (ch : Channel) (queue : List SoundRequest) : Sounder :=
  let q1 := q.withChannel ch { q.channel ch with queue := queue }
  if (q.channel ch).playing.isNone && !q.suspended ch then q1.startFirst ch else q1

/-- A request to a channel, by the first case of R164 that applies, R165 included. -/
def State.soundRequest (s : State) (ch : Channel) (r : SoundRequest) : State :=
  let c := s.ssq.channel ch
  if !s.mcr.mode.sounding then s
  else if !(s.ssq.pattern r.pattern).valid then s.setFlag .soundDrop
  else if c.playing.any (·.request.same r) || c.queue.any (·.same r) then s
  else if c.queue.length < Config.soundPlaces then
    s.withSsq (s.ssq.enqueue ch (insertRequest r c.queue))
  else
    let low := lowestPriority c.queue r.priority
    if low < r.priority then
      (s.withSsq (s.ssq.enqueue ch (insertRequest r (removeNewest low c.queue)))).setFlag .soundDrop
    else s.setFlag .soundDrop

/-! ### Playing (R167, R168, R171) -/

/-- The playing record after a step boundary without preemption; none when the pattern ends (R167). -/
def Playing.advance (x : Playing) (p : Pattern) (queueEmpty : Bool) : Option Playing :=
  if x.step < 15 then some { x with step := x.step + 1 }
  else if x.second then
    if p.repeats2 = 15 then (if queueEmpty then some { x with repeatsLeft := 15, step := 0 } else none)
    else if 1 < x.repeatsLeft then some { x with repeatsLeft := x.repeatsLeft - 1, step := 0 } else none
  else if 1 < x.repeatsLeft then some { x with repeatsLeft := x.repeatsLeft - 1, step := 0 }
  else if 1 ≤ p.repeats2 then some { x with second := true, repeatsLeft := p.repeats2, step := 0 }
  else none

/-- The open-load flag of a channel (R171). -/
def openFlag : Channel → Flag
  | .horn => .soundOpenHorn
  | .bell => .soundOpenBell
  | .chime => .soundOpenChime

/-- A whole step or interval with the output on is judged: the open indication follows the load, and
a missing load sets the channel's flag (R171). -/
def State.judgeLoad (s : State) (ch : Channel) (load : Bool) : State :=
  let s1 := s.withSsq (s.ssq.withChannel ch { s.ssq.channel ch with isOpen := !load })
  if load then s1 else s1.setFlag (openFlag ch)

/-- What a step boundary does to the pattern side: preemption (R168) or advance (R167). -/
def Sounder.boundary (q : Sounder) (ch : Channel) (x : Playing) : Sounder :=
  let c := q.channel ch
  let p := q.pattern x.request.pattern
  if c.queue.head?.any (·.outranks x.request) then q.startFirst ch
  else
    match x.advance p c.queue.isEmpty with
    | some y => q.withChannel ch (c.beginStep p y)
    | none => q.startFirst ch

/-- A step boundary of a channel that plays and is not suspended (R167, R168, R170, R171). -/
def State.soundBoundary (s : State) (ch : Channel) (load : Bool) : State :=
  match (s.ssq.channel ch).playing with
  | none => s
  | some x =>
    if s.ssq.suspended ch then s
    else
      let s1 := if (s.ssq.channel ch).output then s.judgeLoad ch load else s
      s1.withSsq (s1.ssq.boundary ch x)

/-! ### Direct horn (R169 to R171) -/

/-- A delivered HORN press (R169). -/
def State.hornPress (s : State) : State :=
  if s.mcr.mode.sounding then
    s.withSsq { s.ssq with
      direct := some ⟨s.env.clock, true, Config.hornMinMs, Config.hornIntervalMs⟩
      horn := { s.ssq.horn with output := true, stepLeft := none } }
  else s

/-- The direct horn ends: a suspended pattern resumes at the beginning of its step, or the first
queued request starts, or the output goes off (R169, R170). -/
def Sounder.endDirect (q : Sounder) : Sounder :=
  let q1 := { q with direct := none }
  match q.horn.playing with
  | some x => { q1 with horn := q.horn.beginStep (q.pattern x.request.pattern) x }
  | none => q1.startFirst .horn

/-- The delivered HORN level becomes released (R169). -/
def State.hornRelease (s : State) : State :=
  match s.ssq.direct with
  | none => s
  | some d =>
    if d.minLeft = 0 then s.withSsq s.ssq.endDirect
    else s.withSsq { s.ssq with direct := some { d with held := false } }

/-- The 300 ms after the press have passed: a released direct horn ends (R169). -/
def State.hornMinEnd (s : State) : State :=
  match s.ssq.direct with
  | none => s
  | some d =>
    if d.held then s.withSsq { s.ssq with direct := some { d with minLeft := 0 } }
    else s.withSsq s.ssq.endDirect

/-- A 50 ms interval of the direct horn ends and is judged (R171). -/
def State.hornInterval (s : State) (load : Bool) : State :=
  match s.ssq.direct with
  | none => s
  | some d =>
    (s.withSsq { s.ssq with direct := some { d with intervalLeft := Config.hornIntervalMs } }).judgeLoad .horn load

/-! ### Silence (R172) -/

/-- A channel silenced: playing record and queue discarded, step timer stopped, output off (R172). -/
def SoundChannel.silenced (c : SoundChannel) : SoundChannel :=
  { c with playing := none, queue := [], stepLeft := none, output := false }

/-- Every channel silenced and the direct horn ended at once (R172). -/
def Sounder.silenced (q : Sounder) : Sounder :=
  { q with horn := q.horn.silenced, bell := q.bell.silenced, chime := q.chime.silenced, direct := none }

/-- The values after RESTART, standby entry and standby exit: silent, open indications clear (R162, R171). -/
def Sounder.cleared (q : Sounder) : Sounder :=
  { q with horn := {}, bell := {}, chime := {}, direct := none }

end Sys2Proof.Machine
end

