-- ==== Sys2Proof/Machine/Junctions.lean ====
section
/-! DEFINITION. The route unit (chapter 6) with the hand-over of REQUESTs to the track link (R130):
announcement, attempts, confirmation, distance, passing, the driver's buttons, abandonment. -/

namespace Sys2Proof.Machine

/-! ### Track link hand-over (R130, R137) -/

/-- A REQUEST handed over: sent at once in LISTEN, else it takes or replaces the pending slot (R130). -/
def TrackLink.handOver (t : TrackLink) (r : PointRequest) : TrackLink :=
  match t.state with
  | .listen => { t with state := .transmitting, inFlight := some r, slotStart := none }
  | _ => { t with slot := some r }

/-- A retry increment handed over: the counter wraps to 0 with the rollover flag and RETRY_ROLLOVER (R137). -/
def State.countRetry (s : State) : State :=
  if s.tlk.retry = 0xFFFF#16 then (s.withTlk { s.tlk with retry := 0, rollover := true }).setFlag .retryRollover
  else s.withTlk { s.tlk with retry := s.tlk.retry + 1 }

/-! ### Transactions and their JUNCTION entries (R103) -/

/-- The restriction that a transaction's state places (R103). DESIGN CHOICE: PROCEED takes PROCEED_CAP as it
stands at the press (R100, R121; log 48). -/
def Transaction.restraint (t : Transaction) (items : RouteItems) : Option Restraint :=
  match t.state with
  | .announced | .requesting | .awaitDriver => some (.cap t.cap)
  | .unconfirmed => some .hold
  | .proceed => some (.cap items.proceedCap)
  | .confirmed | .notRequired => none

/-- The JUNCTION entry of a transaction raised or lifted as its state asks (R103). -/
def State.syncJunction (s : State) (t : Transaction) : State :=
  match t.restraint s.rtu.items with
  | some k => s.raise .junction t.junction k
  | none => s.lift .junction t.junction

/-- The junction queue replaced. -/
def State.withQueue (s : State) (q : List Transaction) : State := s.withRtu { s.rtu with queue := q }

/-- The attempt timer set or stopped. -/
def State.withAttempt (s : State) (left : Option Nat) : State := s.withRtu { s.rtu with attempt := left }

/-- The attempt timer started or restarted with CONFIRM_TIMEOUT (R110, R113). A restart of a timer that runs
is noted with the clock, for an expiry that comes together with it (R114; log 61). -/
def State.startAttemptTimer (s : State) : State :=
  s.withRtu { s.rtu with
    attempt := some s.rtu.items.confirmTimeout
    restartedAt := if s.rtu.attempt.isSome then some s.env.clock else none }

/-- A transaction is queued under a junction id. -/
def findTransaction (q : List Transaction) (j : Half) : Option Transaction := q.find? (·.junction == j)

/-- A transaction put in the place of the one with its junction id. -/
def updateTransaction (q : List Transaction) (t : Transaction) : List Transaction :=
  replaceFirst (·.junction == t.junction) t q

/-- A junction id is that of the head. -/
def RouteUnit.isHead (r : RouteUnit) (j : Half) : Bool := r.queue.head?.any (·.junction == j)

/-- An attempt for the head: the sequence number incremented, one REQUEST handed over, the state
REQUESTING, the attempt timer stopped (R109). -/
def State.startAttempt (s : State) : State :=
  match s.rtu.queue with
  | [] => s
  | h :: rest =>
    match h.dir with
    | none => s
    | some d =>
      let seq := s.rtu.seq + 1
      let s1 := s.withRtu { s.rtu with
        seq := seq, attempt := none, queue := { h with lastSeq := some seq, state := .requesting } :: rest }
      s1.withTlk (s.tlk.handOver ⟨s.rtu.items.tramNumber, h.junction, d, seq, s.rtu.routeNumber⟩)

/-- A transaction becomes UNCONFIRMED: JUNCTION raised as HOLD, JN_UNCONFIRMED set, and the attempt
timer stopped if it is the head (R116). DESIGN CHOICE: the raise, with its RSL_CHANGE, comes before
JN_UNCONFIRMED (log 53). -/
def State.makeUnconfirmed (s : State) (t : Transaction) : State :=
  let t1 := { t with state := .unconfirmed }
  let s1 := s.withQueue (updateTransaction s.rtu.queue t1)
  let s2 := if s.rtu.isHead t.junction then s1.withAttempt none else s1
  (s2.syncJunction t1).setFlag .jnUnconfirmed

/-- A failed attempt of the head: a resend while attempts used is at most SHORT_RETRIES, else
UNCONFIRMED (R115). -/
def State.failAttempt (s : State) : State :=
  match s.rtu.queue with
  | [] => s
  | h :: rest =>
    let h1 := { h with attempts := h.attempts + 1 }
    let s1 := (s.withQueue (h1 :: rest)).withAttempt none
    if h1.attempts ≤ s.rtu.items.shortRetries then s1.countRetry.startAttempt else s1.makeUnconfirmed h1

/-! ### Removal (R106, R118) -/

/-- A transaction leaves the queue: its JUNCTION entry is lifted, and the attempt timer stopped if it
was the head (R118). -/
def State.removeTransaction (s : State) (t : Transaction) : State :=
  let s1 := s.withQueue (s.rtu.queue.eraseP (·.junction == t.junction))
  let s2 := if s.rtu.isHead t.junction then s1.withAttempt none else s1
  match t.restraint s.rtu.items with
  | some _ => s2.lift .junction t.junction
  | none => s2

/-- The ROUTE restriction lifted when its mark is set and the queue has fallen below 4 (R106). -/
def State.liftRoute (s : State) : State :=
  if s.rtu.mark && decide (s.rtu.queue.length < Config.junctionPlaces) then
    (s.withRtu { s.rtu with mark := false }).lift .route 0
  else s

/-- After removals: ROUTE lifted if called for, and a new ANNOUNCED head starts its attempt (R118). -/
def State.afterRemoval (s : State) (oldHead : Option Half) : State :=
  let s1 := s.liftRoute
  match s1.rtu.queue with
  | [] => s1
  | h :: _ => if h.state = .announced ∧ oldHead ≠ some h.junction then s1.startAttempt else s1

/-- The junction id of the head. -/
def RouteUnit.headId (r : RouteUnit) : Option Half := r.queue.head?.map (·.junction)

/-- A transaction is passed (R118, R119). -/
def State.passTransaction (s : State) (t : Transaction) : State :=
  (s.removeTransaction t).afterRemoval s.rtu.headId

/-! ### Announcement (R99, R105 to R108) -/

/-- A route entry matches a junction id on the current route (R99). -/
def RouteEntry.covers (e : RouteEntry) (j : Half) (route : Nat) : Bool :=
  e.valid && (j &&& e.idMask == e.idBase &&& e.idMask) && (e.routeMatch == 0 || e.routeMatch == route)

/-- The first matching entry of the ACTIVE bank with its index (R99). -/
def RouteUnit.lookup (r : RouteUnit) (j : Half) : Option (Nat × RouteEntry) :=
  (r.active.zipIdx.find? fun (e, _) => e.covers j r.routeNumber).map fun (e, i) => (i, e)

/-- A distance in metres as millimetres. -/
def millimetres (metres : Nat) : Int := (metres : Int) * 1000

/-- The transaction that an APPROACH appends (R107). -/
def RouteUnit.newTransaction (r : RouteUnit) (j : Half) (distance : Nat) : Transaction :=
  match r.lookup j with
  | some (i, e) =>
    ⟨j, some i, e.dir, .table, if e.dir.isSome then .announced else .notRequired, 0, none, millimetres distance,
      e.confirm, e.clearance, e.cap⟩
  | none =>
    ⟨j, none, none, .manual,
      match r.items.noMatch with | .pass => .notRequired | .manual => .awaitDriver,
      0, none, millimetres distance, 0, r.items.defaultClearance, r.items.defaultCap⟩

/-- The auto-bell of a junction appended ANNOUNCED (R108). -/
def State.autoBell (s : State) (j : Half) : State :=
  match s.rtu.lookup j with
  | some (_, e) =>
    if e.dir.isSome && e.autoBell then s.soundRequest .bell ⟨e.pattern, .route, 1⟩ else s
  | none => s

/-- An APPROACH for a new junction with room in the queue: appended, its JUNCTION entry raised, the
auto-bell requested, and an ANNOUNCED head started (R107, R108). DESIGN CHOICE: in this order (log 57). -/
def State.announce (s : State) (j : Half) (distance : Nat) : State :=
  let t := s.rtu.newTransaction j distance
  let s1 := s.withQueue (s.rtu.queue ++ [t])
  let s2 := (match t.restraint s.rtu.items with | some k => s1.raise .junction j k | none => s1).autoBell j
  if s.rtu.queue.isEmpty && decide (t.state = .announced) then s2.startAttempt else s2

/-- An APPROACH for a new junction with the queue full: refused (R106). DESIGN CHOICE: JQ_FULL is set before
ROUTE is raised with its RSL_CHANGE (log 52). -/
def State.refuseApproach (s : State) : State :=
  ((s.withRtu { s.rtu with mark := true }).setFlag .jqFull).raise .route 0 (.cap s.rtu.items.defaultCap)

/-- A delivered APPROACH (R105 to R107). -/
def State.approach (s : State) (j : Half) (distance : Nat) : State :=
  match findTransaction s.rtu.queue j with
  | some t => s.withQueue (updateTransaction s.rtu.queue { t with remaining := millimetres distance })
  | none => if s.rtu.queue.length < Config.junctionPlaces then s.announce j distance else s.refuseApproach

/-! ### Confirmation and clearing (R112, R113, R119) -/

/-- A CONFIRM that passed the tests of R112, acted on by its state (R113). -/
def State.actOnConfirm (s : State) (h : Transaction) (dir : PointDir) (c : ConfirmState) : State :=
  match c with
  | .setLocked =>
    if h.dir = some dir then
      let h1 := { h with state := .confirmed }
      ((s.withQueue (updateTransaction s.rtu.queue h1)).withAttempt none).syncJunction h1
    else s.failAttempt
  | .setMoving => s.startAttemptTimer
  | .refused => s.makeUnconfirmed h

/-- A delivered CONFIRM: the four tests in their order (R112). -/
def State.confirm (s : State) (j tram : Half) (seq : Byte) (dir : PointDir) (c : ConfirmState) : State :=
  if tram ≠ s.rtu.items.tramNumber then s
  else
    match s.rtu.queue with
    | [] => s
    | h :: _ =>
      if h.junction ≠ j then s
      else if h.lastSeq ≠ some seq then s.setFlag .lateConfirm
      else if h.state ≠ .requesting then s
      else s.actOnConfirm h dir c

/-- A delivered CLEAR (R119). -/
def State.clearJunction (s : State) (j : Half) : State :=
  match findTransaction s.rtu.queue j with
  | some t => s.passTransaction t
  | none => s

/-- A telegram delivered to the RTU, which discards it outside the modes of R104. -/
def State.deliverTelegram (s : State) (t : Telegram) : State :=
  if !s.mcr.mode.routing then s
  else
    match t with
    | .approach j d => s.approach j d
    | .clear j => s.clearJunction j
    | .confirm j tram seq dir c => s.confirm j tram seq dir c
    | .request => s

/-- The track link's FAULT report: every ANNOUNCED or REQUESTING transaction becomes UNCONFIRMED, in
queue order (R123). -/
def State.linkFaulted (s : State) : State :=
  if !s.mcr.mode.routing then s
  else
    (s.rtu.queue.filter fun t => t.state == .announced || t.state == .requesting).foldl State.makeUnconfirmed s

/-- The track link's transmission complete report (R110). -/
def State.requestSent (s : State) (seq : Byte) : State :=
  match s.rtu.queue with
  | [] => s
  | h :: _ =>
    if s.mcr.mode.routing && decide (h.state = .requesting) && decide (h.lastSeq = some seq) then s.startAttemptTimer
    else s

/-! ### Distance (R117) -/

/-- The remaining distance counted down, stopping at its lower end (R102, R117). -/
def countDown (remaining : Int) (d : Nat) : Int := max (-2147483648) (remaining - d)

/-- A transaction is passed by its distance (R117). -/
def Transaction.isPassed (t : Transaction) : Bool := decide (t.remaining ≤ -millimetres t.clearance)

/-- A transaction meets its distance deadline (R117). -/
def Transaction.pastDeadline (t : Transaction) : Bool :=
  t.source == .table && (t.state == .announced || t.state == .requesting) &&
    decide (t.remaining ≤ millimetres t.confirm)

/-- The first case of R117 for one transaction. -/
def State.judgeDistance (s : State) (t : Transaction) : State :=
  if t.isPassed then s.removeTransaction t
  else if t.pastDeadline then s.makeUnconfirmed t
  else s

/-- A period-distance event: every distance counted down, the transactions judged in queue order,
then what R118 does after removals (R117). -/
def State.periodDistance (s : State) (d : Nat) : State :=
  if !s.mcr.mode.routing then s
  else
    let q := s.rtu.queue.map fun t => { t with remaining := countDown t.remaining d }
    let s1 := q.foldl State.judgeDistance (s.withQueue q)
    if q.any (·.isPassed) then s1.afterRemoval s.rtu.headId else s1

/-! ### The driver and the reversal (R120 to R122) -/

/-- A press of a route button (R120). -/
def State.routeButton (s : State) (d : PointDir) : State :=
  if !s.mcr.mode.routing then s
  else
    match s.rtu.queue with
    | [] => s
    | h :: rest =>
      if h.state = .requesting ∨ h.state = .unconfirmed ∨ h.state = .awaitDriver ∨
          (h.state = .confirmed ∧ h.dir ≠ some d) then
        let h1 := { h with dir := some d, source := .manual, attempts := 0 }
        let s1 := (s.withQueue (h1 :: rest)).startAttempt
        s1.raise .junction h.junction (.cap h.cap)
      else s

/-- A press of PROCEED: the first UNCONFIRMED transaction becomes PROCEED (R121). -/
def State.proceedPress (s : State) : State :=
  if !s.mcr.mode.routing then s
  else
    match s.rtu.queue.find? (·.state == .unconfirmed) with
    | none => s
    | some t =>
      let t1 := { t with state := .proceed }
      (s.withQueue (updateTransaction s.rtu.queue t1)).syncJunction t1

/-- A reversal event abandons the junction queue (R122). DESIGN CHOICE: the JUNCTION lifts, then JQ_ABANDON,
then the ROUTE lift (log 54). -/
def State.reversal (s : State) : State :=
  if !s.mcr.mode.routing then s
  else
    let s1 := s.rtu.queue.foldl State.removeTransaction s
    let s2 := s1.withAttempt none
    let s3 := if s.rtu.queue.isEmpty then s2 else s2.setFlag .jqAbandon
    s3.liftRoute

/-- The RTU's values after RESTART, standby entry and standby exit (R125). -/
def RouteUnit.cleared (r : RouteUnit) : RouteUnit := { r with queue := [], attempt := none, mark := false }

end Sys2Proof.Machine
end

