-- ==== Sys2Proof/Machine/Stops.lean ====
section
/-! DEFINITION. The stop request unit (chapter 8): registration, the list, STOP_DISPLAY, the door
state, the DOORS restriction. -/

namespace Sys2Proof.Machine

/-- Every armed flag set. -/
def allArmed : Word := BitVec.allOnes 32

/-! ### STOP_DISPLAY (R148) -/

/-- Assist requested: the list holds an ASSIST entry (R148). -/
def assistRequested (l : List StopEntry) : Bool := l.any (·.kind == .assist)

/-- Stop requested: the list is not empty (R148). -/
def stopRequested (l : List StopEntry) : Bool := !l.isEmpty

/-- One STOP_DISPLAY with the list's values (R148). -/
def State.sendStopDisplay (s : State) : State :=
  s.publish s.sru.stopDisplayId (stopDisplayPayload (stopRequested s.sru.list) (assistRequested s.sru.list))

/-- One STOP_DISPLAY when either of its values differs from what `before` gave (R148). -/
def State.reportStops (s : State) (before : List StopEntry) : State :=
  if stopRequested before == stopRequested s.sru.list && assistRequested before == assistRequested s.sru.list then s
  else s.sendStopDisplay

/-! ### Registration (R142 to R147) -/

/-- The first-entry effects of an append, from what the list held before it (R147). -/
def State.firstEntry (s : State) (kind : StopKind) (before : List StopEntry) : State :=
  match kind with
  | .normal =>
    if before.isEmpty then (s.soundRequest .chime ⟨s.ssq.items.stopPat, .stops, 0⟩).setFlag .stopFirst else s
  | .assist =>
    if assistRequested before then s
    else (s.soundRequest .chime ⟨s.ssq.items.assistPat, .stops, 0⟩).setFlag .assistFirst

/-- A source registered: appended unless it is listed, with the first-entry effects and the
STOP_DISPLAY that its append calls for (R146 to R148). -/
def State.registerSource (s : State) (n : Nat) : State :=
  if s.sru.list.any (·.source == n) then s
  else
    let kind := (s.sru.sources.getD n {}).kind
    let before := s.sru.list
    let s1 := s.withSru { s.sru with list := before ++ [⟨n, kind, s.tdu.periodCount⟩] }
    (s1.firstEntry kind before).reportStops before

/-- An armed flag set or cleared. -/
def State.withArmed (s : State) (n : Nat) (armed : Bool) : State :=
  let bit := BitVec.twoPow 32 n
  s.withSru { s.sru with armed := if armed then s.sru.armed ||| bit else s.sru.armed &&& ~~~ bit }

/-- One source of an update that may register (the table of R142). -/
def State.treatSource (image : Word) (s : State) (n : Nat) : State :=
  if !image.getLsbD n then s.withArmed n true
  else if (s.sru.sources.getD n {}).enabled && s.sru.armed.getLsbD n then (s.registerSource n).withArmed n false
  else s

/-- An update event of STOP_BUTTON_SLOT with the image it carries (R142, R143). -/
def State.stopButtons (s : State) (image : Word) : State :=
  let s1 :=
    if !s.mcr.mode.active then s.withSru { s.sru with armed := s.sru.armed ||| ~~~ image }
    else if s.sru.door = .released then s.withSru { s.sru with armed := ~~~ image }
    else (List.range 32).foldl (State.treatSource image) s
  s1.withSru { s1.sru with image := image }

/-- A stale event of STOP_BUTTON_SLOT (R144). -/
def State.stopButtonsStale (s : State) : State := s.withSru { s.sru with image := 0, armed := allArmed }

/-- A load that took a source from disabled to enabled registers it when its input is active (R145). -/
def State.sourceEnabled (s : State) (n : Nat) : State :=
  if s.sru.image.getLsbD n && s.mcr.mode.active && decide (s.sru.door ≠ .released) then
    (s.registerSource n).withArmed n false
  else s

/-! ### DOORS (R154) -/

/-- The door summary view reports every door closed and locked. -/
def doorsShut (view : Option DoorView) : Bool :=
  match view with
  | some v => v.closed && v.locked
  | none => false

/-- The DOORS condition (R154). -/
def StopUnit.doorsCondition (u : StopUnit) : Bool := u.door != .closedLocked || !doorsShut u.view

/-- The DOORS test: raised as HOLD or lifted when the condition differs from the mark, in the modes
that raise it (R154). -/
def State.doorsTest (s : State) : State :=
  if !s.mcr.mode.active then s
  else
    match s.sru.doorsCondition, s.sru.mark with
    | true, false => (s.withSru { s.sru with mark := true }).raise .doors 0 .hold
    | false, true => (s.withSru { s.sru with mark := false }).lift .doors 0
    | _, _ => s

/-! ### Door summary (R33, R153) -/

/-- The door summary read from its byte: closed needs both side bits clear, locked needs closed (R33, R205). -/
def readDoors (b : Byte) : DoorView :=
  let closed := b.getLsbD 0 && !b.getLsbD 2 && !b.getLsbD 3
  ⟨closed, closed && b.getLsbD 1⟩

/-- An update event of DOOR_SUMMARY_SLOT: the view noted, CLOSING completed when every door is closed
and locked, DOORS tested (R153, R154). -/
def State.doorSummary (s : State) (v : DoorView) : State :=
  let door := if s.sru.door = .closing ∧ (v.closed && v.locked) = true then .closedLocked else s.sru.door
  (s.withSru { s.sru with view := some v, door := door }).doorsTest

/-- A stale event of DOOR_SUMMARY_SLOT (R153, R154). -/
def State.doorSummaryStale (s : State) : State := (s.withSru { s.sru with view := none }).doorsTest

/-! ### Door buttons (R149 to R152) -/

/-- The side a release button names. -/
inductive Side where
  | left | right
  deriving DecidableEq, Repr

/-- A side added to the released sides. -/
def Sides.add (x : Sides) : Side → Sides
  | .left => { x with left := true }
  | .right => { x with right := true }

/-- An accepted door release: the side released or added, the list emptied, every source disarmed,
RELEASE commanded, DOORS raised, STOP_DISPLAY when the list was not empty (R150). -/
def State.releaseDoors (s : State) (side : Side) : State :=
  let before := s.sru.list
  let sides := (if s.sru.door = .released then s.sru.sides else {}).add side
  let s1 := s.withSru { s.sru with door := .released, sides := sides, list := [], armed := 0 }
  let s2 := s1.publish s1.sru.doorCommandId (releasePayload sides)
  s2.doorsTest.reportStops before

/-- A press of DOOR_REL_L or DOOR_REL_R (R150, R151). -/
def State.doorReleasePress (s : State) (side : Side) : State :=
  if s.mcr.mode.driving && s.standstill then s.releaseDoors side else s.setFlag .doorRelRefused

/-- A press of DOOR_CLOSE (R152). -/
def State.doorClosePress (s : State) : State :=
  match s.sru.door with
  | .released =>
    let s1 := s.withSru { s.sru with door := .closing, sides := {} }
    let s2 := s1.publish s1.sru.doorCommandId closePayload
    (s2.soundRequest .chime ⟨s2.ssq.items.doorClosingPat, .doors, 2⟩).doorsTest
  | .closedLocked => s.publish s.sru.doorCommandId closePayload
  | .closing => s

/-- A press of STOP_CANCEL (R149). -/
def State.stopCancelPress (s : State) : State :=
  let before := s.sru.list
  (s.withSru { s.sru with list := [] }).reportStops before

/-- The SRU's values after RESTART, standby entry and standby exit (R157). -/
def StopUnit.cleared (u : StopUnit) : StopUnit :=
  { u with
    image := 0
    armed := allArmed
    list := []
    door := .closedLocked
    sides := {}
    view := none
    mark := false }

end Sys2Proof.Machine
end

