-- ==== Sys2Proof/Machine/Signals.lean ====
section
/-! DEFINITION. Windows, slot updates, aging, and the events that slots deliver to the SRU (chapter 2). -/

namespace Sys2Proof.Machine

/-! ### Events to the SRU (R34) -/

/-- An event of DOOR_SUMMARY_SLOT, update or stale, with the value as it stands (R33, R153). -/
def State.doorSlotEvent (s : State) (binding : Option Nat) : State :=
  match binding with
  | some i =>
    if s.sgt.isFresh binding then s.doorSummary (readDoors ((s.slotBytes i 1).getD 0 0)) else s.doorSummaryStale
  | none => s.doorSummaryStale

/-- The stop button image from the first 4 bytes of a value (R33, R205). -/
def stopImage (bs : List Byte) : Word := be4 (bs.getD 0 0) (bs.getD 1 0) (bs.getD 2 0) (bs.getD 3 0)

/-- An event of STOP_BUTTON_SLOT, update or stale, with the value as it stands (R142 to R144). -/
def State.stopSlotEvent (s : State) (binding : Option Nat) : State :=
  match binding with
  | some i => if s.sgt.isFresh binding then s.stopButtons (stopImage (s.slotBytes i 4)) else s.stopButtonsStale
  | none => s.stopButtonsStale

/-- A slot's event delivered to every use of the SRU that is bound to it: the door summary, then the
stop buttons (R34; log 22). The TDU takes no action on events. -/
def State.slotEvent (s : State) (i : Nat) : State :=
  let s1 := if s.sgt.doorSlot = some i then s.doorSlotEvent (some i) else s
  if s.sgt.stopSlot = some i then s1.stopSlotEvent (some i) else s1

/-! ### Required lengths (R28, R32) -/

/-- The longest length that the bindings of a slot require, 0 when none is bound (R28, R32). -/
def State.requiredLength (s : State) (i : Nat) : Nat :=
  let need (binding : Option Nat) (n : Nat) : Nat := if binding = some i then n else 0
  let units := s.tdu.allocActive.units.foldl (fun m u => max m (max (need u.axle 2) (need u.status 3))) 0
  max units (max (need s.sgt.brakeSlot 1) (max (need s.sgt.doorSlot 1) (need s.sgt.stopSlot 4)))

/-! ### Windows (R21, R22) -/

/-- A window hits a signal id (R21). -/
def Window.hits (w : Window) (i : Half) : Bool := w.enabled && (i &&& w.idMask == w.idBase &&& w.idMask)

/-- The slot index of a signal id through a window (R22). -/
def Window.index (w : Window) (i : Half) : Nat := w.slotBase + (i &&& ~~~ w.idMask).toNat

/-! ### Updates (R27, R28) -/

/-- A slot after an update, its new state apart (R27). -/
def Slot.updated (t : Slot) (source : Byte) (payload : List Byte) (limit : Nat) (state : SlotState) : Slot :=
  { value := payload.take 8
    source := some source
    state := state
    age := 0
    limit := limit
    updates := t.updates + 1 }

/-- A slot replaced. -/
def State.withSlot (s : State) (i : Nat) (t : Slot) : State :=
  s.withSgt { s.sgt with slots := s.sgt.slots.set i t }

/-- An update of a slot by a consumed PROCESS frame through a window (R27, R28). DESIGN CHOICE: SLOT_TRUNC,
then SLOT_SHORT, then the event (log 56). -/
def State.updateSlot (s : State) (i : Nat) (f : Frame) (limit : Nat) : State :=
  let old := s.sgt.slot i
  let short := decide ((f.payload.take 8).length < s.requiredLength i)
  let s1 := s.withSlot i (old.updated f.src f.payload limit (if short then .stale else .fresh))
  let s2 := if 8 < f.payload.length then s1.setFlag .slotTrunc else s1
  if short then
    let s3 := s2.setFlag .slotShort
    if old.state = .stale then s3 else s3.slotEvent i
  else s2.slotEvent i

/-- A PROCESS frame taken by the window table: the first window that hits decides (R21, R22). -/
def State.takeProcess (s : State) (f : Frame) : State :=
  match s.fcl.windows.find? (·.hits f.id) with
  | none => s
  | some w =>
    match w.action with
    | .ignore => s
    | .consume =>
      if w.index f.id < Config.slotCount then s.updateSlot (w.index f.id) f w.limit else s.setFlag .slotRange

/-- A MANAGE frame at the management request queue (R24). -/
def State.takeManage (s : State) (f : Frame) : State :=
  if s.fcl.requests.length < Config.requestPlaces then
    s.withFcl { s.fcl with requests := s.fcl.requests ++ [f.request] }
  else s.setFlag .mgmtOverrun

/-- PROCESS frames are stored in this mode (R19). -/
def Mode.storing : Mode → Bool
  | .standby | .failed => false
  | _ => true

/-- A consumed frame acted on by its kind (R19). -/
def State.classify (s : State) (f : Frame) : State :=
  match f.kind with
  | .process => if s.mcr.mode.storing then s.takeProcess f else s
  | .manage => s.takeManage f
  | .response => s
  | .notify => s

/-! ### Aging (R29 to R31) -/

/-- A slot after one age tick (R29). -/
def Slot.aged (t : Slot) : Slot :=
  match t.state with
  | .never => t
  | .stale => { t with age := min 255 (t.age + 1) }
  | .fresh =>
    let age := min 255 (t.age + 1)
    { t with age := age, state := if t.limit ≤ age then .stale else .fresh }

/-- The slots that go stale on a tick, in index order (R29). -/
def SignalTable.goingStale (t : SignalTable) : List Nat :=
  (t.slots.zipIdx.filter fun (x, _) => x.state == .fresh && x.aged.state == .stale).map fun (_, i) => i

/-- The table after one age tick, before its events: every slot aged, the last-stale item at the
highest slot that went stale (R29). -/
def SignalTable.aged (t : SignalTable) : SignalTable :=
  { t with
    slots := t.slots.map Slot.aged
    lastStale := match t.goingStale.getLast? with | some i => some i | none => t.lastStale }

/-- One age tick of the table: aging, stale events in index order, SLOT_STALE once (R29). -/
def State.ageSlots (s : State) : State :=
  let stale := s.sgt.goingStale
  let s1 := stale.foldl State.slotEvent (s.withSgt s.sgt.aged)
  if stale.isEmpty then s1 else s1.setFlag .slotStale

/-- Every slot NEVER and the last-stale item NONE (R26). -/
def SignalTable.cleared (t : SignalTable) : SignalTable :=
  { t with slots := List.replicate Config.slotCount {}, lastStale := none }

/-! ### Meanings -/

/-- CLASSIFY_FRAME (R11, R19): the oldest frame that port `p` handed over is taken and acted on. -/
def execClassifyFrame (p : Line) (s : State) : Host.Outcome State Fault Refusal :=
  match (s.port p).handed with
  | [] => .next s
  | f :: rest => .next ((s.withPort p { s.port p with handed := rest }).classify f)

/-- AGE_TICK (R29, R31): the timer restarts, and outside STEP the table ages. -/
def execAgeTick (s : State) : Host.Outcome State Fault Refusal :=
  let s1 := s.withSgt { s.sgt with tickLeft := Config.ageTickMs }
  .next (if s.mcr.mode = .step then s1 else s1.ageSlots)

end Sys2Proof.Machine
end

