-- ==== Sys2Proof/Machine/Traction.lean ====
section
/-! DEFINITION. The traction demand unit (chapter 4): the five stages, the hold setpoint, vigilance,
the emergency handle, the step record. -/

namespace Sys2Proof.Machine

/-- The TDU's raised marks replaced. -/
def State.withMarks (s : State) (m : Marks) : State := s.withTdu { s.tdu with marks := m }

/-! ### Stage 0: speeds and distance (R53 to R55) -/

/-- The units of the ACTIVE bank; none is present while the bank is invalid (R53). -/
def Traction.units (t : Traction) : List UnitEntry :=
  if t.allocActive.valid then t.allocActive.units else List.replicate 4 {}

/-- A unit as one computation sees it: its entry and what its slots give (R33, R69). -/
structure UnitView where
  entry : UnitEntry
  /-- Axle speed; none while the axle slot is not FRESH or the unit is absent. -/
  axle : Option Nat
  /-- The status slot is FRESH and READY. -/
  ready : Bool
  capability : Nat
  deriving DecidableEq, Repr

/-- The axle speed of a unit of F, read as at most 1500 (R33, R53). -/
def State.axleSpeed (s : State) (u : UnitEntry) : Option Nat :=
  match u.axle with
  | some i => if u.present && s.sgt.isFresh u.axle then some (min 1500 (numberAt (s.slotBytes i 2) 0)) else none
  | none => none

/-- A unit's slots read (R33): a status byte other than READY is not ready, a capability above 1000 is 1000. -/
def State.viewUnit (s : State) (u : UnitEntry) : UnitView :=
  match u.status with
  | some i =>
    let bs := s.slotBytes i 3
    ⟨u, s.axleSpeed u, s.sgt.isFresh u.status && bs.getD 0 1 == 0, min 1000 (numberAt bs 1)⟩
  | none => ⟨u, s.axleSpeed u, false, 0⟩

/-- The units as this computation sees them. -/
def State.viewUnits (s : State) : List UnitView := s.tdu.units.map s.viewUnit

/-- Highest and lowest of the fresh axle speeds; none when F is empty (R53). -/
def speedOf (axles : List Nat) : Option Speed :=
  match axles with
  | [] => none
  | x :: xs => some ⟨xs.foldl max x, xs.foldl min x⟩

/-- Millimetres of one period at a speed with the carried ninths: the amount added and the new
remainder (R55). -/
def odometerStep (acc9 v : Nat) : Nat × Nat := ((acc9 + 5 * v) / 9, (acc9 + 5 * v) % 9)

/-- SPEED_LOST raised at a loss of speed and lifted at its recovery (R54). DESIGN CHOICE: the raise, with its
RSL_CHANGE, comes before the SPEED_LOST flag (log 51). -/
def State.superviseSpeed (s : State) : State :=
  match s.tdu.speed, s.tdu.marks.speedLost with
  | none, false =>
    ((s.withMarks { s.tdu.marks with speedLost := true }).raise .speedLost 0 .hold).setFlag .speedLost
  | some _, true => (s.withMarks { s.tdu.marks with speedLost := false }).lift .speedLost 0
  | _, _ => s

/-- The speed knowledge of stage 0 (R53). -/
def State.findSpeed (s : State) : State :=
  match speedOf (s.tdu.units.filterMap s.axleSpeed) with
  | none => s.withTdu { s.tdu with speed := none }
  | some x => s.withTdu { s.tdu with speed := some x, lastV := x.v }

/-- The odometer advanced by a period with v known; the amount is the period-distance event (R55). -/
def State.advanceOdometer (s : State) : State × Option Nat :=
  match s.tdu.speed with
  | none => (s, none)
  | some x =>
    let (d, acc) := odometerStep s.tdu.acc9 x.v
    (s.withTdu { s.tdu with odometer := s.tdu.odometer + BitVec.ofNat 32 d, acc9 := acc }, some d)

/-- Stage 0: speed evaluation, SPEED_LOST, odometer (R53 to R55). -/
def State.evaluateSpeed (s : State) : State × Option Nat := s.findSpeed.superviseSpeed.advanceOdometer

/-! ### Stage 1: direction and requested effort (R56 to R58) -/

/-- The desk direction: NEUTRAL when both switches or neither are held (R56). -/
def DriverInputs.direction (i : DriverInputs) : Direction :=
  match i.dirFwd, i.dirRev with
  | true, false => .fwd
  | false, true => .rev
  | _, _ => .neutral

/-- The held direction settled: taken at standstill, else a refused change reported once. The Bool
says that a reversal event goes to the RTU (R56). -/
def State.settleDirection (s : State) : State × Bool :=
  let desk := s.tdu.inputs.direction
  let t1 := { s.tdu with prevDesk := desk }
  if desk = s.tdu.held then (s.withTdu t1, false)
  else if s.standstill then
    match desk with
    | .neutral => (s.withTdu { t1 with held := .neutral }, false)
    | d => (s.withTdu { t1 with held := d, lastTravel := some d }, s.tdu.lastTravel.any (· != d))
  else if desk ≠ s.tdu.prevDesk then ((s.withTdu t1).setFlag .dirHeld, false)
  else (s.withTdu t1, false)

/-- The polyline from a breakpoint on (R58). -/
def limbFrom (lo : Breakpoint) : List Breakpoint → Nat → Int
  | [], _ => lo.effort
  | hi :: rest, x =>
    if x < hi.speed then
      lo.effort + Int.tdiv (((hi.effort : Int) - lo.effort) * ((x : Int) - lo.speed)) ((hi.speed : Int) - lo.speed)
    else limbFrom hi rest x

/-- A limb evaluated at a speed (R58). -/
def evalLimb (limb : List Breakpoint) (x : Nat) : Nat :=
  match limb with
  | [] => 0
  | b :: rest => if x ≤ b.speed then b.effort else (limbFrom b rest x).toNat

/-- A limb of the ACTIVE curve at a speed; an invalid bank gives 0 (R57). -/
def Traction.limbAt (t : Traction) (limb : Limb) (x : Nat) : Nat :=
  if t.curveActive.valid then
    match limb with
    | .power => evalLimb t.curveActive.power x
    | .brake => evalLimb t.curveActive.brake x
  else 0

/-- The speed that stands in the curve evaluation: v, or last known v while v is unknown (R54). -/
def Traction.curveSpeed (t : Traction) : Nat :=
  match t.speed with
  | some x => x.v
  | none => t.lastV

/-- E_target after stage 1 and the limb used with its value (R57). -/
def Traction.request (t : Traction) : Int × Option (Limb × Nat) :=
  let h := t.inputs.handle
  let band : Int := t.items.deadBand
  if band < h then
    match t.held with
    | .neutral => (0, none)
    | _ =>
      let e := t.limbAt .power t.curveSpeed
      (Int.tdiv (h * e) 1000, some (.power, e))
  else if h < -band then
    let e := t.limbAt .brake t.curveSpeed
    (-Int.tdiv ((h.natAbs : Int) * e) 1000, some (.brake, e))
  else (0, none)

/-! ### Stage 2: restrictions (R60 to R62) -/

/-- The mechanical brake is healthy: its slot is FRESH with the healthy bit set (R60, R205). -/
def State.brakeHealthy (s : State) (slot : Nat) : Bool :=
  s.sgt.isFresh (some slot) && ((s.slotBytes slot 1).getD 0 0).getLsbD 0

/-- BRAKE raised or lifted by the mechanical brake's status (R60). DESIGN CHOICE: the raise, with its
RSL_CHANGE, comes before BRAKE_FAULT (log 51). -/
def State.judgeBrake (s : State) : State :=
  let liftBrake := (s.withMarks { s.tdu.marks with brake := false }).lift .brake 0
  match s.sgt.brakeSlot with
  | none => if s.tdu.marks.brake then liftBrake else s
  | some i =>
    match s.brakeHealthy i, s.tdu.marks.brake with
    | false, false => ((s.withMarks { s.tdu.marks with brake := true }).raise .brake 0 (.cap 250)).setFlag .brakeFault
    | true, true => liftBrake
    | _, _ => s

/-- The summary of the restriction list (R61). -/
structure Summary where
  cap : Nat
  hold : Bool
  emergency : Bool
  deriving DecidableEq, Repr

/-- The list summarised as it stands (R61). -/
def summarise (l : List Restriction) : Summary := ⟨lowestCap l, holdPresent l, emergencyPresent l⟩

/-- v is known and at or above C: the OVERSPEED indication (R62). -/
def atCap (speed : Option Speed) (c : Nat) : Bool :=
  match speed with
  | some x => decide (c ≤ x.v)
  | none => false

/-- E_target after stage 2, by the first case of R62. -/
def cutBack (items : TractionItems) (speed : Option Speed) (y : Summary) (target : Int) : Int :=
  if y.emergency then -(items.emergBrake : Int)
  else if y.hold then min target (-(items.holdBrake : Int))
  else if atCap speed (y.cap + items.overspeedBand) then min target (-(items.enforceBrake : Int))
  else if atCap speed y.cap then min target 0
  else target

/-! ### Vigilance and the emergency handle (R63 to R65) -/

/-- The vigilance timer cleared and stopped, its indication off (R64). -/
def Traction.vigilCleared (t : Traction) : Traction := { t with vigil := 0, vigilOn := false }

/-- The warning: VIGIL_PAT requested on CHIME and VIGIL_WARN set (R63). DESIGN CHOICE: in this order (log 51). -/
def State.vigilWarning (s : State) : State :=
  ((s.withTdu { s.tdu with vigilOn := true }).soundRequest .chime ⟨s.ssq.items.vigilPat, .vigil, 2⟩).setFlag .vigilWarn

/-- The trip: VIGIL raised as EMERGENCY, VIGIL_TRIP set, EMERG_HORN_PAT requested on HORN (R63). DESIGN
CHOICE: in this order, RSL_CHANGE before VIGIL_TRIP (log 51). -/
def State.vigilTrip (s : State) : State :=
  (((s.withMarks { s.tdu.marks with vigil := true }).raise .vigil 0 (.emergency false)).setFlag .vigilTrip).soundRequest
    .horn ⟨s.ssq.items.emergHornPat, .vigil, 2⟩

/-- Vigilance in a computed period (R63, R64). -/
def State.supervise (s : State) : State :=
  if s.standstill then s.withTdu s.tdu.vigilCleared
  else if s.moving && !s.tdu.inputs.deadman && decide (s.tdu.vigil < s.tdu.items.vigilLimit) then
    let t := s.tdu.vigil + 20
    let s1 := s.withTdu { s.tdu with vigil := t }
    let s2 := if t = s.tdu.items.vigilWarn then s1.vigilWarning else s1
    if t = s.tdu.items.vigilLimit then s2.vigilTrip else s2
  else s

/-- DEADMAN delivered held: the timer cleared, VIGIL lifted if it was raised (R64). -/
def State.deadmanHeld (s : State) : State :=
  let s1 := s.withTdu s.tdu.vigilCleared
  if s.tdu.marks.vigil then (s1.withMarks { s1.tdu.marks with vigil := false }).lift .vigil 0 else s1

/-- HANDLE_EMERG delivered at a level (R65). DESIGN CHOICE: the raise, with its RSL_CHANGE, comes before the
HANDLE_EMERG flag (log 51). -/
def State.emergencyHandle (s : State) (level : Bool) : State :=
  if level then
    ((s.withMarks { s.tdu.marks with handle := true }).raise .handle 0 (.emergency false)).setFlag .handleEmerg
  else if s.tdu.marks.handle then (s.withMarks { s.tdu.marks with handle := false }).lift .handle 0
  else s

/-! ### Stage 3: the jerk limit (R66) -/

/-- S: the change of effort of one period. -/
def TractionItems.jerkStep (i : TractionItems) : Nat := i.jerk / 50

/-- The new E_cmd (R66). -/
def limitJerk (items : TractionItems) (emergency : Bool) (old target : Int) : Int :=
  let st : Int := items.jerkStep
  if emergency then -(items.emergBrake : Int)
  else if 0 < old ∧ target < 0 then max (old - st) 0
  else if old < 0 ∧ 0 < target then min (old + st) 0
  else old + max (-st) (min st (target - old))

/-! ### Stage 4: allocation (R69 to R74) -/

/-- A unit is available (R69). -/
def UnitView.available (u : UnitView) : Bool := u.entry.present && decide (0 < u.entry.weight) && u.ready

/-- W: the sum of the weights of the available units (R69). -/
def totalWeight (us : List UnitView) : Nat := ((us.filter (·.available)).map (·.entry.weight)).sum

/-- Truncated base shares (R70). -/
def truncatedShares (m : Nat) (us : List UnitView) : List Nat :=
  us.map fun u => if u.available then m * u.entry.weight / totalWeight us else 0

/-- The remainder of the truncation (R70). DESIGN CHOICE: it is 0 when W is 0, where R70 defines none and the
step record of R77 has a field for it (log 59). -/
def shareRemainder (m : Nat) (us : List UnitView) : Nat :=
  if totalWeight us = 0 then 0 else m - (truncatedShares m us).sum

/-- The remainder added to the lowest-numbered available unit (R70). -/
def addRemainder (r : Nat) : List UnitView → List Nat → List Nat
  | u :: us, b :: bs => if u.available then (b + r) :: bs else b :: addRemainder r us bs
  | _, bs => bs

/-- Base shares (R70). -/
def baseShares (m : Nat) (us : List UnitView) : List Nat :=
  addRemainder (shareRemainder m us) us (truncatedShares m us)

/-- The slip test of a unit whose axle speed is seen (R71). -/
def slipFound (threshold : Nat) (speed : Speed) (cmd : Int) (axle : Nat) : Bool :=
  if 0 < cmd then decide (speed.vMin + threshold < axle)
  else if cmd < 0 then decide (axle + threshold < speed.v)
  else false

/-- One step down of a slip factor (R71). -/
def factorDown (f : Nat) : Nat := if f = 100 then 75 else if f = 75 then 50 else 25

/-- One step up of a slip factor (R71). -/
def factorUp (f : Nat) : Nat := if f = 25 then 50 else if f = 50 then 75 else 100

/-- Factor and clean count after the test (R71). -/
def UnitSlip.after (x : UnitSlip) (slipping : Bool) : UnitSlip :=
  if slipping then ⟨factorDown x.factor, 0⟩
  else if x.factor < 100 then
    if x.clean + 1 = 10 then ⟨factorUp x.factor, 0⟩ else ⟨x.factor, x.clean + 1⟩
  else ⟨x.factor, 0⟩

/-- The slip test's outcome for a unit: none when it is not tested (R71). -/
def UnitView.tested (u : UnitView) (threshold : Nat) (speed : Option Speed) (cmd : Int) : Option Bool :=
  match u.entry.present, u.axle, speed with
  | true, some a, some x => some (slipFound threshold x cmd a)
  | _, _, _ => none

/-- A magnitude with the sign of E_cmd (R72). -/
def withSign (cmd : Int) (m : Nat) : Int := if cmd < 0 then -(m : Int) else m

/-- The magnitude of a unit's allocated share: base share times factor, clamped to its limit and
capability; 0 for a unit not available (R71, R72). -/
def UnitView.share (u : UnitView) (base factor : Nat) : Nat :=
  if u.available then min (base * factor / 100) (min u.entry.limit u.capability) else 0

/-- The traction cut-off is open (R73). -/
def cutOffOpen (speed : Option Speed) (y : Summary) (held : Direction) : Bool :=
  speed.any (fun x => decide (x.v < y.cap)) && !y.hold && !y.emergency && held != .neutral

/-- What stage 4 gives for one unit. -/
def unitRecord (items : TractionItems) (speed : Option Speed) (cmd : Int) (cut : Bool)
    (u : UnitView) (base : Nat) (slip : UnitSlip) : UnitRecord × UnitSlip :=
  let tested := u.tested items.slipThreshold speed cmd
  let after := match tested with | some b => slip.after b | none => slip
  let allocated := withSign cmd (u.share base after.factor)
  (⟨u.available, base, tested == some true, after.factor, allocated, if cut then 0 else allocated⟩, after)

/-- Stage 4 over the four units (R70 to R73). -/
def allocateUnits (items : TractionItems) (speed : Option Speed) (cmd : Int) (cut : Bool)
    (us : List UnitView) (slips : List UnitSlip) : List (UnitRecord × UnitSlip) :=
  (us.zip ((baseShares cmd.natAbs us).zip slips)).map fun (u, b, x) => unitRecord items speed cmd cut u b x

/-- The deficit of a period (R74). -/
def deficitOf (cmd : Int) (units : List UnitRecord) : Nat := cmd.natAbs - (units.map (·.published.natAbs)).sum

/-- The mechanical brake demand: what brake effort the units do not take (R74). -/
def mechDemand (cmd : Int) (deficit : Nat) : Nat := if cmd < 0 then deficit else 0

/-- UNITS_DEGRADED: a present unit is not available or has a factor below 100 (R74). -/
def degraded (us : List UnitView) (slips : List UnitSlip) : Bool :=
  (us.zip slips).any fun (u, x) => u.entry.present && (!u.available || decide (x.factor < 100))

/-- UNITS_LOST raised when no available weight is found and lifted when it returns (R69). DESIGN CHOICE: the
raise, with its RSL_CHANGE, comes before the UNITS_LOST flag (log 51). -/
def State.superviseUnits (s : State) (weight : Nat) : State :=
  match decide (weight = 0), s.tdu.marks.unitsLost with
  | true, false => ((s.withMarks { s.tdu.marks with unitsLost := true }).raise .unitsLost 0 .hold).setFlag .unitsLost
  | false, true => (s.withMarks { s.tdu.marks with unitsLost := false }).lift .unitsLost 0
  | _, _ => s

/-! ### The computation (R50, R51, R77, R78) -/

/-- Stages 3 and 4 with the step record, from the values that stages 0 to 2 left (R66 to R74, R77). -/
def State.finishPeriod (s : State) (stepped : Bool) (y : Summary) (target1 : Int) (limb : Option (Limb × Nat)) : State :=
  let t := s.tdu
  let target2 := cutBack t.items t.speed y target1
  let cmd := limitJerk t.items y.emergency t.eCmd target2
  let us := s.viewUnits
  let cut := decide (0 < cmd) && !cutOffOpen t.speed y t.held
  let alloc := allocateUnits t.items t.speed cmd cut us t.slips
  let units := alloc.map (·.1)
  let slips := alloc.map (·.2)
  let deficit := deficitOf cmd units
  let record : StepRecord :=
    { period := t.periodCount
      stepped := stepped
      speed := t.speed
      lastUsed := t.speed.isNone
      held := t.held
      handle := t.inputs.handle
      limb := limb
      target1 := target1
      cap := y.cap
      hold := y.hold
      emergency := y.emergency
      overspeed := atCap t.speed y.cap
      target2 := target2
      jerkStep := t.items.jerkStep
      cmdOld := t.eCmd
      cmd := cmd
      weight := totalWeight us
      remainder := shareRemainder cmd.natAbs us
      cut := cut
      deficit := deficit
      mech := mechDemand cmd deficit
      units := units }
  let s1 := s.withTdu { t with
    eCmd := cmd
    slips := slips
    overspeed := atCap t.speed y.cap
    tractionCut := cut
    unitsDegraded := degraded us slips
    computed := t.computed || !stepped
    record := some record }
  s1.superviseUnits (totalWeight us)

/-- What a computation hands to the RTU, to be taken after it (R51; log 14). -/
structure Handed where
  distance : Option Nat
  reversal : Bool
  deriving DecidableEq, Repr

/-- A computed period: stages 0 to 4 (R50). The vigilance of R63 follows its SETPOINT frame (`State.periodWork`;
log 62). -/
def State.computePeriod (s : State) : State × Handed :=
  let (s1, d) := s.evaluateSpeed
  let (s2, rev) := s1.settleDirection
  let (target1, limb) := s2.tdu.request
  let s3 := s2.judgeBrake.releaseTest
  let y := summarise s3.rsl
  (s3.finishPeriod false y target1 limb, ⟨d, rev⟩)

/-- The computation of STEP_ONE: no odometer, no vigilance, the release test after stage 0 (R78). -/
def State.computeStep (s : State) : State × Handed :=
  let s1 := s.findSpeed.superviseSpeed.releaseTest
  let (s2, rev) := s1.settleDirection
  let (target1, limb) := s2.tdu.request
  let s3 := s2.judgeBrake
  (s3.finishPeriod true (summarise s3.rsl) target1 limb, ⟨none, rev⟩)

/-! ### SETPOINT (R52, R75) -/

/-- The computed SETPOINT of a step record (R75). -/
def StepRecord.payload (r : StepRecord) : List Byte :=
  setpointPayload r.held (r.units.map (·.published)) r.mech r.emergency r.hold r.overspeed r.deficit

/-- The SETPOINT of the computed period just ended (R75). -/
def State.publishSetpoint (s : State) : State :=
  match s.tdu.record with
  | some r => s.publish s.tdu.items.setpointId r.payload
  | none => s

/-- The hold setpoint (R52). DESIGN CHOICE: the TRACTION_CUT indication keeps the value of the last
computation (R73; log 38). -/
def State.publishHold (s : State) : State :=
  let emergency := emergencyPresent s.rsl
  let mech := if emergency then max s.tdu.items.holdBrake s.tdu.items.emergBrake else s.tdu.items.holdBrake
  s.publish s.tdu.items.setpointId (setpointPayload s.tdu.held [0, 0, 0, 0] mech emergency true false 0)

/-! ### Resets (R79) -/

/-- The TDU's values at RESTART and standby exit (R79). -/
def Traction.restarted (t : Traction) : Traction :=
  { t with
    eCmd := 0
    slips := List.replicate 4 {}
    held := .neutral
    lastTravel := none
    prevDesk := .neutral
    vigil := 0
    vigilOn := false
    speed := none
    computed := false
    marks := {}
    overspeed := false
    unitsDegraded := false
    tractionCut := false }

/-- The TDU at standby entry: marks cleared, speed unknown, vigilance ended (R64, R79, R200). -/
def Traction.standby (t : Traction) : Traction := { t.vigilCleared with speed := none, marks := {} }

end Sys2Proof.Machine
end

