-- ==== Sys2Proof/Machine/Modes.lean ====
section
/-! DEFINITION. Operating modes (chapter 11): what every block does at a change of mode, holding,
standby, restart; and the desk's levels as they are delivered (R44), which a change of mode may do. -/

namespace Sys2Proof.Machine

/-! ### The delivered view (R40, R44) -/

/-- The levels and the handle that the DCI delivers. -/
structure View where
  image : Word
  handle : Int
  deriving DecidableEq, Repr

/-- The view in force: the stored image in OK; while LOST the safe view, in which only KEY_ON may be
held, at the held key (R40, R42). -/
def Desk.view (d : Desk) : View :=
  match d.state with
  | .ok => ⟨d.image, d.handle⟩
  | .lost => ⟨if d.heldKey then 1 else 0, 0⟩

/-- A level is to be delivered: it changed, or every level is (`old` none, R44). -/
def levelDue (old : Option View) (new : View) (i : DeskInput) : Bool :=
  match old with
  | none => true
  | some o => heldIn o.image i != heldIn new.image i

/-- The handle is to be delivered. -/
def handleDue (old : Option View) (new : View) : Bool :=
  match old with
  | none => true
  | some o => o.handle != new.handle

/-- The TDU's inputs after the due levels and handle are delivered (R44). -/
def DriverInputs.deliver (i : DriverInputs) (old : Option View) (new : View) : DriverInputs :=
  let level (k : DeskInput) (was : Bool) : Bool := if levelDue old new k then heldIn new.image k else was
  { handle := if handleDue old new then new.handle else i.handle
    deadman := level .deadman i.deadman
    handleEmerg := level .handleEmerg i.handleEmerg
    dirFwd := level .dirFwd i.dirFwd
    dirRev := level .dirRev i.dirRev }

/-- The handle and the levels delivered to the TDU, which acts on DEADMAN held and on HANDLE_EMERG
at once (R44, R64, R65). -/
def State.deliverTraction (s : State) (old : Option View) (new : View) : State :=
  let s1 := s.withTdu { s.tdu with inputs := s.tdu.inputs.deliver old new }
  let s2 := if levelDue old new .deadman && heldIn new.image .deadman then s1.deadmanHeld else s1
  if levelDue old new .handleEmerg then s2.emergencyHandle (heldIn new.image .handleEmerg) else s2

/-- The HORN level delivered to the SSQ; a release ends a held direct horn (R44, R169). -/
def State.deliverHorn (s : State) (old : Option View) (new : View) : State :=
  if levelDue old new .horn then
    let s1 := s.withSsq { s.ssq with hornLevel := heldIn new.image .horn }
    if heldIn new.image .horn then s1 else s1.hornRelease
  else s

/-- The due levels and the handle delivered to the TDU and the SSQ (R44). -/
def State.deliverLevels (s : State) (old : Option View) (new : View) : State :=
  (s.deliverTraction old new).deliverHorn old new

/-! ### Changes of mode -/

/-- The mode replaced. -/
def State.withMode (s : State) (m : Mode) : State := s.withMcr { s.mcr with mode := m }

/-- The mode changes to `m`, and every block does what its chapter says of such a change, in this
order (log 9): the sounders fall silent (R172), the vigilance timer is cleared (R64), raised channels
report (R192), the desk delivers its whole view (R44), DOORS is tested (R154). -/
def State.changeMode (s : State) (m : Mode) : State :=
  let old := s.mcr.mode
  let s1 := s.withMode m
  let s2 := if old.sounding && !m.sounding then s1.withSsq s1.ssq.silenced else s1
  let s3 := if old.driving && !m.driving then s2.withTdu s2.tdu.vigilCleared else s2
  let s4 := if !old.sounding && m.sounding then s3.reportChannels else s3
  let s5 := if !old.active && m.active then s4.deliverLevels none s4.dci.view else s4
  if old != m then s5.doorsTest else s5

/-- The desk chain interface at standby entry: its record of what it has raised is cleared with the list (R94,
section 5.2), and nothing else changes (R46). DESIGN CHOICE: R94 goes before R46 for that record (log 47). -/
def Desk.standby (d : Desk) : Desk := { d with raised := none }

/-- Standby entry: one handling in which no flag is set (R200), and in which the raising blocks clear their
records (R94). -/
def State.enterStandby (s : State) : State :=
  { s with
    efn := { s.efn with flags := 0 }
    sru := s.sru.cleared
    rtu := s.rtu.cleared
    ssq := s.ssq.cleared
    rsl := []
    tdu := s.tdu.standby
    sgt := s.sgt.cleared
    dci := s.dci.standby
    mcr := { s.mcr with mode := .standby } }

/-- The MCR's standby test: held key off, SERVICE, HOLD_PENDING or HOLD, standstill (R200). -/
def State.standbyTest (s : State) : State :=
  if !s.dci.heldKey && (s.mcr.mode.driving || decide (s.mcr.mode = .hold)) && s.standstill then s.enterStandby else s

/-- Entry to HOLD: MODE raised as HOLD (R95, R197), then the standby test of a change of mode (R200).
DESIGN CHOICE: the mode changes before MODE is raised (log 39). -/
def State.enterHold (s : State) : State := ((s.changeMode .hold).raise .mode 0 .hold).standbyTest

/-- The completion condition of HOLD_PENDING: standstill, no junction queued, every channel idle (R198). -/
def State.holdComplete (s : State) : Bool := s.standstill && s.rtu.queue.isEmpty && s.ssq.allIdle

/-- The completion test of HOLD_PENDING (R198). -/
def State.completionTest (s : State) : State :=
  if s.mcr.mode = .holdPending ∧ s.holdComplete = true then s.enterHold else s

/-- A channel of `after` is idle that was not in `before`. -/
def becameIdle (before after : Sounder) (ch : Channel) : Bool := !before.idle ch && after.idle ch

/-- The completion test where a removal left the junction queue empty or a channel became idle (R198),
after all else that the handling does (log 42). -/
def State.completionAfter (before after : State) : State :=
  if (!before.rtu.queue.isEmpty && after.rtu.queue.isEmpty) || becameIdle before.ssq after.ssq .horn ||
      becameIdle before.ssq after.ssq .bell || becameIdle before.ssq after.ssq .chime then
    after.completionTest
  else after

/-! ### Restart and standby exit (R201, R202) -/

/-- A port at RESTART and standby exit: queue emptied uncounted, seen set cleared (R18). -/
def LinePort.restarted (p : LinePort) : LinePort := LinePort.restartIdle { p with egress := [], seen := [] }

/-- The desk chain interface at RESTART and standby exit: KEY_ON kept, all else cleared, LOST (R46). -/
def Desk.restarted (d : Desk) : Desk :=
  { d with
    exchangeOpen := false
    image := d.image &&& 1
    handle := 0
    state := .lost
    raised := none
    badRun := 0
    goodRun := 0 }

/-- The track link at RESTART and standby exit (R139). -/
def TrackLink.restarted (t : TrackLink) : TrackLink :=
  { t with
    state := .listen
    reception := none
    abandoned := t.abandoned + (match t.reception with | some r => r.arrivals | none => 0)
    slot := none
    inFlight := none
    slotStart := none }

/-- What RESTART and standby exit do at their beginning: every block takes its restart values, the
mode becomes STARTING with the whole check to run, and MODE is raised as HOLD into the emptied list
(R18, R25, R26, R46, R79, R93, R125, R139, R157, R162, R187, R201, R202; log 10). -/
def State.restartBlocks (s : State) : State :=
  let s1 : State :=
    { s with
      line := { s.line with a := s.line.a.restarted, b := s.line.b.restarted }
      fcl := { s.fcl with requests := [] }
      sgt := s.sgt.cleared
      dci := s.dci.restarted
      tdu := s.tdu.restarted
      rsl := []
      rtu := s.rtu.cleared
      tlk := s.tlk.restarted
      sru := s.sru.cleared
      ssq := s.ssq.cleared
      efn := { s.efn with flags := 0 }
      mcr := { s.mcr with mode := .starting, checkLeft := Config.checkMs } }
  s1.raise .mode 0 .hold

/-- A change of the held key at the MCR: off may enter STANDBY, on leaves it (R200, R201). -/
def State.keyChanged (s : State) : State :=
  if s.dci.heldKey then (if s.mcr.mode = .standby then s.restartBlocks else s)
  else s.standbyTest

/-- SERVICE entered: MODE lifted, the mode changed, standby tested (R95, R200). DESIGN CHOICE: MODE is
lifted before the mode changes (log 39). -/
def State.enterService (s : State) : State := ((s.lift .mode 0).changeMode .service).standbyTest

/-- Both ACTIVE banks of the traction tables are valid (R194, R196). -/
def Traction.banksValid (t : Traction) : Bool := t.curveActive.valid && t.allocActive.valid

/-- The end of the start-up check (R194); the first entry to CONFIGURE or SERVICE queues one
STOP_DISPLAY (R148). DESIGN CHOICE: that frame follows all else that the change of mode does (log 40). -/
def State.endCheck (s : State) (pass : Bool) : State :=
  let s0 := s.withMcr { s.mcr with checkLeft := 0 }
  if !pass then s0.changeMode .failed
  else if s.tdu.banksValid then (((s0.lift .mode 0).changeMode .service).sendStopDisplay).standbyTest
  else (s0.changeMode .configure).sendStopDisplay

/-! ### Meanings -/

/-- The state that power-on leaves for a reading of the straps (R1, R193): every block at its
power-on values; STARTING with a node address 1..62, FAILED without one. -/
def powerOnState (straps : BitVec 6) : State :=
  if straps = 0 ∨ straps = 63 then State.reset
  else State.reset.withMcr { mode := .starting, address := some (straps.setWidth 8), checkLeft := Config.checkMs }

/-- POWER_ON (R1, R193). The commands that wait go on waiting, and free values are not used twice. -/
def execPowerOn (straps : Nat) (s : State) : Host.Outcome State Fault Refusal :=
  .next (((powerOnState (BitVec.ofNat 6 straps)).withEnv ⟨0, s.env.free⟩).withPending s.pending)

/-- STARTUP_CHECK_END (R194): while no check runs there is none to end (log 3). -/
def execStartupCheckEnd (pass : Bool) (s : State) : Host.Outcome State Fault Refusal :=
  .next (if s.mcr.mode = .starting then s.endCheck pass else s)

/-- SOUND_STEP_BOUNDARY (R167, R168, R171), with the completion test when the channel becomes idle (R198). -/
def execSoundStepBoundary (ch : Channel) (load : Bool) (s : State) : Host.Outcome State Fault Refusal :=
  .next (State.completionAfter s (s.soundBoundary ch load))

/-- DIRECT_HORN_MIN_END (R169), with the completion test when the channel becomes idle (R198). -/
def execDirectHornMinEnd (s : State) : Host.Outcome State Fault Refusal :=
  .next (State.completionAfter s s.hornMinEnd)

/-- DIRECT_HORN_INTERVAL (R171). -/
def execDirectHornInterval (load : Bool) (s : State) : Host.Outcome State Fault Refusal :=
  .next (s.hornInterval load)

/-- The traction work of a control period by mode (the table of R50), without the MCR's tests. DEDUCED: the
vigilance of R63 runs after the SETPOINT frame is made, so that the frame of the period that trips it is no frame
made while the list holds its EMERGENCY (R73; log 62). DESIGN CHOICE: so a VIGIL raise follows a UNITS_LOST raise of
the same period, which comes with the shares, and stands behind it where both append (R89; log 60). What
the computation hands to the RTU is taken after it (R51; log 14). DESIGN CHOICE: the RTU takes the
period-distance event before the reversal event of the same period (R104; log 46). -/
def State.periodWork (s : State) : State :=
  match s.mcr.mode with
  | .starting | .failed | .standby => s
  | .configure | .hold =>
    let (s1, d) := s.evaluateSpeed
    let s2 := s1.releaseTest.publishHold
    match d with
    | some d => s2.periodDistance d
    | none => s2
  | .step => s.publishHold
  | .service | .holdPending =>
    let (s1, h) := s.computePeriod
    let s2 := s1.publishSetpoint.supervise
    let s3 := match h.distance with | some d => s2.periodDistance d | none => s2
    if h.reversal then s3.reversal else s3

/-- The period timer restarted and the period count incremented (R50). -/
def State.startPeriod (s : State) : State :=
  (s.withTdu { s.tdu with periodLeft := Config.periodMs, periodCount := s.tdu.periodCount + 1 }).bumpFree

/-- The mode evaluates the speed at a control period (R50). -/
def Mode.evaluates : Mode → Bool
  | .configure | .service | .holdPending | .hold => true
  | _ => false

/-- CONTROL_PERIOD (R50), with the MCR's tests at the end of the speed evaluation (R198, R200; log 14). -/
def execControlPeriod (s : State) : Host.Outcome State Fault Refusal :=
  let s1 := s.startPeriod.periodWork
  .next (if s.mcr.mode.evaluates then s1.completionTest.standbyTest else s1)

end Sys2Proof.Machine
end

