-- ==== Sys2Proof/Machine/DeskChain.lean ====
section
/-! DEFINITION. The desk chain interface (chapter 3): scans, loss and recovery, deliveries, lamps. -/

namespace Sys2Proof.Machine

/-! ### Orders that the spec leaves open (log 6) -/

/-- A list in an order that `code` picks: each element goes to a free place of the rest's order, so
that every order is some code's. -/
def permute {α : Type} (code : Nat) : List α → List α
  | [] => []
  | x :: xs =>
    match xs with
    | [] => [x]
    | _ :: _ =>
      let places := xs.length + 1
      let rest := permute (code / places) xs
      rest.take (code % places) ++ x :: rest.drop (code % places)

/-! ### Deliveries of a good scan (R44) -/

/-- The blocks that desk inputs are delivered to (R44). -/
inductive Consumer where
  | traction | sound | route | stops | control
  deriving DecidableEq, Repr

/-- What one good scan changes: the views before and after, the presses found, the key before and
after, and the index of its free orders. -/
structure ScanChange where
  old : View
  new : View
  presses : Word
  keyOld : Bool
  keyNew : Bool
  orders : Nat
  deriving DecidableEq, Repr

/-- An input was pressed on this scan (R38). -/
def ScanChange.pressed (c : ScanChange) (i : DeskInput) : Bool := heldIn c.presses i

/-- The route unit's presses (R120, R121). -/
def routeInputs : List DeskInput := [.routeL, .routeS, .routeR, .proceed]

/-- The stop request unit's presses (R149 to R152). -/
def stopInputs : List DeskInput := [.doorRelL, .doorRelR, .doorClose, .stopCancel]

/-- The scan has something to deliver to a consumer (R44). -/
def ScanChange.due (c : ScanChange) : Consumer → Bool
  | .traction =>
    handleDue (some c.old) c.new ||
      [DeskInput.deadman, .handleEmerg, .dirFwd, .dirRev].any (levelDue (some c.old) c.new)
  | .sound => levelDue (some c.old) c.new .horn || c.pressed .horn || c.pressed .bell
  | .route => routeInputs.any c.pressed
  | .stops => stopInputs.any c.pressed
  | .control => c.keyOld != c.keyNew

/-- A press delivered to the RTU (R120, R121). -/
def State.routePress (s : State) (i : DeskInput) : State :=
  match i with
  | .routeL => s.routeButton .l
  | .routeS => s.routeButton .s
  | .routeR => s.routeButton .r
  | .proceed => s.proceedPress
  | _ => s

/-- A press delivered to the SRU (R149 to R152). -/
def State.stopPress (s : State) (i : DeskInput) : State :=
  match i with
  | .doorRelL => s.doorReleasePress .left
  | .doorRelR => s.doorReleasePress .right
  | .doorClose => s.doorClosePress
  | .stopCancel => s.stopCancelPress
  | _ => s

/-- The HORN and BELL inputs delivered to the SSQ (R163, R169). -/
def State.deliverSound (s : State) (c : ScanChange) : State :=
  let s1 := s.deliverHorn (some c.old) c.new
  let s2 := if c.pressed .horn then s1.hornPress else s1
  if c.pressed .bell then s2.soundRequest .bell ⟨s2.ssq.items.driverBellPat, .driver, 3⟩ else s2

/-- One consumer's share of a good scan. Outside the five modes of R44 only the key is delivered. -/
def State.deliverTo (c : ScanChange) (s : State) (x : Consumer) : State :=
  match x with
  | .control => s.keyChanged
  | .traction => if s.mcr.mode.active then s.deliverTraction (some c.old) c.new else s
  | .sound => if s.mcr.mode.active then s.deliverSound c else s
  | .route =>
    if s.mcr.mode.active then
      (permute (Config.arrivalOrder c.orders 1) (routeInputs.filter c.pressed)).foldl State.routePress s
    else s
  | .stops =>
    if s.mcr.mode.active then
      (permute (Config.arrivalOrder c.orders 2) (stopInputs.filter c.pressed)).foldl State.stopPress s
    else s

/-- A good scan's deliveries, in an order that the spec leaves open (R44; log 6). -/
def State.deliverScan (s : State) (c : ScanChange) : State :=
  (permute (Config.arrivalOrder c.orders 0)
    ([Consumer.traction, .sound, .route, .stops, .control].filter c.due)).foldl (State.deliverTo c) s

/-! ### DESK (R40 to R43) -/

/-- The kind with which DESK is raised (R43). -/
def State.deskKind (s : State) : DeskKind :=
  if s.mcr.mode.driving && s.tdu.computed && !s.standstill then .emergency else .hold

/-- DESK raised with a kind, which becomes the kind last raised (R46). -/
def State.raiseDesk (s : State) (k : DeskKind) : State :=
  (s.withDci { s.dci with raised := some k }).raise .desk 0 (match k with | .hold => .hold | .emergency => .emergency false)

/-- The desk goes LOST: the safe view delivered, DESK raised where the mode allows, DESK_LOST set
(R40, R43). DESIGN CHOICE: in this order (log 37). -/
def State.loseDesk (s : State) : State :=
  let old := s.dci.view
  let s1 := s.withDci { s.dci with state := .lost, badRun := 0, goodRun := 0 }
  let s2 := if s.mcr.mode.active then (s1.deliverLevels (some old) s1.dci.view).raiseDesk s.deskKind else s1
  s2.setFlag .deskLost

/-- The desk recovers: the stored view delivered, DESK lifted where the mode allows, DESK_OK set (R42, R43).
DESIGN CHOICE: in this order (log 37). -/
def State.recoverDesk (s : State) : State :=
  let old := s.dci.view
  let s1 := s.withDci { s.dci with state := .ok, badRun := 0, goodRun := 0 }
  let s2 := if s.mcr.mode.active then (s1.deliverLevels (some old) s1.dci.view).lift .desk 0 else s1
  s2.setFlag .deskOk

/-- At a scan expiry with the desk LOST: the first DESK raise after a reset, or its escalation to
EMERGENCY (R41, R46). -/
def State.escalateDesk (s : State) : State :=
  if s.dci.state = .lost ∧ s.mcr.mode.active = true then
    match s.dci.raised, s.deskKind with
    | none, k => s.raiseDesk k
    | some .hold, .emergency => s.raiseDesk .emergency
    | _, _ => s
  else s

/-! ### Scans (R37 to R39) -/

/-- A bad or missing scan (R39). -/
def State.badScan (s : State) : State :=
  let d := { s.dci with badScans := satInc s.dci.badScans }
  match s.dci.state with
  | .ok =>
    if s.dci.badRun + 1 = 3 then (s.withDci d).loseDesk
    else s.withDci { d with badRun := s.dci.badRun + 1 }
  | .lost => s.withDci { d with goodRun := 0 }

/-- A good scan (R38, R41, R42, R45). -/
def State.goodScan (s : State) (image : Word) (handle : Int) : State :=
  let d := { s.dci with image := image, handle := handle, heldKey := heldIn image .keyOn }
  let keyOld := s.dci.heldKey
  match s.dci.state with
  | .ok =>
    let s1 := (s.withDci { d with badRun := 0 }).bumpFree
    s1.deliverScan ⟨s.dci.view, s1.dci.view, image &&& ~~~ s.dci.image, keyOld, s1.dci.heldKey, s.env.free⟩
  | .lost =>
    let s1 := s.withDci { d with goodRun := s.dci.goodRun + 1 }
    let s2 := if s1.dci.goodRun = 5 then s1.recoverDesk else s1
    if keyOld != heldIn image .keyOn then s2.keyChanged else s2

/-! ### Lamps (R47, R48, R210) -/

/-- The condition of each lamp, lamp 0 first (R47, R210). -/
def State.lampConditions (s : State) : List Bool :=
  let head := s.rtu.queue.head?
  let headIn (st : TxState) : Bool := head.any (·.state == st)
  let confirmed (d : PointDir) : Bool := head.any fun t => t.state == .confirmed && t.dir == some d
  [ s.sru.list.any (·.kind == .normal)
  , assistRequested s.sru.list
  , s.sru.door == .released
  , headIn .requesting || headIn .awaitDriver
  , headIn .confirmed
  , s.rtu.queue.any fun t => t.state == .unconfirmed || t.state == .proceed
  , confirmed .l
  , confirmed .s
  , confirmed .r
  , s.tdu.overspeed
  , decide (s.tdu.items.vigilWarn ≤ s.tdu.vigil)
  , emergencyPresent s.rsl
  , holdPresent s.rsl
  , s.tdu.unitsDegraded
  , s.line.a.link == .down || s.line.b.link == .down
  , s.tlk.condition == .fault ]

/-- Lamps as a 32-bit number (R210). -/
def lampWord (lamps : List Bool) : Word :=
  BitVec.ofNat 32 ((lamps.zipIdx.map fun (b, i) => if b then 2 ^ i else 0).sum)

/-- The lamp image assembled at a scan expiry (R47, R48). -/
def State.lampImage (s : State) : Word :=
  if heldIn s.dci.view.image .lampTest then BitVec.allOnes 32
  else
    match s.mcr.mode with
    | .standby | .failed => BitVec.twoPow 32 12
    | _ => lampWord s.lampConditions

/-! ### Meanings -/

/-- A scan expiry: the open exchange closed as missing, DESK escalated, the lamp image assembled and
shifted out, a new exchange opened (R36, R41, R47). DESIGN CHOICE: a DESK raise of this expiry is made
before the image reads the list (R36, R90; log 36). -/
def State.scanExpiry (s : State) : State :=
  let s1 := (if s.dci.exchangeOpen then s.badScan else s).escalateDesk
  s1.withDci { s1.dci with scanLeft := Config.scanMs, exchangeOpen := true, lamps := s1.lampImage }

/-- A scan's arrival ends in an open exchange (R37). -/
def State.judgeScan (s : State) (bytes : List Byte) : State :=
  let s1 := s.withDci { s.dci with exchangeOpen := false }
  match acceptScan bytes with
  | some (image, handle) => s1.goodScan image handle
  | none => s1.badScan

/-- SCAN_TIMER_EXPIRY (R36); a direct horn that the safe view ends may complete a hold (R198). -/
def execScanTimerExpiry (s : State) : Host.Outcome State Fault Refusal :=
  .next (State.completionAfter s s.scanExpiry)

/-- SCAN_ARRIVAL_END (R37): the scan closes the exchange that it belongs to; one that ends after the expiry
that closed its exchange, or with no exchange open, is discarded unread. DESIGN CHOICE: that the scan is late is
said with the command, for the exchange now open may be the next one (log 64). A removal or a direct horn that
ends may complete a hold (R198). DESIGN CHOICE: the completion test follows all of the scan's deliveries (log 42). -/
def execScanArrivalEnd (scan : ScanArrival) (s : State) : Host.Outcome State Fault Refusal :=
  .next (if s.dci.exchangeOpen && !scan.late then State.completionAfter s (s.judgeScan scan.bytes) else s)

end Sys2Proof.Machine
end

