-- ==== Sys2Proof/Machine/Requests.lean ====
section
/-! DEFINITION. The management responder's frame: which row a request is (R206), what is answered
before a request's own rules (R175), and the RESPONSE that ends every handling (R174). -/

namespace Sys2Proof.Machine

/-- Answer status, in the order of its codes (R174, R207). -/
inductive Status where
  | done | doneClamped | refusedMode | refusedBusy | refusedInvalid | refusedRange | liveBank | livePattern
  | badItem | starting
  deriving DecidableEq, Repr

/-- Code of a status (R207). -/
def Status.code : Status → Nat
  | .done => 0
  | .doneClamped => 1
  | .refusedMode => 2
  | .refusedBusy => 3
  | .refusedInvalid => 4
  | .refusedRange => 5
  | .liveBank => 6
  | .livePattern => 7
  | .badItem => 8
  | .starting => 9

/-- A status with the results that follow it (R207). -/
structure Answer where
  status : Status
  results : List Byte := []
  deriving DecidableEq, Repr

/-- The request rows of the table. -/
inductive Row where
  | readItem | writeItem | loadEntry | readEntry | commit | readLoadSum | readFlags | setEnables
  | readRestrictions | readJunctions | readStops | readStep
  | holdSoft | holdHard | release | stepEnter | stepOne | stepExit | enterService | restart
  | setRoute | unknown
  deriving DecidableEq, Repr

/-! ### Codes and lengths (R206) -/

/-- The tables, in the order of their codes (R206). -/
inductive TableName where
  | window | curve | allocation | route | stopSource | pattern
  deriving DecidableEq, Repr

/-- The table a code names, if it names one (R206). -/
def TableName.ofCode (b : Byte) : Option TableName :=
  match b.toNat with
  | 0 => some .window
  | 1 => some .curve
  | 2 => some .allocation
  | 3 => some .route
  | 4 => some .stopSource
  | 5 => some .pattern
  | _ => none

/-- Index bytes of a table (R206). -/
def TableName.indexBytes : TableName → Nat
  | .curve => 2
  | _ => 1

/-- Entry bytes of a table (R206). -/
def TableName.entryBytes : TableName → Nat
  | .window => 8
  | .curve => 4
  | .allocation => 6
  | .route => 14
  | .stopSource => 2
  | .pattern => 7

/-- The length test of LOAD_ENTRY and READ_ENTRY, `entry` saying whether entry bytes follow (R206). -/
def tableLength (payload : List Byte) (entry : Bool) : Bool :=
  match payload with
  | table :: _ :: rest =>
    match TableName.ofCode table with
    | some t => rest.length == t.indexBytes + (if entry then t.entryBytes else 0)
    | none => true
  | _ => false

/-- The MODE request that a byte names (R206). -/
def modeRow (b : Byte) : Row :=
  match b.toNat with
  | 0 => .holdSoft
  | 1 => .holdHard
  | 2 => .release
  | 3 => .stepEnter
  | 4 => .stepOne
  | 5 => .stepExit
  | 6 => .enterService
  | 7 => .restart
  | _ => .unknown

/-- A row when a condition on its length holds; an unknown request else (R175, R206). -/
def rowIf (ok : Bool) (row : Row) : Row := if ok then row else .unknown

/-- The row a request is: its code with the payload length of that code (R175, R206). -/
def Request.row (r : Request) : Row :=
  let n := r.payload.length
  match r.code.toNat with
  | 1 => rowIf (n == 2) .readItem
  | 2 => rowIf (n == 6) .writeItem
  | 3 => rowIf (tableLength r.payload true) .loadEntry
  | 4 => rowIf (tableLength r.payload false) .readEntry
  | 5 => rowIf (n == 1) .commit
  | 6 => rowIf (n == 0) .readLoadSum
  | 7 => rowIf (n == 1) .readFlags
  | 8 => rowIf (n == 3) .setEnables
  | 9 => rowIf (n == 1) .readRestrictions
  | 10 => rowIf (n == 1) .readJunctions
  | 11 => rowIf (n == 1) .readStops
  | 12 => rowIf (n == 1) .readStep
  | 13 =>
    match r.payload with
    | [b] => modeRow b
    | _ => .unknown
  | 14 => rowIf (n == 2) .setRoute
  | _ => .unknown

/-- A byte of the payload. -/
def Request.byte (r : Request) (p : Nat) : Byte := r.payload.getD p 0

/-- A 16-bit operand of the payload. -/
def Request.half (r : Request) (p : Nat) : Half := be2 (r.byte p) (r.byte (p + 1))

/-- A signed 32-bit operand of the payload. -/
def Request.int (r : Request) (p : Nat) : Int :=
  (be4 (r.byte p) (r.byte (p + 1)) (r.byte (p + 2)) (r.byte (p + 3))).toInt

/-! ### The tests of R175 -/

/-- The item number of the operating mode (R208). -/
def modeItemNumber : Nat := 0x0900

/-- A READ_ITEM of the operating mode item (R175). -/
def Request.readsMode (r : Request) : Bool := r.row == .readItem && (r.half 0).toNat == modeItemNumber

/-- The first test of R175 that applies, with its status; none when the request's own rules decide it.
A request whose length is not that of its code is no READ_ITEM and no RESTART (log 34). DESIGN CHOICE: FAILED refuses a READ_ITEM of the mode item too, as R175
and the second sentence of R195 say, against the last sentence of R195 (log 55). -/
def preAnswer (mode : Mode) (r : Request) : Option Status :=
  if mode = .starting ∧ r.readsMode = false then some .starting
  else if mode = .failed ∧ r.row ≠ .restart then some .refusedMode
  else if r.row = .unknown then some .refusedInvalid
  else none

/-! ### The handling (R174) -/

/-- The RESPONSE to a request, presented (R174, R206, R207). -/
def State.respond (s : State) (r : Request) (a : Answer) : State :=
  s.sendOwn .response r.requester (r.code ++ r.tag) (byte1 a.status.code ++ a.results)

/-- A request decided: the tests of R175, else its own rules. -/
def decideRequest (act : Request → State → State × Answer) (r : Request) (s : State) : State × Answer :=
  match preAnswer s.mcr.mode r with
  | some st => (s, ⟨st, []⟩)
  | none => act r s

/-- A request carried out and answered (R174). -/
def answerRequest (act : Request → State → State × Answer) (r : Request) (s : State) : State :=
  let (s1, a) := decideRequest act r s
  s1.respond r a

/-- The responder takes the request at the front of the queue if it is of this row, and handles it
whole (R24, R174). With no request waiting, or one of another row, nothing happens (log 4). -/
def manage (row : Row) (act : Request → State → State × Answer) (s : State) : State :=
  match s.fcl.requests with
  | [] => s
  | r :: rest => if r.row = row then answerRequest act r (s.withFcl { s.fcl with requests := rest }) else s

end Sys2Proof.Machine
end

