-- ==== Sys2Proof/Machine/Items.lean ====
section
/-! DEFINITION. Items: their numbers (R208), their values as READ_ITEM returns them (R207), their
write classes (section 10.2) and what WRITE_ITEM does to them (R177, R178). -/

namespace Sys2Proof.Machine

/-! ### Numbers (R208) -/

/-- The counters of a port, in the order of R17. -/
inductive PortCounter where
  | forwarded | checkFail | rxOverrun | loop | fwdDrop | ownDrop | linkDiscard
  deriving DecidableEq, Repr

/-- The traction items, in the order of R76. -/
inductive TractionItem where
  | deadBand | emergBrake | holdBrake | enforceBrake | overspeedBand | jerk | vigilWarn | vigilLimit
  | slipThreshold | setpointId
  deriving DecidableEq, Repr

/-- The route items, in the order of R100. -/
inductive RouteItem where
  | tramNumber | confirmTimeout | shortRetries | defaultCap | proceedCap | defaultClearance | noMatch
  deriving DecidableEq, Repr

/-- The track counters of R136 and the retry items of R137. -/
inductive TrackItem where
  | rxGood | rxBad | collide | txSent | retry | rollover
  deriving DecidableEq, Repr

/-- The slot binding items (R32). -/
inductive Binding where
  | brake | door | stop
  deriving DecidableEq, Repr

/-- The pattern items, in the order of R161. -/
inductive PatternItem where
  | stop | assist | doorClosing | vigil | driverBell | emergHorn
  deriving DecidableEq, Repr

/-- The items (R208). -/
inductive Item where
  | slot (i : Nat) | lastStale
  | port (p : Line) (c : PortCounter)
  | deskState | inputImage | deliveredView | lampImage | deskBadScans
  | traction (t : TractionItem)
  | speed | odometer | eCmd | heldDirection | unitSlip (u : Nat) | vigilance | indications
  | curveBanks | allocationBanks
  | route (r : RouteItem) | requestSeq | routeNumber
  | track (t : TrackItem) | transceiver | linkCondition | failureRun | slotOccupied
  | doorState | releasedSides | stopImage | armedFlags | doorView | doorsMark
  | doorCommandId | stopDisplayId | binding (b : Binding)
  | pattern (p : PatternItem) | channel (c : Channel) | directHorn
  | notifyEnable (c : Nat) | notifyDest (c : Nat) | notifyMap
  | operatingMode | nodeAddress
  deriving DecidableEq, Repr

/-- The items of a row of R208 that starts at `base`. -/
def itemRow (base : Nat) (items : List Item) (n : Nat) : Option Item :=
  if base ≤ n then items[n - base]? else none

/-- The port counter items of a port. -/
def portItems (p : Line) : List Item :=
  [.port p .forwarded, .port p .checkFail, .port p .rxOverrun, .port p .loop, .port p .fwdDrop, .port p .ownDrop,
    .port p .linkDiscard]

/-- The rows of R208 with the number each starts at, the slots apart. -/
def itemRows : List (Nat × List Item) :=
  [(0x0080, [.lastStale]),
    (0x0100, portItems .a),
    (0x0110, portItems .b),
    (0x0200, [.deskState, .inputImage, .deliveredView, .lampImage, .deskBadScans]),
    (0x0300, [.traction .deadBand, .traction .emergBrake, .traction .holdBrake, .traction .enforceBrake,
      .traction .overspeedBand, .traction .jerk, .traction .vigilWarn, .traction .vigilLimit, .traction .slipThreshold,
      .traction .setpointId]),
    (0x0310, [.speed, .odometer, .eCmd, .heldDirection, .unitSlip 0, .unitSlip 1, .unitSlip 2, .unitSlip 3, .vigilance,
      .indications]),
    (0x0320, [.curveBanks, .allocationBanks]),
    (0x0400, [.route .tramNumber, .route .confirmTimeout, .route .shortRetries, .route .defaultCap, .route .proceedCap,
      .route .defaultClearance, .route .noMatch]),
    (0x0410, [.requestSeq, .routeNumber]),
    (0x0500, [.track .rxGood, .track .rxBad, .track .collide, .track .txSent, .track .retry, .track .rollover,
      .transceiver, .linkCondition, .failureRun, .slotOccupied]),
    (0x0600, [.doorState, .releasedSides, .stopImage, .armedFlags, .doorView, .doorsMark, .doorCommandId, .stopDisplayId,
      .binding .brake, .binding .door, .binding .stop]),
    (0x0700, [.pattern .stop, .pattern .assist, .pattern .doorClosing, .pattern .vigil, .pattern .driverBell,
      .pattern .emergHorn]),
    (0x0710, [.channel .horn, .channel .bell, .channel .chime, .directHorn]),
    (0x0800, [.notifyEnable 0, .notifyEnable 1, .notifyEnable 2, .notifyEnable 3, .notifyDest 0, .notifyDest 1,
      .notifyDest 2, .notifyDest 3, .notifyMap]),
    (0x0900, [.operatingMode, .nodeAddress])]

/-- The item a number names, if it names one (R208). -/
def Item.ofNumber (n : Nat) : Option Item :=
  if n < Config.slotCount then some (.slot n) else itemRows.findSome? fun (base, items) => itemRow base items n

/-! ### Values (R207) -/

/-- A single-valued item that is a number: 4 signed bytes (R207). -/
def single (n : Nat) : List Byte := int4 n

/-- A 16-bit item. -/
def singleHalf (h : Half) : List Byte := single h.toNat

/-- A yes, set, on or held item. -/
def singleFlag (b : Bool) : List Byte := single (if b then 1 else 0)

/-- A field of one byte that may be NONE (R204). -/
def optional1 (o : Option Nat) : List Byte :=
  match o with
  | some n => byte1 n
  | none => absent 1

/-- A field of two bytes that may be NONE (R204). -/
def optional2 (o : Option Nat) : List Byte :=
  match o with
  | some n => nat2 n
  | none => absent 2

/-- A single-valued item that may be NONE (R204). -/
def singleOption (o : Option Nat) : List Byte :=
  match o with
  | some n => single n
  | none => absent 4

/-- Code of a slot state. -/
def SlotState.code : SlotState → Nat
  | .never => 0
  | .fresh => 1
  | .stale => 2

/-- A slot: state, age, freshness limit, update count, source, value length and value (R35, R207). -/
def Slot.record (t : Slot) : List Byte :=
  byte1 t.state.code ++ byte1 t.age ++ byte1 t.limit ++ [t.updates] ++ optional1 (t.source.map BitVec.toNat) ++
    byte1 t.value.length ++ t.value ++ List.replicate (8 - t.value.length) 0

/-- A counter of a port. -/
def PortCounters.read (c : PortCounters) : PortCounter → Half
  | .forwarded => c.forwarded
  | .checkFail => c.checkFail
  | .rxOverrun => c.rxOverrun
  | .loop => c.loop
  | .fwdDrop => c.fwdDrop
  | .ownDrop => c.ownDrop
  | .linkDiscard => c.linkDiscard

/-- A traction item's value. -/
def TractionItems.read (i : TractionItems) : TractionItem → Nat
  | .deadBand => i.deadBand
  | .emergBrake => i.emergBrake
  | .holdBrake => i.holdBrake
  | .enforceBrake => i.enforceBrake
  | .overspeedBand => i.overspeedBand
  | .jerk => i.jerk
  | .vigilWarn => i.vigilWarn
  | .vigilLimit => i.vigilLimit
  | .slipThreshold => i.slipThreshold
  | .setpointId => i.setpointId.toNat

/-- Code of a no-match policy (R100, R204). -/
def NoMatch.code : NoMatch → Nat
  | .pass => 0
  | .manual => 1

/-- A route item's value. -/
def RouteItems.read (i : RouteItems) : RouteItem → Nat
  | .tramNumber => i.tramNumber.toNat
  | .confirmTimeout => i.confirmTimeout
  | .shortRetries => i.shortRetries
  | .defaultCap => i.defaultCap
  | .proceedCap => i.proceedCap
  | .defaultClearance => i.defaultClearance
  | .noMatch => i.noMatch.code

/-- A track item's value. -/
def TrackLink.read (t : TrackLink) : TrackItem → Nat
  | .rxGood => t.rxGood.toNat
  | .rxBad => t.rxBad.toNat
  | .collide => t.collide.toNat
  | .txSent => t.txSent.toNat
  | .retry => t.retry.toNat
  | .rollover => if t.rollover then 1 else 0

/-- A binding item's slot. -/
def SignalTable.bound (t : SignalTable) : Binding → Option Nat
  | .brake => t.brakeSlot
  | .door => t.doorSlot
  | .stop => t.stopSlot

/-- A pattern item's value. -/
def PatternItems.read (i : PatternItems) : PatternItem → Nat
  | .stop => i.stopPat
  | .assist => i.assistPat
  | .doorClosing => i.doorClosingPat
  | .vigil => i.vigilPat
  | .driverBell => i.driverBellPat
  | .emergHorn => i.emergHornPat

/-- Code of a desk state. -/
def DeskState.code : DeskState → Nat
  | .ok => 0
  | .lost => 1

/-- Code of a transceiver state. -/
def Transceiver.code : Transceiver → Nat
  | .listen => 0
  | .receiving => 1
  | .transmitting => 2

/-- Code of a link condition. -/
def LinkCondition.code : LinkCondition → Nat
  | .ok => 0
  | .fault => 1

/-- Code of a door state. -/
def DoorState.code : DoorState → Nat
  | .closedLocked => 0
  | .released => 1
  | .closing => 2

/-- Code of the released sides: none, L, R, both (section 8, state table). DESIGN CHOICE: none is code 0, its
place in that list, in the released sides item and in the fixed part of READ_STOPS alike, and not the all ones
with which R204 carries NONE (R184; log 63). -/
def Sides.code (x : Sides) : Nat := (if x.left then 1 else 0) + (if x.right then 2 else 0)

/-- Code of a sound source. -/
def SoundSource.code : SoundSource → Nat
  | .driver => 0
  | .vigil => 1
  | .doors => 2
  | .route => 3
  | .stops => 4

/-- Code of an operating mode (R208). -/
def Mode.code : Mode → Nat
  | .starting => 0
  | .failed => 1
  | .configure => 2
  | .service => 3
  | .holdPending => 4
  | .hold => 5
  | .step => 6
  | .standby => 7

/-- A queued sound request: pattern, source, priority (R162). -/
def SoundRequest.record (r : SoundRequest) : List Byte := byte1 r.pattern ++ byte1 r.source.code ++ byte1 r.priority

/-- The playing record, and whether it is suspended (R162, R173); absent fields when nothing plays (log 18). -/
def playingRecord (p : Option Playing) (suspended : Bool) : List Byte :=
  match p with
  | some x =>
    x.request.record ++ byte1 (if x.second then 2 else 1) ++ byte1 x.repeatsLeft ++ byte1 x.step ++ flag1 suspended
  | none => absent 7

/-- A channel: playing record, four queue places, output, open indication, idle (R173; log 18). -/
def Sounder.channelRecord (q : Sounder) (ch : Channel) : List Byte :=
  let c := q.channel ch
  playingRecord c.playing (q.suspended ch) ++ (c.queue.map SoundRequest.record).flatten ++
    absent (3 * (Config.soundPlaces - c.queue.length)) ++ flag1 c.output ++ flag1 c.isOpen ++ flag1 (q.idle ch)

/-- The direct horn: condition, and press time (R173; log 19) in 4 bytes (DESIGN CHOICE, log 43). -/
def directRecord (d : Option DirectHorn) : List Byte :=
  match d with
  | none => byte1 0 ++ absent 4
  | some x => byte1 (if x.held then 1 else 2) ++ word4 (Config.pressTimeReading x.pressTime)

/-- The speed knowledge: v known, v, v_min (R80, R208); absent while unknown (log 15). -/
def speedRecord (x : Option Speed) : List Byte :=
  match x with
  | some y => flag1 true ++ nat2 y.v ++ nat2 y.vMin
  | none => flag1 false ++ absent 4

/-- The door summary view: FRESH, all closed, all locked (R158; log 17). -/
def doorViewRecord (v : Option DoorView) : List Byte :=
  match v with
  | some y => flag1 true ++ flag1 y.closed ++ flag1 y.locked
  | none => flag1 false ++ absent 2

/-- The operating mode with the time left in the check, absent outside STARTING (R193, R208; log 15). -/
def Control.modeRecord (c : Control) : List Byte :=
  byte1 c.mode.code ++ optional2 (if c.mode = .starting then some c.checkLeft else none)

/-- A slip factor with its clean count (R80). -/
def UnitSlip.record (x : UnitSlip) : List Byte := byte1 x.factor ++ byte1 x.clean

/-- The number that a binding of NONE is carried as (R208). -/
def bindingNumber (b : Option Nat) : Nat := b.getD 255

/-- The value of an item as READ_ITEM returns it (R176, R207). -/
def State.itemValue (s : State) : Item → List Byte
  | .slot i => (s.sgt.slot i).record
  | .lastStale => singleOption s.sgt.lastStale
  | .port p c => singleHalf ((s.port p).counters.read c)
  | .deskState => byte1 s.dci.state.code ++ byte1 s.dci.badRun ++ byte1 s.dci.goodRun
  | .inputImage => word4 s.dci.image ++ int2 s.dci.handle
  | .deliveredView => word4 s.dci.view.image ++ int2 s.dci.view.handle
  | .lampImage => word4 s.dci.lamps
  | .deskBadScans => singleHalf s.dci.badScans
  | .traction t => single (s.tdu.items.read t)
  | .speed => speedRecord s.tdu.speed
  | .odometer => word4 s.tdu.odometer
  | .eCmd => int4 s.tdu.eCmd
  | .heldDirection => single s.tdu.held.code
  | .unitSlip u => (s.tdu.slips.getD u {}).record
  | .vigilance => single s.tdu.vigil
  | .indications => flag1 s.tdu.overspeed ++ flag1 s.tdu.unitsDegraded ++ flag1 s.tdu.tractionCut
  | .curveBanks => flag1 s.tdu.curveActive.valid ++ flag1 s.tdu.curveShadow.valid
  | .allocationBanks => flag1 s.tdu.allocActive.valid ++ flag1 s.tdu.allocShadow.valid
  | .route r => single (s.rtu.items.read r)
  | .requestSeq => single s.rtu.seq.toNat
  | .routeNumber => single s.rtu.routeNumber
  | .track t => single (s.tlk.read t)
  | .transceiver => single s.tlk.state.code
  | .linkCondition => single s.tlk.condition.code
  | .failureRun => single s.tlk.run
  | .slotOccupied => singleFlag s.tlk.slot.isSome
  | .doorState => single s.sru.door.code
  | .releasedSides => single s.sru.sides.code
  | .stopImage => word4 s.sru.image
  | .armedFlags => word4 s.sru.armed
  | .doorView => doorViewRecord s.sru.view
  | .doorsMark => singleFlag s.sru.mark
  | .doorCommandId => singleHalf s.sru.doorCommandId
  | .stopDisplayId => singleHalf s.sru.stopDisplayId
  | .binding b => single (bindingNumber (s.sgt.bound b))
  | .pattern p => single (s.ssq.items.read p)
  | .channel c => s.ssq.channelRecord c
  | .directHorn => directRecord s.ssq.direct
  | .notifyEnable c => singleFlag (s.efn.channel c).enable
  | .notifyDest c => single (s.efn.channel c).dest
  | .notifyMap => single (match s.efn.map with | .block => 0 | .interleave => 1)
  | .operatingMode => s.mcr.modeRecord
  | .nodeAddress => singleOption (s.mcr.address.map BitVec.toNat)

/-! ### Write classes (section 10.2) -/

/-- The write classes. -/
inductive WriteClass where
  | heldConfiguration | notification | clearOnWrite | readOnly
  deriving DecidableEq, Repr

/-- Write class of an item. -/
def Item.writeClass : Item → WriteClass
  | .traction _ => .heldConfiguration
  | .route _ => .heldConfiguration
  | .binding _ => .heldConfiguration
  | .doorCommandId => .heldConfiguration
  | .stopDisplayId => .heldConfiguration
  | .pattern _ => .heldConfiguration
  | .notifyEnable _ => .notification
  | .notifyDest _ => .notification
  | .notifyMap => .notification
  | .port _ _ => .clearOnWrite
  | .deskBadScans => .clearOnWrite
  | .track _ => .clearOnWrite
  | .slot _ => .readOnly
  | .lastStale => .readOnly
  | .deskState => .readOnly
  | .inputImage => .readOnly
  | .deliveredView => .readOnly
  | .lampImage => .readOnly
  | .speed => .readOnly
  | .odometer => .readOnly
  | .eCmd => .readOnly
  | .heldDirection => .readOnly
  | .unitSlip _ => .readOnly
  | .vigilance => .readOnly
  | .indications => .readOnly
  | .curveBanks => .readOnly
  | .allocationBanks => .readOnly
  | .requestSeq => .readOnly
  | .routeNumber => .readOnly
  | .transceiver => .readOnly
  | .linkCondition => .readOnly
  | .failureRun => .readOnly
  | .slotOccupied => .readOnly
  | .doorState => .readOnly
  | .releasedSides => .readOnly
  | .stopImage => .readOnly
  | .armedFlags => .readOnly
  | .doorView => .readOnly
  | .doorsMark => .readOnly
  | .channel _ => .readOnly
  | .directHorn => .readOnly
  | .operatingMode => .readOnly
  | .nodeAddress => .readOnly

end Sys2Proof.Machine
end

