-- ==== Sys2Proof/Machine/Writes.lean ====
section
/-! DEFINITION. READ_ITEM and WRITE_ITEM (R176 to R178). -/

namespace Sys2Proof.Machine

/-! ### Clear on write (R177) -/

/-- A counter of a port set to 0. -/
def PortCounters.clear (c : PortCounters) : PortCounter → PortCounters
  | .forwarded => { c with forwarded := 0 }
  | .checkFail => { c with checkFail := 0 }
  | .rxOverrun => { c with rxOverrun := 0 }
  | .loop => { c with loop := 0 }
  | .fwdDrop => { c with fwdDrop := 0 }
  | .ownDrop => { c with ownDrop := 0 }
  | .linkDiscard => { c with linkDiscard := 0 }

/-- A track item set to 0, or the rollover flag cleared (R136, R137). -/
def TrackLink.clear (t : TrackLink) : TrackItem → TrackLink
  | .rxGood => { t with rxGood := 0 }
  | .rxBad => { t with rxBad := 0 }
  | .collide => { t with collide := 0 }
  | .txSent => { t with txSent := 0 }
  | .retry => { t with retry := 0 }
  | .rollover => { t with rollover := false }

/-- A clear-on-write item cleared; other items are left (R177). -/
def State.clearItem (s : State) : Item → State
  | .port p c => s.withPort p { s.port p with counters := (s.port p).counters.clear c }
  | .deskBadScans => s.withDci { s.dci with badScans := 0 }
  | .track t => s.withTlk (s.tlk.clear t)
  | _ => s

/-! ### Values brought into range (R178) -/

/-- A value brought into a range (R178). -/
def clampTo (lo hi v : Int) : Int := max lo (min hi v)

/-- A value truncated down to a multiple of 20 (R76, R100). -/
def truncate20 (v : Int) : Int := v - v % 20

/-- Range of a traction item; each vigilance item's range depends on the other (R76). -/
def TractionItems.range (i : TractionItems) : TractionItem → Int × Int
  | .deadBand => (0, 100)
  | .emergBrake => (0, 1000)
  | .holdBrake => (0, 1000)
  | .enforceBrake => (0, 1000)
  | .overspeedBand => (0, 100)
  | .jerk => (100, 5000)
  | .vigilWarn => (1000, i.vigilLimit - 500)
  | .vigilLimit => (i.vigilWarn + 500, 15000)
  | .slipThreshold => (1, 200)
  | .setpointId => (0, 65535)

/-- The value a written traction item takes (R76). -/
def TractionItems.fit (i : TractionItems) (t : TractionItem) (v : Int) : Int :=
  let w := match t with | .vigilWarn => truncate20 v | .vigilLimit => truncate20 v | _ => v
  clampTo (i.range t).1 (i.range t).2 w

/-- A traction item set. -/
def TractionItems.write (i : TractionItems) (n : Nat) : TractionItem → TractionItems
  | .deadBand => { i with deadBand := n }
  | .emergBrake => { i with emergBrake := n }
  | .holdBrake => { i with holdBrake := n }
  | .enforceBrake => { i with enforceBrake := n }
  | .overspeedBand => { i with overspeedBand := n }
  | .jerk => { i with jerk := n }
  | .vigilWarn => { i with vigilWarn := n }
  | .vigilLimit => { i with vigilLimit := n }
  | .slipThreshold => { i with slipThreshold := n }
  | .setpointId => { i with setpointId := BitVec.ofNat 16 n }

/-- The value a written route item takes: 0 is PASS and any other policy is MANUAL (R100; log 23). -/
def RouteItem.fit (r : RouteItem) (v : Int) : Int :=
  match r with
  | .tramNumber => clampTo 0 65535 v
  | .confirmTimeout => clampTo 100 1000 (truncate20 v)
  | .shortRetries => clampTo 0 3 v
  | .defaultCap => clampTo 0 1500 v
  | .proceedCap => clampTo 0 1500 v
  | .defaultClearance => clampTo 0 255 v
  | .noMatch => if v = 0 then 0 else 1

/-- A route item set. -/
def RouteItems.write (i : RouteItems) (n : Nat) : RouteItem → RouteItems
  | .tramNumber => { i with tramNumber := BitVec.ofNat 16 n }
  | .confirmTimeout => { i with confirmTimeout := n }
  | .shortRetries => { i with shortRetries := n }
  | .defaultCap => { i with defaultCap := n }
  | .proceedCap => { i with proceedCap := n }
  | .defaultClearance => { i with defaultClearance := n }
  | .noMatch => { i with noMatch := if n = 0 then .pass else .manual }

/-- The value a written binding takes: 255 is NONE, a negative value is 0, any other above 127 is 127
(R32, R208). -/
def fitBinding (v : Int) : Int := if v = 255 then 255 else clampTo 0 127 v

/-- A binding's slot from the number it is carried as. -/
def bindingSlot (n : Nat) : Option Nat := if n = 255 then none else some n

/-- A binding set. -/
def SignalTable.bind (t : SignalTable) (slot : Option Nat) : Binding → SignalTable
  | .brake => { t with brakeSlot := slot }
  | .door => { t with doorSlot := slot }
  | .stop => { t with stopSlot := slot }

/-- A pattern item set. -/
def PatternItems.write (i : PatternItems) (n : Nat) : PatternItem → PatternItems
  | .stop => { i with stopPat := n }
  | .assist => { i with assistPat := n }
  | .doorClosing => { i with doorClosingPat := n }
  | .vigil => { i with vigilPat := n }
  | .driverBell => { i with driverBellPat := n }
  | .emergHorn => { i with emergHornPat := n }

/-- The value that a written item stores (R178). Items that are not settable store what they are asked. -/
def State.fitItem (s : State) (i : Item) (v : Int) : Int :=
  match i with
  | .traction t => s.tdu.items.fit t v
  | .route r => r.fit v
  | .binding _ => fitBinding v
  | .doorCommandId => clampTo 0 65535 v
  | .stopDisplayId => clampTo 0 65535 v
  | .pattern _ => clampTo 0 15 v
  | .notifyEnable _ => if v = 0 then 0 else 1
  | .notifyDest _ => clampTo 0 63 v
  | .notifyMap => if v = 1 then 1 else 0
  | _ => v

/-- The status that answers a written value `v` stored as `w`: DONE_CLAMPED when they differ (R178), never
for NOTIFY_ENABLE (R178), and for NO_MATCH_POLICY on every value other than PASS (R100; log 23). -/
def Item.writeStatus (i : Item) (v w : Int) : Status :=
  match i with
  | .notifyEnable _ => .done
  | .route .noMatch => if v = 0 then .done else .doneClamped
  | _ => if w = v then .done else .doneClamped

/-! ### Settings stored (R177) -/

/-- A notify channel replaced. -/
def Notifier.withChannel (e : Notifier) (c : Nat) (x : NotifyChannel) : Notifier :=
  { e with channels := e.channels.set c x }

/-- A binding written: a change of the door or stop binding delivers the new slot's event at once
(R32). Bytes that a short value lacks are read with free values of their own (log 7). DESIGN CHOICE: the event
acts in the use that was written, also where the slot is bound to the stop request unit's other use (log 58). -/
def State.writeBinding (s : State) (b : Binding) (slot : Option Nat) : State :=
  let s1 := (s.withSgt (s.sgt.bind slot b)).bumpFree
  if s.sgt.bound b = slot then s1
  else
    match b with
    | .brake => s1
    | .door => s1.doorSlotEvent slot
    | .stop => s1.stopSlotEvent slot

/-- NOTIFY_ENABLE written: going on while the channel is raised queues a NOTIFY (R191). -/
def State.writeNotifyEnable (s : State) (c : Nat) (on : Bool) : State :=
  let old := s.efn.channel c
  let s1 := s.withEfn (s.efn.withChannel c { old with enable := on })
  if !old.enable && s1.efn.raised c && s1.mayNotify c then s1.sendNotify c else s1

/-- NOTIFY_MAP written: all four channels are judged under the new map (R190). -/
def State.writeNotifyMap (s : State) (map : MapMode) : State :=
  State.judgeChannels (s.withEfn { s.efn with map := map }) s.efn

/-- An item set to the number it stores (R177); items that are not settable are left. -/
def State.setItem (s : State) (i : Item) (n : Nat) : State :=
  match i with
  | .traction t => s.withTdu { s.tdu with items := s.tdu.items.write n t }
  | .route r => s.withRtu { s.rtu with items := s.rtu.items.write n r }
  | .binding b => s.writeBinding b (bindingSlot n)
  | .doorCommandId => s.withSru { s.sru with doorCommandId := BitVec.ofNat 16 n }
  | .stopDisplayId => s.withSru { s.sru with stopDisplayId := BitVec.ofNat 16 n }
  | .pattern p => s.withSsq { s.ssq with items := s.ssq.items.write n p }
  | .notifyEnable c => s.writeNotifyEnable c (n != 0)
  | .notifyDest c => s.withEfn (s.efn.withChannel c { s.efn.channel c with dest := n })
  | .notifyMap => s.writeNotifyMap (if n = 1 then .interleave else .block)
  | _ => s

/-- A settable item written: the fitted value stored, and the answer that carries it (R178). A pattern
item takes a negative value as 0 with DONE_CLAMPED (R178 against R161; log 41). -/
def State.storeItem (s : State) (i : Item) (v : Int) : State × Answer :=
  let w := s.fitItem i v
  (s.setItem i w.toNat, ⟨i.writeStatus v w, int4 w⟩)

/-! ### The requests -/

/-- READ_ITEM (R176). -/
def actReadItem (r : Request) (s : State) : State × Answer :=
  match Item.ofNumber (r.half 0).toNat with
  | some i => (s, ⟨.done, s.itemValue i⟩)
  | none => (s, ⟨.badItem, []⟩)

/-- A write decided by the item's class, in the order of R177. -/
def State.writeItem (s : State) (i : Item) (v : Int) : State × Answer :=
  match i.writeClass with
  | .readOnly => (s, ⟨.badItem, []⟩)
  | .heldConfiguration => if s.mcr.mode.held then s.storeItem i v else (s, ⟨.refusedMode, []⟩)
  | .notification => s.storeItem i v
  | .clearOnWrite => (s.clearItem i, ⟨.done, int4 0⟩)

/-- WRITE_ITEM (R177). -/
def actWriteItem (r : Request) (s : State) : State × Answer :=
  match Item.ofNumber (r.half 0).toNat with
  | some i => s.writeItem i (r.int 2)
  | none => (s, ⟨.badItem, []⟩)

end Sys2Proof.Machine
end

