-- ==== Sys2Proof/Machine/Tables.lean ====
section
/-! DEFINITION. The six tables: LOAD_ENTRY, READ_ENTRY, COMMIT and the load check sum (R179 to R183). -/

namespace Sys2Proof.Machine

/-! ### Codes of entry fields (R204, R206) -/

/-- Roles of a bank (R206). -/
inductive Bank where
  | active | shadow
  deriving DecidableEq, Repr

/-- The bank a byte names, if it names one (R206). -/
def Bank.ofCode (b : Byte) : Option Bank :=
  match b.toNat with
  | 0 => some .active
  | 1 => some .shadow
  | _ => none

/-- A yes-or-no byte; 2 and more are out of range (R204). -/
def flagOf (b : Byte) : Option Bool :=
  match b.toNat with
  | 0 => some false
  | 1 => some true
  | _ => none

/-- A number within a range. -/
def within (lo hi n : Nat) : Option Nat := if lo ≤ n ∧ n ≤ hi then some n else none

/-- A slot field: FFh is NONE, 128 to 254 are out of range (R206). -/
def slotOf (b : Byte) : Option (Option Nat) :=
  if b = 0xFF then some none else if b.toNat < Config.slotCount then some (some b.toNat) else none

/-- Code of a window action (R206). -/
def WindowAction.code : WindowAction → Nat
  | .consume => 0
  | .ignore => 1

/-- The action a byte names, if it names one (R206). -/
def WindowAction.ofCode (b : Byte) : Option WindowAction :=
  match b.toNat with
  | 0 => some .consume
  | 1 => some .ignore
  | _ => none

/-- Code of a limb (R206). -/
def Limb.code : Limb → Nat
  | .power => 0
  | .brake => 1

/-- The limb a byte names, if it names one (R206). -/
def Limb.ofCode (b : Byte) : Option Limb :=
  match b.toNat with
  | 0 => some .power
  | 1 => some .brake
  | _ => none

/-- A route entry's direction: L, S, R or NONE (R206). -/
def entryDirection (b : Byte) : Option (Option PointDir) :=
  if b = 3 then some none else (PointDir.ofCode b).map some

/-- Code of a direction that may be NONE, 3 for NONE (R206; in the junction record, log 16). -/
def directionCode (d : Option PointDir) : Nat :=
  match d with
  | some x => x.code
  | none => 3

/-- Code of a stop source kind (R206). -/
def StopKind.code : StopKind → Nat
  | .normal => 0
  | .assist => 1

/-- The kind a byte names, if it names one (R206). -/
def StopKind.ofCode (b : Byte) : Option StopKind :=
  match b.toNat with
  | 0 => some .normal
  | 1 => some .assist
  | _ => none

/-! ### Entries read from bytes, every field within its range (R206) -/

/-- A window from its 8 bytes (R20). -/
def readWindow (bs : List Byte) : Option Window :=
  match bs with
  | [en, b1, b0, m1, m0, act, base, limit] => do
    let enabled ← flagOf en
    let action ← WindowAction.ofCode act
    let slotBase ← within 0 127 base.toNat
    let lim ← within 1 255 limit.toNat
    return ⟨enabled, be2 b1 b0, be2 m1 m0, action, slotBase, lim⟩
  | _ => none

/-- A breakpoint from its 4 bytes (R59). -/
def readBreakpoint (bs : List Byte) : Option Breakpoint :=
  match bs with
  | [s1, s0, e1, e0] => do
    let speed ← within 0 1500 (be2 s1 s0).toNat
    let effort ← within 0 1000 (be2 e1 e0).toNat
    return ⟨speed, effort⟩
  | _ => none

/-- A unit entry from its 6 bytes (R68). -/
def readUnit (bs : List Byte) : Option UnitEntry :=
  match bs with
  | [p, w, l1, l0, ax, st] => do
    let present ← flagOf p
    let weight ← within 0 15 w.toNat
    let limit ← within 0 1000 (be2 l1 l0).toNat
    let axle ← slotOf ax
    let status ← slotOf st
    return ⟨present, weight, limit, axle, status⟩
  | _ => none

/-- A route entry from its 14 bytes (R96). -/
def readRoute (bs : List Byte) : Option RouteEntry :=
  match bs with
  | [v, b1, b0, m1, m0, r1, r0, d, c1, c0, confirm, clearance, bell, pat] => do
    let valid ← flagOf v
    let routeMatch ← within 0 999 (be2 r1 r0).toNat
    let dir ← entryDirection d
    let cap ← within 0 1500 (be2 c1 c0).toNat
    let autoBell ← flagOf bell
    let pattern ← within 0 15 pat.toNat
    return ⟨valid, be2 b1 b0, be2 m1 m0, routeMatch, dir, cap, confirm.toNat, clearance.toNat, autoBell, pattern⟩
  | _ => none

/-- A stop source entry from its 2 bytes (R140). -/
def readSource (bs : List Byte) : Option StopSource :=
  match bs with
  | [en, k] => do
    let enabled ← flagOf en
    let kind ← StopKind.ofCode k
    return ⟨enabled, kind⟩
  | _ => none

/-- A pattern entry from its 7 bytes; a loaded pattern is valid (R159, R160). -/
def readPattern (bs : List Byte) : Option Pattern :=
  match bs with
  | [w1, w0, r1, v1, v0, r2, t] => do
    let repeats1 ← within 1 15 r1.toNat
    let repeats2 ← within 0 15 r2.toNat
    let stepTime ← within 1 4 t.toNat
    return ⟨true, be2 w1 w0, repeats1, be2 v1 v0, repeats2, stepTime⟩
  | _ => none

/-! ### Entries written as bytes (R206, R207) -/

/-- A slot field (R206). -/
def slotByte (o : Option Nat) : List Byte := optional1 o

/-- A window's 8 bytes. -/
def Window.bytes (w : Window) : List Byte :=
  flag1 w.enabled ++ half2 w.idBase ++ half2 w.idMask ++ byte1 w.action.code ++ byte1 w.slotBase ++ byte1 w.limit

/-- A breakpoint's 4 bytes. -/
def Breakpoint.bytes (b : Breakpoint) : List Byte := nat2 b.speed ++ nat2 b.effort

/-- A unit entry's 6 bytes. -/
def UnitEntry.bytes (u : UnitEntry) : List Byte :=
  flag1 u.present ++ byte1 u.weight ++ nat2 u.limit ++ slotByte u.axle ++ slotByte u.status

/-- A route entry's 14 bytes. -/
def RouteEntry.bytes (e : RouteEntry) : List Byte :=
  flag1 e.valid ++ half2 e.idBase ++ half2 e.idMask ++ nat2 e.routeMatch ++ byte1 (directionCode e.dir) ++ nat2 e.cap ++
    byte1 e.confirm ++ byte1 e.clearance ++ flag1 e.autoBell ++ byte1 e.pattern

/-- A stop source entry's 2 bytes. -/
def StopSource.bytes (e : StopSource) : List Byte := flag1 e.enabled ++ byte1 e.kind.code

/-- A pattern entry's 7 bytes. -/
def Pattern.bytes (p : Pattern) : List Byte :=
  half2 p.word1 ++ byte1 p.repeats1 ++ half2 p.word2 ++ byte1 p.repeats2 ++ byte1 p.stepTime

/-! ### Indices (R206) -/

/-- The number of entries under a one-byte index. -/
def TableName.size : TableName → Nat
  | .window => 16
  | .curve => 8
  | .allocation => 4
  | .route => 48
  | .stopSource => 32
  | .pattern => 16

/-- An index within its table: the limb of a curve entry, and the entry's number (R206). -/
structure Index where
  limb : Limb
  number : Nat
  deriving DecidableEq, Repr

/-- The index that index bytes name, if it is in range (R182, R206). -/
def readIndex (t : TableName) (bs : List Byte) : Option Index :=
  match t, bs with
  | .curve, [l, b] => do
    let limb ← Limb.ofCode l
    let number ← within 0 7 b.toNat
    return ⟨limb, number⟩
  | .curve, _ => none
  | _, [b] => if b.toNat < t.size then some ⟨.power, b.toNat⟩ else none
  | _, _ => none

/-! ### Loads (R179, R180) -/

/-- An entry of one of the tables. -/
inductive LoadedEntry where
  | window (w : Window) | breakpoint (b : Breakpoint) | unit (u : UnitEntry) | route (e : RouteEntry)
  | source (e : StopSource) | pattern (p : Pattern)
  deriving DecidableEq, Repr

/-- The entry that entry bytes name, if every field is in range (R179). -/
def readLoaded (t : TableName) (bs : List Byte) : Option LoadedEntry :=
  match t with
  | .window => (readWindow bs).map .window
  | .curve => (readBreakpoint bs).map .breakpoint
  | .allocation => (readUnit bs).map .unit
  | .route => (readRoute bs).map .route
  | .stopSource => (readSource bs).map .source
  | .pattern => (readPattern bs).map .pattern

/-- A table has two banks (section 10.3). -/
def TableName.banked : TableName → Bool
  | .curve => true
  | .allocation => true
  | .route => true
  | .window => false
  | .stopSource => false
  | .pattern => false

/-- A breakpoint of a curve replaced. -/
def Curve.withBreakpoint (c : Curve) (i : Index) (b : Breakpoint) : Curve :=
  match i.limb with
  | .power => { c with power := c.power.set i.number b }
  | .brake => { c with brake := c.brake.set i.number b }

/-- A stop source entry replaced; one that becomes enabled registers its source if its input is
active (R140, R145). -/
def State.loadSource (s : State) (n : Nat) (e : StopSource) : State :=
  let was := (s.sru.sources.getD n {}).enabled
  let s1 := s.withSru { s.sru with sources := s.sru.sources.set n e }
  if !was && e.enabled then s1.sourceEnabled n else s1

/-- An entry replaced whole: in the SHADOW bank of a banked table (R179). -/
def State.replaceEntry (s : State) (i : Index) (e : LoadedEntry) : State :=
  match e with
  | .window w => s.withFcl { s.fcl with windows := s.fcl.windows.set i.number w }
  | .breakpoint b => s.withTdu { s.tdu with curveShadow := s.tdu.curveShadow.withBreakpoint i b }
  | .unit u =>
    s.withTdu { s.tdu with allocShadow := { s.tdu.allocShadow with units := s.tdu.allocShadow.units.set i.number u } }
  | .route r => s.withRtu { s.rtu with shadow := s.rtu.shadow.set i.number r }
  | .source r => s.loadSource i.number r
  | .pattern p => s.withSsq { s.ssq with patterns := s.ssq.patterns.set i.number p }

/-- A pattern is playing on a channel, suspended or not (R160). -/
def Sounder.isPlaying (q : Sounder) (n : Nat) : Bool :=
  [Channel.horn, .bell, .chime].any fun ch => (q.channel ch).playing.any (·.request.pattern == n)

/-- The load check sum with bytes added (R181). -/
def State.addLoadSum (s : State) (bs : List Byte) : State :=
  s.withMcr { s.mcr with loadSum := s.mcr.loadSum + sum32 bs }

/-- A load whose table, mode, index and fields are in order, from the fourth case of R179 on. -/
def State.loadInRange (s : State) (t : TableName) (bank : Bank) (i : Index) (e : LoadedEntry) (bytes : List Byte) :
    State × Status :=
  if t.banked = true ∧ bank = .active then (s.setFlag .liveWrite, .liveBank)
  else if t = .pattern ∧ s.ssq.isPlaying i.number = true then (s.setFlag .liveWrite, .livePattern)
  else ((s.replaceEntry i e).addLoadSum bytes, .done)

/-- The bank that a load or read names: of a banked table a bank or nothing, of another table
disregarded (R179, R206). -/
def readBank (t : TableName) (b : Byte) : Option Bank := if t.banked then Bank.ofCode b else some .shadow

/-- A load of a known table from its bank byte and its index and entry bytes (R179). -/
def State.load (s : State) (t : TableName) (bank : Byte) (bytes : List Byte) : State × Status :=
  if t = .window ∧ s.mcr.mode.held = false then (s, .refusedMode)
  else
    match readBank t bank, readIndex t (bytes.take t.indexBytes), readLoaded t (bytes.drop t.indexBytes) with
    | some b, some i, some e => s.loadInRange t b i e bytes
    | _, _, _ => (s, .refusedRange)

/-- LOAD_ENTRY (R179). -/
def actLoadEntry (r : Request) (s : State) : State × Answer :=
  match TableName.ofCode (r.byte 0) with
  | none => (s, ⟨.badItem, []⟩)
  | some t =>
    let (s1, st) := s.load t (r.byte 1) (r.payload.drop 2)
    (s1, ⟨st, []⟩)

/-! ### Reads (R182) -/

/-- A bank of the traction curve by its role. -/
def Traction.curve (t : Traction) : Bank → Curve
  | .active => t.curveActive
  | .shadow => t.curveShadow

/-- A bank of the allocation table by its role. -/
def Traction.alloc (t : Traction) : Bank → Allocation
  | .active => t.allocActive
  | .shadow => t.allocShadow

/-- A bank of the route table by its role. -/
def RouteUnit.table (r : RouteUnit) : Bank → List RouteEntry
  | .active => r.active
  | .shadow => r.shadow

/-- A limb of a curve. -/
def Curve.limb (c : Curve) : Limb → List Breakpoint
  | .power => c.power
  | .brake => c.brake

/-- An entry's bytes with the valid flag that some tables answer (R182, R207). -/
def State.entryBytes (s : State) (t : TableName) (bank : Bank) (i : Index) : List Byte :=
  match t with
  | .window => (s.fcl.windows.getD i.number {}).bytes
  | .curve => (((s.tdu.curve bank).limb i.limb).getD i.number {}).bytes ++ flag1 (s.tdu.curve bank).valid
  | .allocation => ((s.tdu.alloc bank).units.getD i.number {}).bytes ++ flag1 (s.tdu.alloc bank).valid
  | .route => ((s.rtu.table bank).getD i.number {}).bytes
  | .stopSource => (s.sru.sources.getD i.number {}).bytes
  | .pattern => (s.ssq.pattern i.number).bytes ++ flag1 (s.ssq.pattern i.number).valid

/-- READ_ENTRY (R182): the answer repeats the index bytes (R207). -/
def actReadEntry (r : Request) (s : State) : State × Answer :=
  match TableName.ofCode (r.byte 0) with
  | none => (s, ⟨.badItem, []⟩)
  | some t =>
    match readBank t (r.byte 1), readIndex t (r.payload.drop 2) with
    | some b, some i => (s, ⟨.done, r.payload.drop 2 ++ s.entryBytes t b i⟩)
    | _, _ => (s, ⟨.refusedRange, []⟩)

/-! ### Commits (R59, R68, R98, R183) -/

/-- Step 1 of a traction commit: CONFIGURE, HOLD, or SERVICE at standstill (R59). -/
def State.mayCommitTraction (s : State) : Bool := s.mcr.mode.held || (decide (s.mcr.mode = .service) && s.standstill)

/-- Speeds strictly ascend (R59). -/
def ascending : List Breakpoint → Bool
  | a :: b :: rest => decide (a.speed < b.speed) && ascending (b :: rest)
  | _ => true

/-- Step 2 of a curve commit (R59). -/
def Curve.ready (c : Curve) : Bool := ascending c.power && ascending c.brake

/-- Step 2 of an allocation commit: a present entry with weight above 0 (R68). -/
def Allocation.ready (a : Allocation) : Bool := a.units.any fun u => u.present && decide (0 < u.weight)

/-- COMMIT of the traction curve (R59). -/
def State.commitCurve (s : State) : State × Status :=
  if !s.mayCommitTraction then (s, .refusedBusy)
  else if !s.tdu.curveShadow.ready then (s, .refusedInvalid)
  else
    let c := { s.tdu.curveShadow with valid := true }
    (s.withTdu { s.tdu with curveActive := c, curveShadow := c }, .done)

/-- COMMIT of the allocation table (R68). -/
def State.commitAllocation (s : State) : State × Status :=
  if !s.mayCommitTraction then (s, .refusedBusy)
  else if !s.tdu.allocShadow.ready then (s, .refusedInvalid)
  else
    let a := { s.tdu.allocShadow with valid := true }
    (s.withTdu { s.tdu with allocActive := a, allocShadow := a }, .done)

/-- COMMIT of the route table (R98). -/
def State.commitRoute (s : State) : State × Status :=
  if s.rtu.queue.isEmpty then (s.withRtu { s.rtu with active := s.rtu.shadow }, .done) else (s, .refusedBusy)

/-- A commit by table; the tables with one bank have none (R183). -/
def State.commitTable (s : State) (t : Option TableName) : State × Status :=
  match t with
  | some .curve => s.commitCurve
  | some .allocation => s.commitAllocation
  | some .route => s.commitRoute
  | some .window => (s, .badItem)
  | some .stopSource => (s, .badItem)
  | some .pattern => (s, .badItem)
  | none => (s, .badItem)

/-- COMMIT (R183). -/
def actCommit (r : Request) (s : State) : State × Answer :=
  let (s1, st) := s.commitTable (TableName.ofCode (r.byte 0))
  (s1, ⟨st, []⟩)

/-- READ_LOAD_SUM: the sum answered and set to 0 (R181). -/
def actReadLoadSum (_r : Request) (s : State) : State × Answer :=
  (s.withMcr { s.mcr with loadSum := 0 }, ⟨.done, word4 s.mcr.loadSum⟩)

end Sys2Proof.Machine
end

