-- ==== Sys2Proof/Machine/Collections.lean ====
section
/-! DEFINITION. Event flag requests (R188, R189), collection reads (R184) and READ_STEP (R185), with
their layouts (R207). -/

namespace Sys2Proof.Machine

/-! ### Event flags (R188, R189) -/

/-- The 16 bits of a group of a 64-bit set (R186). -/
def groupOf (x : BitVec 64) (g : Nat) : Half := x.extractLsb' (16 * g) 16

/-- A 16-bit set placed at a group (R186). -/
def atGroup (h : Half) (g : Nat) : BitVec 64 := h.setWidth 64 <<< (16 * g)

/-- The bits of a group (R186). -/
def groupMask (g : Nat) : BitVec 64 := atGroup 0xFFFF g

/-- READ_FLAGS: a group's flags and enables answered, its flags cleared (R188). -/
def actReadFlags (r : Request) (s : State) : State × Answer :=
  let g := (r.byte 0).toNat
  if 3 < g then (s, ⟨.refusedRange, []⟩)
  else
    (s.withEfn { s.efn with flags := s.efn.flags &&& ~~~ groupMask g },
      ⟨.done, half2 (groupOf s.efn.flags g) ++ half2 (groupOf s.efn.enables g)⟩)

/-- SET_ENABLES: a group's enables replaced, the channels judged (R189, R190). -/
def actSetEnables (r : Request) (s : State) : State × Answer :=
  let g := (r.byte 0).toNat
  if 3 < g then (s, ⟨.refusedRange, []⟩)
  else
    let enables := s.efn.enables &&& ~~~ groupMask g ||| atGroup (r.half 1) g
    (State.judgeChannels (s.withEfn { s.efn with enables := enables }) s.efn, ⟨.done, []⟩)

/-! ### Collections (R184) -/

/-- Code of a restriction source (R81). -/
def Source.code : Source → Nat
  | .doors => 0
  | .junction => 1
  | .route => 2
  | .speedLost => 3
  | .unitsLost => 4
  | .brake => 5
  | .vigil => 6
  | .handle => 7
  | .desk => 8
  | .mode => 9

/-- Kind, cap value; a cap value is present for CAP alone (R81). -/
def Restraint.kindBytes : Restraint → List Byte
  | .cap v => byte1 0 ++ nat2 v
  | .hold => byte1 1 ++ absent 2
  | .emergency _ => byte1 2 ++ absent 2

/-- Lift requested, present for EMERGENCY alone (R81). -/
def Restraint.liftBytes : Restraint → List Byte
  | .emergency lift => flag1 lift
  | _ => absent 1

/-- A restriction's record (R91, R207). -/
def Restriction.record (e : Restriction) : List Byte :=
  byte1 e.source.code ++ half2 e.key ++ e.kind.kindBytes ++ word4 e.raisedAt ++ e.kind.liftBytes

/-- Code of a transaction's source (R102). -/
def TxSource.code : TxSource → Nat
  | .table => 0
  | .manual => 1

/-- Code of a transaction's state (R102). -/
def TxState.code : TxState → Nat
  | .announced => 0
  | .requesting => 1
  | .confirmed => 2
  | .unconfirmed => 3
  | .proceed => 4
  | .awaitDriver => 5
  | .notRequired => 6

/-- A transaction's record (R126, R207). -/
def Transaction.record (t : Transaction) : List Byte :=
  half2 t.junction ++ optional1 t.entry ++ byte1 (directionCode t.dir) ++ byte1 t.source.code ++ byte1 t.state.code ++
    byte1 t.attempts ++ optional2 (t.lastSeq.map BitVec.toNat) ++ int4 t.remaining ++ byte1 t.confirm ++
    byte1 t.clearance ++ nat2 t.cap

/-- The attempt timer's condition, 0 stopped, 1 running, 2 frozen, with its remaining time, absent
when it is stopped (R111, R126, R207; log 15). -/
def timerBytes (mode : Mode) (attempt : Option Nat) : List Byte :=
  match attempt with
  | none => byte1 0 ++ absent 2
  | some left => byte1 (if mode.driving then 1 else 2) ++ nat2 left

/-- A stop request's record (R158, R207). -/
def StopEntry.record (e : StopEntry) : List Byte := byte1 e.source ++ byte1 e.kind.code ++ word4 e.registeredAt

/-- The answer of a collection read: count, start, records carried, the fixed part, whole records from
the start position on, as many as one answer carries (R184, R207). -/
def collectionAnswer (perAnswer : Nat) (fixed : List Byte) (records : List (List Byte)) (start : Nat) : Answer :=
  let carried := (records.drop start).take perAnswer
  ⟨.done, byte1 records.length ++ byte1 start ++ byte1 carried.length ++ fixed ++ carried.flatten⟩

/-- READ_RESTRICTIONS (R91, R184). -/
def actReadRestrictions (r : Request) (s : State) : State × Answer :=
  (s, collectionAnswer 2 [] (s.rsl.map Restriction.record) (r.byte 0).toNat)

/-- READ_JUNCTIONS (R126, R184). -/
def actReadJunctions (r : Request) (s : State) : State × Answer :=
  (s, collectionAnswer 1 (timerBytes s.mcr.mode s.rtu.attempt) (s.rtu.queue.map Transaction.record) (r.byte 0).toNat)

/-- READ_STOPS (R158, R184). -/
def actReadStops (r : Request) (s : State) : State × Answer :=
  (s, collectionAnswer 4 (byte1 s.sru.door.code ++ byte1 s.sru.sides.code) (s.sru.list.map StopEntry.record)
    (r.byte 0).toNat)

/-! ### The step record (R77, R185, R207) -/

/-- The flag byte of part 0 (R207). -/
def StepRecord.flags (x : StepRecord) : List Byte :=
  bits1 [x.stepped, x.speed.isSome, x.lastUsed, x.hold, x.emergency, x.overspeed, x.cut, true]

/-- The direction byte: the held direction, and the limb used in bits 4 and 5 (R207). -/
def StepRecord.directionByte (x : StepRecord) : List Byte :=
  byte1 (x.held.code + 16 * (match x.limb with | none => 0 | some (.power, _) => 1 | some (.brake, _) => 2))

/-- v and v_min, 0 while v is unknown (R207). -/
def StepRecord.speedBytes (x : StepRecord) : List Byte :=
  match x.speed with
  | some y => nat2 y.v ++ nat2 y.vMin
  | none => nat2 0 ++ nat2 0

/-- Part 0, 31 bytes (R207); a limb value that was not used is absent (log 15). -/
def StepRecord.part0 (x : StepRecord) : List Byte :=
  word4 x.period ++ x.flags ++ x.speedBytes ++ x.directionByte ++ int2 x.handle ++ optional2 (x.limb.map (·.2)) ++
    int2 x.target1 ++ nat2 x.cap ++ int2 x.target2 ++ byte1 x.jerkStep ++ int2 x.cmdOld ++ int2 x.cmd ++
    byte1 x.weight ++ byte1 x.remainder ++ nat2 x.deficit ++ nat2 x.mech

/-- Part 1 to 4, 12 bytes: the record of one unit (R207). -/
def StepRecord.unitPart (x : StepRecord) (u : UnitRecord) : List Byte :=
  word4 x.period ++
    bits1 [x.stepped, u.available, u.slipping, false, false, false, false, true] ++ byte1 u.factor ++ nat2 u.base ++
    int2 u.allocated ++ int2 u.published

/-- The bytes of a part of a step record; all zero while the record is NONE (R77, R207). -/
def stepPart (record : Option StepRecord) (part : Nat) : List Byte :=
  match record, part with
  | none, 0 => List.replicate 31 0
  | none, _ + 1 => List.replicate 12 0
  | some x, 0 => x.part0
  | some x, u + 1 =>
    match x.units[u]? with
    | some y => x.unitPart y
    | none => List.replicate 12 0

/-- READ_STEP (R185). -/
def actReadStep (r : Request) (s : State) : State × Answer :=
  let part := (r.byte 0).toNat
  if 4 < part then (s, ⟨.refusedRange, []⟩) else (s, ⟨.done, stepPart s.tdu.record part⟩)

end Sys2Proof.Machine
end

