-- ==== Sys2Proof/Machine/Manage.lean ====
section
/-! DEFINITION. The MODE requests (chapter 11), SET_ROUTE (R101), and the meanings of the request
rows. -/

namespace Sys2Proof.Machine

/-! ### Holding and stepping (R197 to R199) -/

/-- An answer of a status alone. -/
def Answer.plain (st : Status) : Answer := ⟨st, []⟩

/-- HOLD_SOFT (R197): from SERVICE the completion condition is tested at once (R198), then standby (R200). -/
def actHoldSoft (_r : Request) (s : State) : State × Answer :=
  match s.mcr.mode with
  | .service => ((s.changeMode .holdPending).completionTest.standbyTest, .plain .done)
  | .holdPending | .hold | .step => (s, .plain .done)
  | .starting | .failed | .configure | .standby => (s, .plain .refusedMode)

/-- HOLD_HARD (R197). -/
def actHoldHard (_r : Request) (s : State) : State × Answer :=
  match s.mcr.mode with
  | .service | .holdPending => if s.standstill then (s.enterHold, .plain .done) else (s, .plain .refusedBusy)
  | .hold | .step => (s, .plain .done)
  | .starting | .failed | .configure | .standby => (s, .plain .refusedMode)

/-- RELEASE (R197): from HOLD, MODE is lifted and E_cmd is 0 (R67). -/
def actRelease (_r : Request) (s : State) : State × Answer :=
  match s.mcr.mode with
  | .holdPending => ((s.changeMode .service).standbyTest, .plain .done)
  | .hold => (State.enterService (s.withTdu { s.tdu with eCmd := 0 }), .plain .done)
  | .service => (s, .plain .done)
  | .starting | .failed | .configure | .step | .standby => (s, .plain .refusedMode)

/-- STEP_ENTER (R199). -/
def actStepEnter (_r : Request) (s : State) : State × Answer :=
  match s.mcr.mode with
  | .hold => (s.changeMode .step, .plain .done)
  | .step => (s, .plain .done)
  | .starting | .failed | .configure | .service | .holdPending | .standby => (s, .plain .refusedMode)

/-- What one STEP_ONE does: the slots advance one tick, the traction computation runs, and a reversal
is handed to the RTU after it (R31, R78; log 14). -/
def State.stepOnce (s : State) : State :=
  let (s1, h) := s.bumpFree.ageSlots.computeStep
  if h.reversal then s1.reversal else s1

/-- STEP_ONE (R78, R199). -/
def actStepOne (_r : Request) (s : State) : State × Answer :=
  if s.mcr.mode = .step then (s.stepOnce, .plain .done) else (s, .plain .refusedMode)

/-- STEP_EXIT (R199), with the standby test of a change of mode into HOLD (R200). -/
def actStepExit (_r : Request) (s : State) : State × Answer :=
  if s.mcr.mode = .step then ((s.changeMode .hold).standbyTest, .plain .done) else (s, .plain .refusedMode)

/-! ### Service, restart and route (R101, R196, R202) -/

/-- ENTER_SERVICE (R196). -/
def actEnterService (_r : Request) (s : State) : State × Answer :=
  if s.mcr.mode ≠ .configure then (s, .plain .refusedMode)
  else if s.tdu.banksValid then (s.enterService, .plain .done)
  else (s, .plain .refusedInvalid)

/-- RESTART (R202). -/
def actRestart (_r : Request) (s : State) : State × Answer :=
  match s.mcr.mode with
  | .configure | .hold | .step | .failed => (s.restartBlocks, .plain .done)
  | .service | .holdPending => if s.standstill then (s.restartBlocks, .plain .done) else (s, .plain .refusedBusy)
  | .standby => (s, .plain .refusedMode)
  | .starting => (s, .plain .starting)

/-- SET_ROUTE (R101). -/
def actSetRoute (r : Request) (s : State) : State × Answer :=
  let n := (r.half 0).toNat
  let stored := max 1 (min 999 n)
  (s.withRtu { s.rtu with routeNumber := stored }, ⟨if stored = n then .done else .doneClamped, nat2 stored⟩)

/-- UNKNOWN_REQUEST: the tests of R175 always decide it, REFUSED_INVALID last. -/
def actUnknown (_r : Request) (s : State) : State × Answer := (s, .plain .refusedInvalid)

/-! ### Meanings -/

/-- READ_ITEM (R176). -/
def execReadItem (s : State) : Host.Outcome State Fault Refusal := .next (manage .readItem actReadItem s)

/-- WRITE_ITEM (R177). -/
def execWriteItem (s : State) : Host.Outcome State Fault Refusal := .next (manage .writeItem actWriteItem s)

/-- LOAD_ENTRY (R179). -/
def execLoadEntry (s : State) : Host.Outcome State Fault Refusal := .next (manage .loadEntry actLoadEntry s)

/-- READ_ENTRY (R182). -/
def execReadEntry (s : State) : Host.Outcome State Fault Refusal := .next (manage .readEntry actReadEntry s)

/-- COMMIT (R183). -/
def execCommit (s : State) : Host.Outcome State Fault Refusal := .next (manage .commit actCommit s)

/-- READ_LOAD_SUM (R181). -/
def execReadLoadSum (s : State) : Host.Outcome State Fault Refusal := .next (manage .readLoadSum actReadLoadSum s)

/-- READ_FLAGS (R188). -/
def execReadFlags (s : State) : Host.Outcome State Fault Refusal := .next (manage .readFlags actReadFlags s)

/-- SET_ENABLES (R189). -/
def execSetEnables (s : State) : Host.Outcome State Fault Refusal := .next (manage .setEnables actSetEnables s)

/-- READ_RESTRICTIONS (R184). -/
def execReadRestrictions (s : State) : Host.Outcome State Fault Refusal :=
  .next (manage .readRestrictions actReadRestrictions s)

/-- READ_JUNCTIONS (R184). -/
def execReadJunctions (s : State) : Host.Outcome State Fault Refusal := .next (manage .readJunctions actReadJunctions s)

/-- READ_STOPS (R184). -/
def execReadStops (s : State) : Host.Outcome State Fault Refusal := .next (manage .readStops actReadStops s)

/-- READ_STEP (R185). -/
def execReadStep (s : State) : Host.Outcome State Fault Refusal := .next (manage .readStep actReadStep s)

/-- HOLD_SOFT (R197). -/
def execHoldSoft (s : State) : Host.Outcome State Fault Refusal := .next (manage .holdSoft actHoldSoft s)

/-- HOLD_HARD (R197). -/
def execHoldHard (s : State) : Host.Outcome State Fault Refusal := .next (manage .holdHard actHoldHard s)

/-- RELEASE (R197). -/
def execRelease (s : State) : Host.Outcome State Fault Refusal := .next (manage .release actRelease s)

/-- STEP_ENTER (R199). -/
def execStepEnter (s : State) : Host.Outcome State Fault Refusal := .next (manage .stepEnter actStepEnter s)

/-- STEP_ONE (R199). -/
def execStepOne (s : State) : Host.Outcome State Fault Refusal := .next (manage .stepOne actStepOne s)

/-- STEP_EXIT (R199). -/
def execStepExit (s : State) : Host.Outcome State Fault Refusal := .next (manage .stepExit actStepExit s)

/-- ENTER_SERVICE (R196). -/
def execEnterService (s : State) : Host.Outcome State Fault Refusal := .next (manage .enterService actEnterService s)

/-- RESTART (R202). -/
def execRestart (s : State) : Host.Outcome State Fault Refusal := .next (manage .restart actRestart s)

/-- SET_ROUTE (R101). -/
def execSetRoute (s : State) : Host.Outcome State Fault Refusal := .next (manage .setRoute actSetRoute s)

/-- UNKNOWN_REQUEST (R175). -/
def execUnknownRequest (s : State) : Host.Outcome State Fault Refusal := .next (manage .unknown actUnknown s)

end Sys2Proof.Machine
end

