-- ==== Sys2Proof/Machine/Ports.lean ====
section
/-! DEFINITION. The line port commands (chapter 1): activity, reception, handling, idle markers,
transmission. -/

namespace Sys2Proof.Machine

/-- The activity timer restarted by line activity (R2). -/
def LinePort.active (p : LinePort) : LinePort := { p with activityLeft := Config.activityMs }

/-- The link state moved to UP (R2). -/
def LinePort.bringUp (p : LinePort) : LinePort := { p with link := .up }

/-- An idle marker arrives: the activity timer restarts and a DOWN port goes UP (R2). -/
def LinePort.markerArrival (p : LinePort) : LinePort := p.active.bringUp

/-- The end of a frame's arrival: stored at the back of the ingress buffer, or dropped unchecked with
RX_OVERRUN counted when both places are taken (R2, R5). -/
def LinePort.storeFrame (p : LinePort) (bytes : List Byte) : LinePort :=
  if p.ingress.length < Config.ingressPlaces then { p.active with ingress := p.ingress ++ [bytes] }
  else { p.active with counters := { p.counters with rxOverrun := satInc p.counters.rxOverrun } }

/-- CHECK_FAIL counted (R7). -/
def LinePort.countCheckFail (p : LinePort) : LinePort :=
  { p with counters := { p.counters with checkFail := satInc p.counters.checkFail } }

/-- LOOP counted (R8). -/
def LinePort.countLoop (p : LinePort) : LinePort :=
  { p with counters := { p.counters with loop := satInc p.counters.loop } }

/-- A source recorded in the seen set, each address at most once (R9). -/
def LinePort.record (p : LinePort) (src : Byte) : LinePort :=
  if p.seen.contains src then p else { p with seen := p.seen ++ [src] }

/-- A frame handed over to the classifier (R11). -/
def LinePort.handOver (p : LinePort) (f : Frame) : LinePort := { p with handed := p.handed ++ [f] }

/-- The frame is consumed: it is addressed to the part or broadcast, and the part has a node address (R1, R10). -/
def consumes (own : Option Byte) (f : Frame) : Bool :=
  match own with
  | none => false
  | some a => f.dest == a || f.dest == 63

/-- The frame is forwarded: it is not addressed to the part (R1, R10). -/
def forwards (own : Option Byte) (f : Frame) : Bool :=
  match own with
  | none => true
  | some a => f.dest != a

/-- A frame presented to the other port's egress queue (R10, R12, R15). -/
def State.forwardFrom (s : State) (p : Line) (f : Frame) : State :=
  let (x, fd) := (s.port (otherPort p)).presentForward f
  (s.withPort (otherPort p) x).setDrops fd false

/-- The forwarding decision with its hand-overs (R10, R11). -/
def State.decideForwarding (s : State) (p : Line) (f : Frame) : State :=
  let s1 := if forwards s.mcr.address f then s.forwardFrom p f else s
  if consumes s.mcr.address f then s1.withPort p ((s1.port p).handOver f) else s1

/-- The oldest stored frame of a port handled whole (R6): frame check, link UP, loop test, source
recorded, forwarding decision. -/
def State.handleFrame (s : State) (p : Line) : State :=
  match (s.port p).ingress with
  | [] => s
  | bytes :: rest =>
    let x := { s.port p with ingress := rest }
    match acceptFrame bytes with
    | none => s.withPort p x.countCheckFail
    | some f =>
      if s.mcr.address = some f.src then s.withPort p x.bringUp.countLoop
      else (s.withPort p (x.bringUp.record f.src)).decideForwarding p f

/-- A port going from UP to DOWN: the egress queue flushed and a frame in flight abandoned, each
counted LINK_DISCARD (R3). -/
def LinePort.goDown (p : LinePort) : LinePort :=
  let lost := p.egress.length + (if p.inFlight.isSome then 1 else 0)
  LinePort.restartIdle
    { p with
      link := .down
      egress := []
      inFlight := none
      counters := { p.counters with linkDiscard := satInc^[lost] p.counters.linkDiscard } }

/-- The activity timer of a port expires (R2, R3). -/
def State.activityExpiry (s : State) (p : Line) : State :=
  match (s.port p).link with
  | .up => (s.withPort p (s.port p).goDown.active).setFlag .linkDown
  | .down => s.withPort p (s.port p).active

/-- The idle timer of a port expires: an idle marker is sent and the timer restarts (R4). -/
def LinePort.idleExpiry (p : LinePort) : LinePort :=
  match p.idleLeft with
  | some _ => { p with marker := true, idleLeft := some Config.idleMs }
  | none => p

/-- An idle marker's sending ends: a waiting frame starts (R4, R14). -/
def LinePort.markerEnd (p : LinePort) : LinePort := LinePort.startIfReady { p with marker := false }

/-- A transmission ends: FORWARDED counted for a forwarded frame, then the next frame starts or the
idle timer does (R4, R14). -/
def LinePort.transmissionEnd (p : LinePort) : LinePort :=
  match p.inFlight with
  | none => p
  | some e =>
    let c := if e.origin = .forward then { p.counters with forwarded := satInc p.counters.forwarded } else p.counters
    let q := { p with inFlight := none, counters := c }
    match q.egress with
    | [] => { q with idleLeft := some Config.idleMs }
    | _ :: _ => q.startIfReady

/-! ### Meanings -/

/-- IDLE_MARKER_ARRIVAL (R2). -/
def execIdleMarkerArrival (p : Line) (s : State) : Host.Outcome State Fault Refusal :=
  .next (s.withPort p (s.port p).markerArrival)

/-- FRAME_ARRIVAL_START (R2). -/
def execFrameArrivalStart (p : Line) (s : State) : Host.Outcome State Fault Refusal :=
  .next (s.withPort p (s.port p).active)

/-- FRAME_ARRIVAL_END (R2, R5). -/
def execFrameArrivalEnd (p : Line) (bytes : List Byte) (s : State) : Host.Outcome State Fault Refusal :=
  .next (s.withPort p ((s.port p).storeFrame bytes))

/-- FRAME_HANDLING (R6). -/
def execFrameHandling (p : Line) (s : State) : Host.Outcome State Fault Refusal := .next (s.handleFrame p)

/-- ACTIVITY_TIMER_EXPIRY (R2, R3). -/
def execActivityTimerExpiry (p : Line) (s : State) : Host.Outcome State Fault Refusal := .next (s.activityExpiry p)

/-- IDLE_TIMER_EXPIRY (R4). -/
def execIdleTimerExpiry (p : Line) (s : State) : Host.Outcome State Fault Refusal :=
  .next (s.withPort p (s.port p).idleExpiry)

/-- IDLE_MARKER_END (R4, R14). -/
def execIdleMarkerEnd (p : Line) (s : State) : Host.Outcome State Fault Refusal :=
  .next (s.withPort p (s.port p).markerEnd)

/-- TRANSMISSION_END (R14). -/
def execTransmissionEnd (p : Line) (s : State) : Host.Outcome State Fault Refusal :=
  .next (s.withPort p (s.port p).transmissionEnd)

end Sys2Proof.Machine
end

