-- ==== Sys2Proof/Machine/Track.lean ====
section
/-! DEFINITION. The track link port (chapter 7) and the attempt timer's expiry (R115). -/

namespace Sys2Proof.Machine

/-- The port leaves RECEIVING: a pending REQUEST starts at once, else LISTEN; in another state the
port stays (R127, R132). -/
def TrackLink.leaveReceiving (t : TrackLink) : TrackLink :=
  let t1 := { t with reception := none }
  match t.state, t.slot with
  | .receiving, some r => { t1 with state := .transmitting, inFlight := some r, slot := none, slotStart := none }
  | .receiving, none => { t1 with state := .listen }
  | _, _ => t1

/-- The start of an arrival followed in RECEIVING (R127, R139). -/
def TrackLink.follow (t : TrackLink) : TrackLink :=
  { t with state := .receiving, reception := some ⟨false, decide (0 < t.abandoned), 1⟩ }

/-- The REQUEST in flight started from the pending slot at the end of a transmission at this moment,
and no arrival is under way (R133; log 45). -/
def TrackLink.startsWith (t : TrackLink) (clock : Nat) : Bool := t.slotStart == some clock && t.reception.isNone

/-- A REQUEST that has just started from the slot waits there again, behind none: a newer one handed
over meanwhile replaces it (R130, R133; log 45). -/
def TrackLink.takeBack (t : TrackLink) : TrackLink :=
  { t with slot := t.slot.or t.inFlight, inFlight := none, slotStart := none }

/-- The start of an arrival: into RECEIVING, merged, or a collision (R127, R129, R132, R139). An arrival
that starts together with the end of a transmission, the end taken first, is received, and a pending
REQUEST waits for its end (R133; log 45). -/
def State.arrivalStart (s : State) : State :=
  let t := s.tlk
  match t.state with
  | .listen => s.withTlk t.follow
  | .receiving =>
    match t.reception with
    | some r => s.withTlk { t with reception := some { r with spoiled := true, arrivals := r.arrivals + 1 } }
    | none => s.withTlk { t with reception := some ⟨false, true, 1⟩ }
  | .transmitting =>
    if t.startsWith s.env.clock then s.withTlk t.takeBack.follow
    else
      let r : Reception :=
        match t.reception with
        | some r => { r with lost := true, arrivals := r.arrivals + 1 }
        | none => ⟨true, false, 1⟩
      (s.withTlk { t with collide := satInc t.collide, reception := some r }).setFlag .trackCollide

/-- A bad telegram: RX_BAD, the run, and FAULT at the eighth in a row (R128, R134). DESIGN CHOICE: the RTU
acts on the FAULT report before TRACK_FAULT is set (log 49). -/
def State.badTelegram (s : State) : State :=
  let run := min 8 (s.tlk.run + 1)
  let s1 := s.withTlk { s.tlk with rxBad := satInc s.tlk.rxBad, run := run }
  if run = 8 ∧ s.tlk.condition = .ok then
    ((s1.withTlk { s1.tlk with condition := .fault }).linkFaulted).setFlag .trackFault
  else s1

/-- A good telegram: RX_GOOD, the run cleared, OK reported when the link was in FAULT, then the
telegram delivered (R128, R135). -/
def State.goodTelegram (s : State) (m : Telegram) : State :=
  let s1 := s.withTlk { s.tlk with rxGood := satInc s.tlk.rxGood, run := 0 }
  let s2 :=
    if s.tlk.condition = .fault then (s1.withTlk { s1.tlk with condition := .ok }).setFlag .trackOk else s1
  s2.deliverTelegram m

/-- The end of an arrival (R127 to R129, R132, R139). An abandoned arrival ends unjudged; the earlier
ends of a merged reception have no effect; a lost reception is discarded; any other is judged after
the port has left RECEIVING (log 11, log 12). -/
def State.arrivalEnd (s : State) (bytes : List Byte) : State :=
  if 0 < s.tlk.abandoned then s.withTlk { s.tlk with abandoned := s.tlk.abandoned - 1 }
  else
    match s.tlk.reception with
    | none => s
    | some r =>
      if 1 < r.arrivals then s.withTlk { s.tlk with reception := some { r with arrivals := r.arrivals - 1 } }
      else
        let s1 := s.withTlk s.tlk.leaveReceiving
        if r.lost then s1
        else if r.spoiled then s1.badTelegram
        else
          match acceptTelegram bytes with
          | some m => s1.goodTelegram m
          | none => s1.badTelegram

/-- The end of a REQUEST's transmission: counted, reported, then the next state (R131). A pending
REQUEST starts at once, marked with the clock for an arrival that starts together with it (R133; log 45). -/
def State.transmissionDone (s : State) : State :=
  match s.tlk.state, s.tlk.inFlight with
  | .transmitting, some r =>
    let t := { s.tlk with txSent := satInc s.tlk.txSent, inFlight := none }
    let t1 : TrackLink :=
      match t.reception, t.slot with
      | some x, _ => { t with state := .receiving, reception := some { x with lost := true } }
      | none, some r1 => { t with state := .transmitting, inFlight := some r1, slot := none, slotStart := some s.env.clock }
      | none, none => { t with state := .listen }
    (s.withTlk t1).requestSent r.seq
  | _, _ => s

/-- The attempt timer runs: it is not stopped, and the mode does not freeze it (R111). -/
def State.attemptRunning (s : State) : Bool := s.rtu.attempt.isSome && s.mcr.mode.driving

/-- The attempt timer may expire: it runs, and it was not restarted at this reading of the clock (R114; log 61). -/
def State.attemptExpires (s : State) : Bool := s.attemptRunning && s.rtu.restartedAt != some s.env.clock

/-! ### Meanings -/

/-- TELEGRAM_ARRIVAL_START (R127, R129, R132). -/
def execTelegramArrivalStart (s : State) : Host.Outcome State Fault Refusal := .next s.arrivalStart

/-- TELEGRAM_ARRIVAL_END (R127 to R129), with the completion test when a removal leaves the junction
queue empty (R198). -/
def execTelegramArrivalEnd (bytes : List Byte) (s : State) : Host.Outcome State Fault Refusal :=
  .next (State.completionAfter s (s.arrivalEnd bytes))

/-- REQUEST_TRANSMISSION_END (R131). -/
def execRequestTransmissionEnd (s : State) : Host.Outcome State Fault Refusal := .next s.transmissionDone

/-- ATTEMPT_TIMER_EXPIRY (R111, R114, R115): a failed attempt of the head; a timer that is stopped or
frozen does not expire, nor does one that a CONFIRM or a report taken first has restarted (log 61). -/
def execAttemptTimerExpiry (s : State) : Host.Outcome State Fault Refusal :=
  .next (if s.attemptExpires then s.failAttempt else s)

end Sys2Proof.Machine
end

