-- ==== Sys2Proof/Machine/Dispatch.lean ====
section
/-! DEFINITION. What each command does to everything but the queue of commands: one arm for each row
of spec/opcode_table.json. -/

namespace Sys2Proof.Machine

/-- The effect of a command (section 0.5: each acts whole). -/
def exec (i : Instr) (s : State) : Host.Outcome State Fault Refusal :=
  match i with
  | .powerOn straps => Sys2Proof.Machine.execPowerOn straps s
  | .idleMarkerArrival p => Sys2Proof.Machine.execIdleMarkerArrival p s
  | .frameArrivalStart p => Sys2Proof.Machine.execFrameArrivalStart p s
  | .frameArrivalEnd p bytes => Sys2Proof.Machine.execFrameArrivalEnd p bytes s
  | .frameHandling p => Sys2Proof.Machine.execFrameHandling p s
  | .activityTimerExpiry p => Sys2Proof.Machine.execActivityTimerExpiry p s
  | .idleTimerExpiry p => Sys2Proof.Machine.execIdleTimerExpiry p s
  | .idleMarkerEnd p => Sys2Proof.Machine.execIdleMarkerEnd p s
  | .transmissionEnd p => Sys2Proof.Machine.execTransmissionEnd p s
  | .classifyFrame p => Sys2Proof.Machine.execClassifyFrame p s
  | .ageTick => Sys2Proof.Machine.execAgeTick s
  | .scanTimerExpiry => Sys2Proof.Machine.execScanTimerExpiry s
  | .scanArrivalEnd scan => Sys2Proof.Machine.execScanArrivalEnd scan s
  | .controlPeriod => Sys2Proof.Machine.execControlPeriod s
  | .attemptTimerExpiry => Sys2Proof.Machine.execAttemptTimerExpiry s
  | .telegramArrivalStart => Sys2Proof.Machine.execTelegramArrivalStart s
  | .telegramArrivalEnd bytes => Sys2Proof.Machine.execTelegramArrivalEnd bytes s
  | .requestTransmissionEnd => Sys2Proof.Machine.execRequestTransmissionEnd s
  | .soundStepBoundary ch load => Sys2Proof.Machine.execSoundStepBoundary ch load s
  | .directHornMinEnd => Sys2Proof.Machine.execDirectHornMinEnd s
  | .directHornInterval load => Sys2Proof.Machine.execDirectHornInterval load s
  | .startupCheckEnd pass => Sys2Proof.Machine.execStartupCheckEnd pass s
  | .readItem => Sys2Proof.Machine.execReadItem s
  | .writeItem => Sys2Proof.Machine.execWriteItem s
  | .loadEntry => Sys2Proof.Machine.execLoadEntry s
  | .readEntry => Sys2Proof.Machine.execReadEntry s
  | .commit => Sys2Proof.Machine.execCommit s
  | .readLoadSum => Sys2Proof.Machine.execReadLoadSum s
  | .readFlags => Sys2Proof.Machine.execReadFlags s
  | .setEnables => Sys2Proof.Machine.execSetEnables s
  | .readRestrictions => Sys2Proof.Machine.execReadRestrictions s
  | .readJunctions => Sys2Proof.Machine.execReadJunctions s
  | .readStops => Sys2Proof.Machine.execReadStops s
  | .readStep => Sys2Proof.Machine.execReadStep s
  | .holdSoft => Sys2Proof.Machine.execHoldSoft s
  | .holdHard => Sys2Proof.Machine.execHoldHard s
  | .release => Sys2Proof.Machine.execRelease s
  | .stepEnter => Sys2Proof.Machine.execStepEnter s
  | .stepOne => Sys2Proof.Machine.execStepOne s
  | .stepExit => Sys2Proof.Machine.execStepExit s
  | .enterService => Sys2Proof.Machine.execEnterService s
  | .restart => Sys2Proof.Machine.execRestart s
  | .setRoute => Sys2Proof.Machine.execSetRoute s
  | .unknownRequest => Sys2Proof.Machine.execUnknownRequest s

end Sys2Proof.Machine
end

