-- ==== Sys2Proof/Safety.lean ====
section
/-! DEFINITION. What counts as a sound state of the part: the bounds and agreements that the spec
promises of every moment, and the frames that statements about one command use. -/

namespace Sys2Proof.Machine

/-! ### Capacities (R5, R12, R24, R102, R162) -/

/-- A port's buffers hold no more than their places (R5, R12). -/
abbrev LinePort.Fits (p : LinePort) : Prop := p.ingress.length ≤ 2 ∧ p.egress.length ≤ 8

/-- Every queue of the part holds no more than its places. -/
abbrev State.Fits (s : State) : Prop :=
  s.line.a.Fits ∧ s.line.b.Fits ∧ s.fcl.requests.length ≤ 4 ∧ s.rtu.queue.length ≤ 4 ∧
    s.ssq.horn.queue.length ≤ 4 ∧ s.ssq.bell.queue.length ≤ 4 ∧ s.ssq.chime.queue.length ≤ 4

/-! ### Identities (R9, R82, R102, R146, R162) -/

/-- The identity of a restriction (R81). -/
abbrev Restriction.identity (e : Restriction) : Source × Half := (e.source, e.key)

/-- What a collection may hold once, it holds at most once. -/
abbrev State.Distinct (s : State) : Prop :=
  s.line.a.seen.Nodup ∧ s.line.b.seen.Nodup ∧ (s.rsl.map Restriction.identity).Nodup ∧
    (s.rtu.queue.map (·.junction)).Nodup ∧ (s.sru.list.map (·.source)).Nodup

/-- The identity of a sound request (R162). -/
abbrev SoundRequest.identity (r : SoundRequest) : Nat × SoundSource := (r.pattern, r.source)

/-- Every request that a channel plays or has queued, the playing one first. -/
abbrev SoundChannel.requests (c : SoundChannel) : List SoundRequest := (c.playing.map (·.request)).toList ++ c.queue

/-- No two requests of a channel are equal, and the queue is in order of priority (R162). -/
abbrev SoundChannel.Ordered (c : SoundChannel) : Prop :=
  (c.requests.map SoundRequest.identity).Nodup ∧ (c.queue.map (·.priority)).Pairwise (fun x y => y ≤ x)

/-- The three channels are in order (R162). -/
abbrev State.SoundOrdered (s : State) : Prop := s.ssq.horn.Ordered ∧ s.ssq.bell.Ordered ∧ s.ssq.chime.Ordered

/-! ### The restriction list and the modes (R82, R95) -/

/-- The modes in which MODE/HOLD stands in the list (R82). -/
def Mode.restrained : Mode → Bool
  | .service | .holdPending | .standby => false
  | _ => true

/-- The list has an entry of a source under key 0. -/
abbrev hasEntry (l : List Restriction) (src : Source) : Prop := ∃ e ∈ l, e.source = src ∧ e.key = 0

/-- Every entry of a source is of kind HOLD. -/
abbrev onlyHold (l : List Restriction) (src : Source) : Prop := ∀ e ∈ l, e.source = src → e.kind = .hold

/-- Every entry of a source is of kind CAP. -/
abbrev onlyCap (l : List Restriction) (src : Source) : Prop := ∀ e ∈ l, e.source = src → ∃ v, e.kind = .cap v

/-- The list has an entry of a source under key 0 with this kind. -/
abbrev standsAs (l : List Restriction) (src : Source) (k : Restraint) : Prop :=
  ∃ e ∈ l, e.source = src ∧ e.key = 0 ∧ e.kind = k

/-- MODE/HOLD is in the list in every mode but SERVICE, HOLD_PENDING and STANDBY, and the list is
empty in STANDBY (R82). -/
abbrev State.ModeHeld (s : State) : Prop :=
  onlyHold s.rsl .mode ∧ (s.mcr.mode.restrained = true → hasEntry s.rsl .mode) ∧ (s.mcr.mode = .standby → s.rsl = [])

/-! ### Doors (R154) -/

/-- The DOORS mark says what the doors call for, and a mark that is set stands in the list as HOLD (R154). -/
abbrev State.DoorsHeld (s : State) : Prop :=
  onlyHold s.rsl .doors ∧ (s.mcr.mode.active = true → s.sru.mark = s.sru.doorsCondition) ∧
    (s.sru.mark = true → s.mcr.mode ≠ .standby ∧ hasEntry s.rsl .doors)

/-! ### Junctions (R103) -/

/-- A transaction's JUNCTION entry stands in the list exactly when its state places one. -/
abbrev mirrored (l : List Restriction) (items : RouteItems) (t : Transaction) : Prop :=
  (t.restraint items).isSome = (findRestriction l .junction t.junction).isSome

/-- JUNCTION entries and queued transactions agree, and no JUNCTION entry is an emergency (R83, R103). -/
abbrev State.JunctionsMirrored (s : State) : Prop :=
  (∀ t ∈ s.rtu.queue, mirrored s.rsl s.rtu.items t) ∧
    (∀ e ∈ s.rsl, e.source = .junction → (∃ t ∈ s.rtu.queue, t.junction = e.key) ∧ ∀ l, e.kind ≠ .emergency l)

/-- Only JUNCTION entries have a key other than 0 (R81, R83). -/
abbrev State.KeysZero (s : State) : Prop := ∀ e ∈ s.rsl, e.source ≠ .junction → e.key = 0

/-- The attempt timer is started for a head that is REQUESTING alone (R111). -/
abbrev State.AttemptHeld (s : State) : Prop :=
  s.rtu.attempt.isSome = true → s.rtu.queue.head?.map (·.state) = some .requesting

/-! ### Items (R32, R76, R100, R161, R190) -/

/-- The traction items are within their ranges (R76). -/
abbrev TractionItems.InRange (i : TractionItems) : Prop :=
  i.deadBand ≤ 100 ∧ i.emergBrake ≤ 1000 ∧ i.holdBrake ≤ 1000 ∧ i.enforceBrake ≤ 1000 ∧ i.overspeedBand ≤ 100 ∧
    100 ≤ i.jerk ∧ i.jerk ≤ 5000 ∧ 1000 ≤ i.vigilWarn ∧ i.vigilWarn + 500 ≤ i.vigilLimit ∧ i.vigilLimit ≤ 15000 ∧
    i.vigilWarn % 20 = 0 ∧ i.vigilLimit % 20 = 0 ∧ 1 ≤ i.slipThreshold ∧ i.slipThreshold ≤ 200

/-- The route items are within their ranges (R100). -/
abbrev RouteItems.InRange (i : RouteItems) : Prop :=
  100 ≤ i.confirmTimeout ∧ i.confirmTimeout ≤ 1000 ∧ i.confirmTimeout % 20 = 0 ∧ i.shortRetries ≤ 3 ∧
    i.defaultCap ≤ 1500 ∧ i.proceedCap ≤ 1500 ∧ i.defaultClearance ≤ 255

/-- The pattern items are within their ranges (R161). -/
abbrev PatternItems.InRange (i : PatternItems) : Prop :=
  i.stopPat ≤ 15 ∧ i.assistPat ≤ 15 ∧ i.doorClosingPat ≤ 15 ∧ i.vigilPat ≤ 15 ∧ i.driverBellPat ≤ 15 ∧
    i.emergHornPat ≤ 15

/-- A binding names a slot of the table, or none (R32). -/
abbrev slotBound (b : Option Nat) : Prop := b.getD 0 ≤ 127

/-- Every item that WRITE_ITEM and SET_ROUTE set is within its range. -/
abbrev State.ItemsInRange (s : State) : Prop :=
  s.tdu.items.InRange ∧ s.rtu.items.InRange ∧ s.ssq.items.InRange ∧ s.rtu.routeNumber ≤ 999 ∧
    slotBound s.sgt.brakeSlot ∧ slotBound s.sgt.doorSlot ∧ slotBound s.sgt.stopSlot ∧
    ∀ c ∈ s.efn.channels, c.dest ≤ 63

/-! ### Effort (R37, R58, R66) -/

/-- Every effort of a bank is at most 1000 (R58). -/
abbrev Curve.Bounded (c : Curve) : Prop := (∀ b ∈ c.power, b.effort ≤ 1000) ∧ ∀ b ∈ c.brake, b.effort ≤ 1000

/-- A signed quantity is within -1000..+1000. -/
abbrev within1000 (x : Int) : Prop := -1000 ≤ x ∧ x ≤ 1000

/-- E_cmd is within -1000..+1000, with what it is computed from: the handle, the curve, the items (R37,
R58, R66, R76). -/
abbrev State.EffortBounded (s : State) : Prop :=
  within1000 s.tdu.eCmd ∧ within1000 s.tdu.inputs.handle ∧ within1000 s.dci.handle ∧
    s.tdu.curveActive.Bounded ∧ s.tdu.curveShadow.Bounded ∧ s.tdu.items.InRange

/-! ### A part without an address (R1, R193) -/

/-- A part with no node address is in FAILED, and no frame or request waits in it (R1, R25, R193). -/
abbrev State.SilentUnaddressed (s : State) : Prop :=
  s.mcr.address = none →
    s.mcr.mode = .failed ∧ s.fcl.requests = [] ∧ s.line.a.handed = [] ∧ s.line.b.handed = []

/-! ### Shapes (section heads of chapters 2, 4, 6, 8, 9, 10) -/

/-- A bank of the traction curve has eight breakpoints on each limb (R59). -/
abbrev Curve.Shaped (c : Curve) : Prop := c.power.length = 8 ∧ c.brake.length = 8

/-- Every table and register file has its fixed number of entries. -/
abbrev State.Shaped (s : State) : Prop :=
  s.fcl.windows.length = 16 ∧ s.sgt.slots.length = 128 ∧ s.tdu.curveActive.Shaped ∧ s.tdu.curveShadow.Shaped ∧
    s.tdu.allocActive.units.length = 4 ∧ s.tdu.allocShadow.units.length = 4 ∧ s.tdu.slips.length = 4 ∧
    s.rtu.active.length = 48 ∧ s.rtu.shadow.length = 48 ∧ s.sru.sources.length = 32 ∧ s.ssq.patterns.length = 16 ∧
    s.efn.channels.length = 4

/-! ### What travels -/

/-- A frame that the frame check accepts: its addresses, its length and its check are right (R7). -/
abbrev Frame.WellFormed (f : Frame) : Prop :=
  addressesAccepted f.dest f.src f.kind = true ∧ f.payload.length ≤ 32 ∧
    f.check = frameCheck (frameHeader f.dest f.src f.kind f.id f.seq f.payload ++ f.payload)

/-- The frames that a port has still to send, the one in flight first (R12, R14). -/
def LinePort.toSend (p : LinePort) : List Entry := p.inFlight.toList ++ p.egress

/-- A frame can be taken by a port without loss: it is UP and its queue has a place (R12, R13). -/
abbrev LinePort.hasRoom (p : LinePort) : Prop := p.link = .up ∧ p.egress.length < 8

/-! ### Frames of statements -/

/-- `t` is `s` but for what sending frames may change: the ports' egress sides, the sequence number,
the event flags. -/
def State.sameButSent (s t : State) : Prop :=
  t = (s.withLine t.line).withEfn { s.efn with flags := t.efn.flags }

/-- From `s` to `t` an own PROCESS frame goes to every node: with a place free at both ports and no notify
channel to fill it, both ports of `t` have the frame still to send (R16, R75; R13 says what it replaces). -/
def State.sendsTo (s t : State) (id : Half) (payload : List Byte) : Prop :=
  ∀ own, s.mcr.address = some own → s.line.a.hasRoom → s.line.b.hasRoom →
    (∀ c ∈ s.efn.channels, c.enable = false) →
      ∃ f : Frame, f.dest = 63 ∧ f.src = own ∧ f.kind = .process ∧ f.id = id ∧ f.seq = s.line.txSeq ∧
        f.payload = payload ∧ ∀ p, ⟨f, .own⟩ ∈ (t.port p).toSend

/-- The channel of a flag number: in BLOCK its group of 16, in INTERLEAVE the remainder by 4 (R190). -/
abbrev MapMode.ChannelIs (map : MapMode) (n c : Nat) : Prop :=
  (map = .block → c = n / 16) ∧ (map = .interleave → c = n % 4)

/-- The position of a flag number within its channel (R190). -/
abbrev MapMode.PositionIs (map : MapMode) (n p : Nat) : Prop :=
  (map = .block → p = n % 16) ∧ (map = .interleave → p = n / 4)

/-- `n` is the NOTIFY that the part with address `own` makes of channel `c` in `s` (R191, R207): it goes to the
channel's destination, and its three bytes are the map mode and the channel's 16 flags, most significant byte first,
bit `p` the flag at position `p`. -/
def State.NotifyIs (s : State) (own : Byte) (c : Nat) (n : Frame) : Prop :=
  n.dest = BitVec.ofNat 8 (s.efn.channel c).dest ∧ n.src = own ∧ n.kind = .notify ∧ n.id = BitVec.ofNat 16 c ∧
    ∃ w : Half, n.payload = [if s.efn.map = .block then 0 else 1, w.extractLsb' 8 8, w.extractLsb' 0 8] ∧
      ∀ k p, k < 64 → s.efn.map.ChannelIs k c → s.efn.map.PositionIs k p → w.getLsbD p = s.efn.flags.getLsbD k

/-- The flags that are set in `s` are set in `t`. -/
def State.flagsKept (s t : State) : Prop := s.efn.flags &&& t.efn.flags = s.efn.flags

/-- The state with its front request taken (R24). -/
def State.taken (s : State) : State := s.withFcl { s.fcl with requests := s.fcl.requests.tail }

/-- A request waits at the front, and the mode is none of the two that R175 answers alone. -/
abbrev State.asked (s : State) (r : Request) (row : Row) : Prop :=
  s.fcl.requests.head? = some r ∧ r.row = row ∧ s.mcr.mode ≠ .starting ∧ s.mcr.mode ≠ .failed

/-- The command that takes the requests of a row. -/
def Row.command : Row → Instr
  | .readItem => .readItem
  | .writeItem => .writeItem
  | .loadEntry => .loadEntry
  | .readEntry => .readEntry
  | .commit => .commit
  | .readLoadSum => .readLoadSum
  | .readFlags => .readFlags
  | .setEnables => .setEnables
  | .readRestrictions => .readRestrictions
  | .readJunctions => .readJunctions
  | .readStops => .readStops
  | .readStep => .readStep
  | .holdSoft => .holdSoft
  | .holdHard => .holdHard
  | .release => .release
  | .stepEnter => .stepEnter
  | .stepOne => .stepOne
  | .stepExit => .stepExit
  | .enterService => .enterService
  | .restart => .restart
  | .setRoute => .setRoute
  | .unknown => .unknownRequest

/-- The tram stands still: its speed is known and at most 0.3 km/h (R53). -/
abbrev State.still (s : State) : Prop := ∃ x, s.tdu.speed = some x ∧ x.v ≤ 3

/-- `k` is the kind that R43 chooses for DESK: EMERGENCY in SERVICE and HOLD_PENDING unless the tram is known to
stand, once a period has been computed since the last reset. -/
abbrev State.DeskKindIs (s : State) (k : DeskKind) : Prop :=
  k = .emergency ↔ (s.mcr.mode = .service ∨ s.mcr.mode = .holdPending) ∧ s.tdu.computed = true ∧ ¬ s.still

/-- DESK raised with a kind into the list `before` stands in the list `after`: a raise as EMERGENCY as such with no
lift request, and one as HOLD as HOLD, unless an EMERGENCY entry stood there, which a HOLD does not lessen (R85). -/
abbrev deskStands (before after : List Restriction) (k : DeskKind) : Prop :=
  (k = .emergency → standsAs after .desk (.emergency false)) ∧
    (k = .hold → standsAs after .desk .hold ∨
      ∃ e ∈ before, e.source = .desk ∧ e.key = 0 ∧ (∃ l, e.kind = .emergency l) ∧ e ∈ after)

/-- Every block but the mode control, the model's own counters and the waiting commands is at its
power-on values (the state tables of chapters 1 to 10, R92; log 26, log 31). -/
def State.AtPowerOn (t : State) : Prop :=
  (∀ p, t.port p = ⟨.down, 20, some 5, false, [], [], none, [], [], ⟨0, 0, 0, 0, 0, 0, 0⟩⟩) ∧ t.line.txSeq = 0 ∧
  t.fcl = ⟨List.replicate 16 ⟨false, 0, 0, .ignore, 0, 255⟩, []⟩ ∧
  t.sgt = ⟨List.replicate 128 ⟨[], none, .never, 0, 255, 0⟩, none, 20, none, none, none⟩ ∧
  t.dci = ⟨20, false, 0, 0, false, .lost, none, 0, 0, 0, 0⟩ ∧
  t.tdu =
    { periodLeft := 20, periodCount := 0
      curveActive := ⟨List.replicate 8 ⟨0, 0⟩, List.replicate 8 ⟨0, 0⟩, false⟩
      curveShadow := ⟨List.replicate 8 ⟨0, 0⟩, List.replicate 8 ⟨0, 0⟩, false⟩
      allocActive := ⟨List.replicate 4 ⟨false, 0, 0, none, none⟩, false⟩
      allocShadow := ⟨List.replicate 4 ⟨false, 0, 0, none, none⟩, false⟩
      speed := none, lastV := 0, odometer := 0, acc9 := 0
      held := .neutral, prevDesk := .neutral, lastTravel := none, eCmd := 0
      slips := List.replicate 4 ⟨100, 0⟩
      vigil := 0, vigilOn := false, marks := ⟨false, false, false, false, false⟩
      computed := false, overspeed := false, unitsDegraded := false, tractionCut := false, record := none
      items := ⟨20, 800, 150, 300, 30, 1500, 2500, 5000, 20, 0x0100⟩
      inputs := ⟨0, false, false, false, false⟩ } ∧
  t.rsl = [⟨.mode, 0, .hold, 0⟩] ∧
  t.rtu = ⟨List.replicate 48 ⟨false, 0, 0, 0, none, 0, 0, 0, false, 0⟩,
    List.replicate 48 ⟨false, 0, 0, 0, none, 0, 0, 0, false, 0⟩, [], none, 0, 0, false,
    ⟨0, 300, 2, 150, 50, 40, .manual⟩, none⟩ ∧
  t.tlk = ⟨.listen, none, 0, none, none, none, .ok, 0, 0, 0, 0, 0, 0, false⟩ ∧
  t.sru = ⟨List.replicate 32 ⟨false, .normal⟩, 0, BitVec.allOnes 32, [], .closedLocked, ⟨false, false⟩, none, false,
    0x0101, 0x0102⟩ ∧
  t.ssq.patterns = List.replicate 16 ⟨false, 0, 1, 0, 0, 1⟩ ∧ t.ssq.items = ⟨0, 1, 2, 3, 4, 5⟩ ∧
  (∀ ch, t.ssq.channel ch = ⟨none, [], none, false, false⟩) ∧ t.ssq.direct = none ∧ t.ssq.hornLevel = false ∧
  t.efn = ⟨0, 0, List.replicate 4 ⟨false, 0⟩, .block⟩

/-- `t` holds what RESTART and standby exit leave of `s` (R202 with the restart columns of chapters 1 to
11; log 10, log 31): what each block clears, and nothing else. -/
def State.Restarted (s t : State) : Prop :=
  (∀ p, t.port p =
    { s.port p with
      egress := []
      seen := []
      idleLeft :=
        if (s.port p).inFlight = none then some ((s.port p).idleLeft.getD 5) else (s.port p).idleLeft }) ∧
  t.line.txSeq = s.line.txSeq ∧ t.fcl = { s.fcl with requests := [] } ∧
  t.sgt = { s.sgt with slots := List.replicate 128 ⟨[], none, .never, 0, 255, 0⟩, lastStale := none } ∧
  t.dci =
    { s.dci with
      exchangeOpen := false, image := s.dci.image &&& 1, handle := 0, state := .lost, raised := none, badRun := 0
      goodRun := 0 } ∧
  t.tdu =
    { s.tdu with
      eCmd := 0, slips := List.replicate 4 ⟨100, 0⟩, held := .neutral, lastTravel := none, prevDesk := .neutral
      vigil := 0, vigilOn := false, speed := none, computed := false, marks := ⟨false, false, false, false, false⟩
      overspeed := false, unitsDegraded := false, tractionCut := false } ∧
  t.rsl = [⟨.mode, 0, .hold, s.tdu.periodCount⟩] ∧
  t.rtu = { s.rtu with queue := [], attempt := none, mark := false } ∧
  t.tlk =
    { s.tlk with
      state := .listen, reception := none, slot := none, inFlight := none, slotStart := none
      abandoned := s.tlk.abandoned + (s.tlk.reception.elim 0 (·.arrivals)) } ∧
  t.sru =
    { s.sru with
      image := 0, armed := BitVec.allOnes 32, list := [], door := .closedLocked, sides := ⟨false, false⟩, view := none
      mark := false } ∧
  (∀ ch, t.ssq.channel ch = ⟨none, [], none, false, false⟩) ∧ t.ssq.direct = none ∧
  t.ssq.patterns = s.ssq.patterns ∧ t.ssq.items = s.ssq.items ∧ t.ssq.hornLevel = s.ssq.hornLevel ∧
  t.efn = { s.efn with flags := BitVec.twoPow 64 Flag.rslChange.number } ∧
  t.mcr = { s.mcr with mode := .starting, checkLeft := 250 } ∧ t.env = s.env ∧ t.pending = s.pending

/-- What standby entry leaves (R200): every flag clear, the stop requests, junctions, sounds, restrictions
and slots gone, the speed unknown, and every record of what was raised clear (R94; log 47 for the DCI's). -/
def State.StandsBy (t : State) : Prop :=
  t.mcr.mode = .standby ∧ t.efn.flags = 0 ∧ t.sru.list = [] ∧ t.sru.door = .closedLocked ∧ t.sru.mark = false ∧
    t.rtu.queue = [] ∧ t.rtu.attempt = none ∧ t.rtu.mark = false ∧
    (∀ ch, t.ssq.channel ch = ⟨none, [], none, false, false⟩) ∧ t.ssq.direct = none ∧
    t.rsl = [] ∧ t.tdu.speed = none ∧ t.tdu.vigil = 0 ∧ t.tdu.marks = ⟨false, false, false, false, false⟩ ∧
    t.dci.raised = none ∧ (∀ x ∈ t.sgt.slots, x = ⟨[], none, .never, 0, 255, 0⟩) ∧ t.sgt.lastStale = none

end Sys2Proof.Machine
end

