-- ==== Sys2Proof/Certificates/Slice0/Obligations.lean ====
section
/-! DEFINITION. The statements for the provers, in the order of the spec's chapters. -/

open Sys2Proof Sys2Proof.Machine

/-! ### The machine as a whole -/

/-- A step takes the front command and runs it on the state with the queue's rest. -/
def Obligations.StepRunsFrontCommand : Prop :=
  ∀ (c : Instr) (rest : List Instr) (s : State), s.pending = c :: rest → step s = exec c (s.withPending rest)

/-- With no command waiting, a step lets one millisecond pass (the model's choice, log 1): every timer
that runs has one less, of the ports, the table, the desk, the period, the check and the sounders, the
attempt timer only in SERVICE and HOLD_PENDING (R111); the model's clock counts, and all else stays. -/
def Obligations.IdleStepLetsTimePass : Prop :=
  ∀ s : State, s.pending = [] →
    ∃ t, step s = .next t ∧
      (∀ p, t.port p = { s.port p with
        activityLeft := (s.port p).activityLeft - 1, idleLeft := (s.port p).idleLeft.map (fun n => n - 1) }) ∧
      t.line.txSeq = s.line.txSeq ∧ t.fcl = s.fcl ∧ t.sgt = { s.sgt with tickLeft := s.sgt.tickLeft - 1 } ∧
      t.dci = { s.dci with scanLeft := s.dci.scanLeft - 1 } ∧
      t.tdu = { s.tdu with periodLeft := s.tdu.periodLeft - 1 } ∧ t.rsl = s.rsl ∧
      ((s.mcr.mode = .service ∨ s.mcr.mode = .holdPending) →
        t.rtu = { s.rtu with attempt := s.rtu.attempt.map (fun n => n - 1) }) ∧
      (s.mcr.mode ≠ .service → s.mcr.mode ≠ .holdPending → t.rtu = s.rtu) ∧ t.tlk = s.tlk ∧ t.sru = s.sru ∧
      (∀ ch, t.ssq.channel ch = { s.ssq.channel ch with
        stepLeft := (s.ssq.channel ch).stepLeft.map (fun n => n - 1) }) ∧
      t.ssq.direct = s.ssq.direct.map (fun d => { d with minLeft := d.minLeft - 1, intervalLeft := d.intervalLeft - 1 }) ∧
      t.ssq.patterns = s.ssq.patterns ∧ t.ssq.items = s.ssq.items ∧ t.ssq.hornLevel = s.ssq.hornLevel ∧
      t.efn = s.efn ∧ t.mcr = { s.mcr with checkLeft := s.mcr.checkLeft - 1 } ∧
      t.env = { s.env with clock := s.env.clock + 1 } ∧ t.pending = []

/-- Every command completes with a next state, and none changes the queue of commands. -/
def Obligations.EveryCommandCompletes : Prop :=
  ∀ (c : Instr) (s : State), ∃ t, exec c s = .next t ∧ t.pending = s.pending

/-- POWER_ON (R1, R193, and the power-on columns of chapters 1 to 11): straps of a node address start the
check, and straps that give none leave FAILED and no address, every block at its power-on values either
way. Where the spec gives a value no power-on state the value is the model's (log 31), as are the clock
(log 26), the reset that straps of 0 stand for (log 2) and the waiting commands, which stay (log 32). -/
def Obligations.PowerOnSetsStart : Prop :=
  (∀ (n : Nat) (s : State), 1 ≤ n → n ≤ 62 →
     ∃ t, exec (.powerOn n) s = .next t ∧ t.mcr = ⟨.starting, some (BitVec.ofNat 8 n), 250, 0⟩ ∧ t.AtPowerOn ∧
       t.env.clock = 0 ∧ t.pending = s.pending) ∧
  (∀ (n : Nat) (s : State), n = 0 ∨ n = 63 →
     ∃ t, exec (.powerOn n) s = .next t ∧ t.mcr = ⟨.failed, none, 0, 0⟩ ∧ t.AtPowerOn ∧ t.env.clock = 0 ∧
       t.pending = s.pending)

/-! ### Line ports (chapter 1) -/

/-- Line activity restarts the activity timer, and an idle marker brings the port UP (R2). The end of a
frame's arrival stores it or counts RX_OVERRUN (R5). -/
def Obligations.LineActivityIsTaken : Prop :=
  (∀ (p : Line) (s : State),
     exec (.idleMarkerArrival p) s = .next (s.withPort p { s.port p with activityLeft := 20, link := .up }) ∧
       exec (.frameArrivalStart p) s = .next (s.withPort p { s.port p with activityLeft := 20 })) ∧
  (∀ (p : Line) (bytes : List Byte) (s : State),
     exec (.frameArrivalEnd p bytes) s = .next (s.withPort p
       (if (s.port p).ingress.length < 2 then
         { s.port p with activityLeft := 20, ingress := (s.port p).ingress ++ [bytes] }
       else
         { s.port p with
           activityLeft := 20
           counters := { (s.port p).counters with rxOverrun := satInc (s.port p).counters.rxOverrun } })))

/-- A frame that fails the check is counted and dropped (R6, R7). A good one brings the port UP (R2), also
where the frame was stored and the port is DOWN (log 27), and its source is recorded (R9). A frame for the
part goes to the classifier alone, any other to the other port's queue, which takes it with room, counts
LINK_DISCARD in DOWN and FWD_DROP with its flag when full (R12, R15); a broadcast goes to both; a part with
no address forwards all and consumes none (R1, R10). The list of frames handed over is log 5's. -/
def Obligations.FramesAreForwarded : Prop :=
  ∀ (p : Line) (s : State) (bytes : List Byte) (rest : List (List Byte)), (s.port p).ingress = bytes :: rest →
    (acceptFrame bytes = none → exec (.frameHandling p) s = .next (s.withPort p
      { s.port p with
        ingress := rest
        counters := { (s.port p).counters with checkFail := satInc (s.port p).counters.checkFail } })) ∧
    (∀ (f : Frame) (x : LinePort), acceptFrame bytes = some f → s.mcr.address ≠ some f.src →
      x = { s.port p with
        ingress := rest
        link := .up
        seen := if f.src ∈ (s.port p).seen then (s.port p).seen else (s.port p).seen ++ [f.src] } →
        (s.mcr.address = some f.dest →
          exec (.frameHandling p) s = .next (s.withPort p { x with handed := x.handed ++ [f] })) ∧
        (s.mcr.address ≠ some f.dest → ∃ w : State,
          exec (.frameHandling p) s = .next
            (if f.dest = 63 ∧ s.mcr.address ≠ none then
              w.withPort p { w.port p with handed := (w.port p).handed ++ [f] }
             else w) ∧
          ((s.port (otherPort p)).link = .down → w = (s.withPort p x).withPort (otherPort p)
            { s.port (otherPort p) with
              counters := { (s.port (otherPort p)).counters with
                linkDiscard := satInc (s.port (otherPort p)).counters.linkDiscard } }) ∧
          ((s.port (otherPort p)).hasRoom → ∃ y : LinePort, w = (s.withPort p x).withPort (otherPort p) y ∧
            y.toSend = (s.port (otherPort p)).toSend ++ [⟨f, .forward⟩] ∧ y.idleLeft = none ∧
            s.port (otherPort p) = { y with
              egress := (s.port (otherPort p)).egress
              inFlight := (s.port (otherPort p)).inFlight
              idleLeft := (s.port (otherPort p)).idleLeft }) ∧
          ((s.port (otherPort p)).link = .up → 8 ≤ (s.port (otherPort p)).egress.length →
            w = ((s.withPort p x).withPort (otherPort p)
              { s.port (otherPort p) with
                counters := { (s.port (otherPort p)).counters with
                  fwdDrop := satInc (s.port (otherPort p)).counters.fwdDrop } }).setFlag .fwdDrop)))

/-- The loop test (R8): a frame from the own address is dropped with LOOP counted, neither recorded nor
forwarded nor consumed; any other passes on and is recorded (R9), and a part with no address drops none.
That a good frame stored in a port that went DOWN brings it UP is R2 as log 27 reads it. -/
def Obligations.LoopTestDropsOwnFrames : Prop :=
  ∀ (p : Line) (s : State) (bytes : List Byte) (rest : List (List Byte)) (f : Frame),
    (s.port p).ingress = bytes :: rest → acceptFrame bytes = some f →
      (s.mcr.address = some f.src →
        exec (.frameHandling p) s = .next (s.withPort p
          { s.port p with
            ingress := rest
            link := .up
            counters := { (s.port p).counters with loop := satInc (s.port p).counters.loop } })) ∧
      (s.mcr.address ≠ some f.src → ∃ t, exec (.frameHandling p) s = .next t ∧ f.src ∈ (t.port p).seen ∧
        (t.port p).counters.loop = (s.port p).counters.loop)

/-- Egress queues (R12, R13, R15, R16). A forwarded frame is refused DOWN, appended with room, dropped at a
full queue. An own PROCESS frame takes the place of an older one of its signal id; else an own frame is
appended; in a full queue it displaces the oldest forwarded frame; in one of own frames alone it is
dropped. An own frame's ports follow from its destination and the seen sets. -/
def Obligations.EgressQueuesTakeFrames : Prop :=
  (∀ (x : LinePort) (f : Frame),
     (x.link = .down → x.presentForward f =
       ({ x with counters := { x.counters with linkDiscard := satInc x.counters.linkDiscard } }, false)) ∧
     (x.hasRoom → (x.presentForward f).1.toSend = x.toSend ++ [⟨f, .forward⟩] ∧
       (x.presentForward f).1.counters = x.counters ∧ (x.presentForward f).1.idleLeft = none ∧
       (x.presentForward f).2 = false) ∧
     (x.link = .up → 8 ≤ x.egress.length → x.presentForward f =
       ({ x with counters := { x.counters with fwdDrop := satInc x.counters.fwdDrop } }, true))) ∧
  (∀ (x : LinePort) (f : Frame), x.link = .up →
     (∀ l1 e l2, x.egress = l1 ++ e :: l2 → e.replacedBy f = true → (∀ y ∈ l1, y.replacedBy f = false) →
       x.presentOwn f = ({ x with egress := l1 ++ ⟨f, .own⟩ :: l2 }, false, false)) ∧
     ((∀ y ∈ x.egress, y.replacedBy f = false) →
       (x.egress.length < 8 → (x.presentOwn f).1.toSend = x.toSend ++ [⟨f, .own⟩] ∧
         (x.presentOwn f).1.counters = x.counters ∧ (x.presentOwn f).2 = (false, false)) ∧
       (8 ≤ x.egress.length →
         (∀ l1 e l2, x.egress = l1 ++ e :: l2 → e.origin = .forward → (∀ y ∈ l1, y.origin = .own) →
           (x.presentOwn f).1.toSend = x.inFlight.toList ++ (l1 ++ l2 ++ [⟨f, .own⟩]) ∧
             (x.presentOwn f).1.counters = { x.counters with fwdDrop := satInc x.counters.fwdDrop } ∧
             (x.presentOwn f).2 = (true, false)) ∧
         ((∀ y ∈ x.egress, y.origin = .own) → x.presentOwn f =
           ({ x with counters := { x.counters with ownDrop := satInc x.counters.ownDrop } }, false, true))))) ∧
  (∀ (l : LineBlock) (own dest : Byte),
     (dest = 63 → l.routeTo own dest = .both) ∧
     (dest = 0 ∨ dest = own → dest ≠ 63 → l.routeTo own dest = .nowhere) ∧
     (dest ≠ 63 → dest ≠ 0 → dest ≠ own →
       (dest ∈ l.a.seen → dest ∉ l.b.seen → l.routeTo own dest = .only .a) ∧
       (dest ∉ l.a.seen → dest ∈ l.b.seen → l.routeTo own dest = .only .b) ∧
       ((dest ∈ l.a.seen ↔ dest ∈ l.b.seen) → l.routeTo own dest = .both)))

/-- The activity timer's expiry takes an UP port DOWN with its frames flushed and counted, and
restarts the timer in DOWN (R2, R3). That the timer starts afresh when the port goes DOWN is the model's
choice (log 1). -/
def Obligations.ActivityExpiryFlushes : Prop :=
  ∀ (p : Line) (s : State),
    ((s.port p).link = .down → exec (.activityTimerExpiry p) s = .next (s.withPort p { s.port p with activityLeft := 20 })) ∧
    ((s.port p).link = .up → ∃ x t, exec (.activityTimerExpiry p) s = .next t ∧
      t = (s.withPort p x).setFlag .linkDown ∧ x.link = .down ∧ x.egress = [] ∧ x.inFlight = none ∧
      x.activityLeft = 20 ∧
      x.counters.linkDiscard.toNat = min 65535 ((s.port p).counters.linkDiscard.toNat + (s.port p).toSend.length) ∧
      x.seen = (s.port p).seen ∧ x.ingress = (s.port p).ingress)

/-- Idle markers and transmissions (R4, R14): an expiry of a running idle timer sends a marker; a
marker's end lets a waiting frame start; a transmission's end counts a forwarded frame and starts the
next frame, or the idle timer. -/
def Obligations.TransmissionsFollowOneAnother : Prop :=
  ∀ (p : Line) (s : State),
    ((s.port p).idleLeft.isSome = true →
      exec (.idleTimerExpiry p) s = .next (s.withPort p { s.port p with marker := true, idleLeft := some 5 })) ∧
    (∀ e rest, (s.port p).link = .up → (s.port p).inFlight = none → (s.port p).egress = e :: rest →
      exec (.idleMarkerEnd p) s =
        .next (s.withPort p { s.port p with marker := false, inFlight := some e, egress := rest })) ∧
    (∀ e, (s.port p).inFlight = some e → ∃ t, exec (.transmissionEnd p) s = .next t ∧
      (t.port p).counters.forwarded =
        (if e.origin = .forward then satInc (s.port p).counters.forwarded else (s.port p).counters.forwarded) ∧
      ((s.port p).egress = [] → (t.port p).inFlight = none ∧ (t.port p).idleLeft = some 5) ∧
      (∀ y rest, (s.port p).egress = y :: rest → (s.port p).link = .up → (s.port p).marker = false →
        (t.port p).inFlight = some y ∧ (t.port p).egress = rest) ∧
      s.withPort p (t.port p) = t)

/-- The frame layout drops no field and admits no second spelling (R7, R204): decoding an encoded frame
gives it back, and accepted bytes are the encoding of the frame read from them. -/
def Obligations.FrameLayoutRoundTrips : Prop :=
  (∀ f : Frame, f.WellFormed → acceptFrame f.encode = some f) ∧
  (∀ (bytes : List Byte) (f : Frame), acceptFrame bytes = some f → f.encode = bytes ∧ f.WellFormed)

/-! ### Classifier and signal table (chapter 2) -/

/-- The classifier's windows decide a PROCESS frame (R19, R21, R22, R27, R28): the first window that hits
stores it, sets SLOT_RANGE, or discards it; with no hit it is discarded, as every PROCESS frame is in
STANDBY and FAILED. A stored value that is shorter than the slot's bindings require leaves the slot STALE
with SLOT_SHORT set, any other leaves it FRESH; one above 8 bytes is cut with SLOT_TRUNC set. The longest
required length counts the bindings of absent units too (log 21). A slot left FRESH, and one that a short update
takes to STALE, then delivers its event (R27, R28, R34), after SLOT_SHORT is set (the model's choice, log 56). -/
def Obligations.WindowsDecideFrames : Prop :=
  ∀ (p : Line) (s : State) (f : Frame) (rest : List Frame), (s.port p).handed = f :: rest → f.kind = .process →
    (s.mcr.mode = .standby ∨ s.mcr.mode = .failed →
      exec (.classifyFrame p) s = .next (s.withPort p { s.port p with handed := rest })) ∧
    (s.mcr.mode ≠ .standby → s.mcr.mode ≠ .failed →
      (∀ w, s.fcl.windows.find? (fun w => w.enabled && (f.id &&& w.idMask == w.idBase &&& w.idMask)) = some w →
        (w.action = .ignore →
          exec (.classifyFrame p) s = .next (s.withPort p { s.port p with handed := rest })) ∧
        (w.action = .consume → 128 ≤ w.slotBase + (f.id &&& ~~~ w.idMask).toNat →
          exec (.classifyFrame p) s = .next ((s.withPort p { s.port p with handed := rest }).setFlag .slotRange)) ∧
        (∀ i short, w.action = .consume → i = w.slotBase + (f.id &&& ~~~ w.idMask).toNat → i < 128 →
          short = decide (min 8 f.payload.length < s.requiredLength i) →
          ∃ t, exec (.classifyFrame p) s = .next t ∧
            t.sgt = { s.sgt with
              slots := s.sgt.slots.set i
                ⟨f.payload.take 8, some f.src, (if short then .stale else .fresh), 0, w.limit,
                  (s.sgt.slot i).updates + 1⟩ } ∧
            (short = true → t.efn.isSet .slotShort = true) ∧
            (8 < f.payload.length → t.efn.isSet .slotTrunc = true) ∧
            (short = true → (s.sgt.slot i).state = .stale →
              t.sru = s.sru ∧ t.rsl = s.rsl ∧ t.ssq = s.ssq) ∧
            (∀ u : State, u = (s.withPort p { s.port p with handed := rest }).withSgt t.sgt → f.payload.length ≤ 8 →
              (short = false → t = u.slotEvent i) ∧
              (short = true → (s.sgt.slot i).state ≠ .stale → t = (u.setFlag .slotShort).slotEvent i)) ∧
            t.fcl = s.fcl ∧ t.dci = s.dci ∧ t.rtu = s.rtu ∧ t.tlk = s.tlk)) ∧
      (s.fcl.windows.find? (fun w => w.enabled && (f.id &&& w.idMask == w.idBase &&& w.idMask)) = none →
        exec (.classifyFrame p) s = .next (s.withPort p { s.port p with handed := rest })))

/-- MANAGE frames wait in the request queue or are dropped with MGMT_OVERRUN; RESPONSE and NOTIFY
frames have no effect (R19, R24). -/
def Obligations.RequestsQueueUp : Prop :=
  ∀ (p : Line) (s : State) (f : Frame) (rest : List Frame), (s.port p).handed = f :: rest →
    (f.kind = .manage → s.fcl.requests.length < 4 → exec (.classifyFrame p) s =
      .next ((s.withPort p { s.port p with handed := rest }).withFcl
        { s.fcl with requests := s.fcl.requests ++
            [⟨f.src, f.id.extractLsb' 8 8, f.id.extractLsb' 0 8, f.payload⟩] })) ∧
    (f.kind = .manage → 4 ≤ s.fcl.requests.length → exec (.classifyFrame p) s =
      .next ((s.withPort p { s.port p with handed := rest }).setFlag .mgmtOverrun)) ∧
    (f.kind = .response ∨ f.kind = .notify → exec (.classifyFrame p) s =
      .next (s.withPort p { s.port p with handed := rest }))

/-- An age tick outside STEP ages every slot, marks the ones that reach their limit STALE, notes the
highest of them in the last-stale item and sets SLOT_STALE; in STEP only the timer restarts (R29, R31). A slot
that alone goes stale delivers its event (R29, R34), before SLOT_STALE is set (the model's choice, log 22). -/
def Obligations.AgeTickAgesSlots : Prop :=
  ∀ s : State,
    (s.mcr.mode = .step → exec .ageTick s = .next (s.withSgt { s.sgt with tickLeft := 20 })) ∧
    (s.mcr.mode ≠ .step → ∃ t, exec .ageTick s = .next t ∧ t.sgt.tickLeft = 20 ∧
      t.sgt.slots.length = s.sgt.slots.length ∧
      (∀ (i : Nat) (x : Slot), s.sgt.slots[i]? = some x → ∃ y, t.sgt.slots[i]? = some y ∧
        y.value = x.value ∧ y.source = x.source ∧ y.limit = x.limit ∧ y.updates = x.updates ∧
        (x.state = .never → y = x) ∧
        (x.state ≠ .never → y.age = min 255 (x.age + 1)) ∧
        (x.state = .stale → y.state = .stale) ∧
        (x.state = .fresh → (y.state = .stale ↔ x.limit ≤ min 255 (x.age + 1)) ∧ y.state ≠ .never)) ∧
      ((∀ x ∈ s.sgt.slots, x.state = .fresh → min 255 (x.age + 1) < x.limit) →
        t = s.withSgt { t.sgt with lastStale := s.sgt.lastStale }) ∧
      (∀ (i : Nat) (x : Slot), s.sgt.slots[i]? = some x → x.state = .fresh → x.limit ≤ min 255 (x.age + 1) →
        (∀ (j : Nat) (y : Slot), i < j → s.sgt.slots[j]? = some y → y.state = .fresh → min 255 (y.age + 1) < y.limit) →
          t.sgt.lastStale = some i ∧ t.efn.isSet .slotStale = true ∧
          ((∀ (j : Nat) (y : Slot), j < i → s.sgt.slots[j]? = some y → y.state = .fresh → min 255 (y.age + 1) < y.limit) →
            t = ((s.withSgt t.sgt).slotEvent i).setFlag .slotStale)))

/-! ### Desk (chapter 3) -/

/-- The layouts of the desk chain, the track link and SETPOINT (R37, R128, R205, R209, R210): a scan's inputs
and clamped 11-bit handle, the trackside's telegrams, the 10 bytes of the part's own REQUEST, the 14 bytes of
SETPOINT. A direction is 0 L, 1 S, 2 R, and a CONFIRM's state 0 SET_LOCKED, 1 SET_MOVING, 2 REFUSED.
That the handle is two's complement at every count, 7FFh with the rest, is R210's rule against its closing
sentence, which would read 7FFh as +1023 (the model's choice, log 44). -/
def Obligations.LayoutsAreReadAndWritten : Prop :=
  (∀ (w : Word) (h : Half),
     acceptScan (word4 w ++ half2 h ++ [sum8 (word4 w ++ half2 h)]) =
       some (w, max (-1000) (min 1000 (h.extractLsb' 0 11).toInt))) ∧
  (∀ (j tram : Half) (q : Byte) (n : Nat) (d : PointDir) (c : ConfirmState) (dir st : Byte), n < 256 →
     (d = .l ∧ dir = 0 ∨ d = .s ∧ dir = 1 ∨ d = .r ∧ dir = 2) →
     (c = .setLocked ∧ st = 0 ∨ c = .setMoving ∧ st = 1 ∨ c = .refused ∧ st = 2) →
     acceptTelegram ([1] ++ half2 j ++ [BitVec.ofNat 8 n] ++ [xor8 ([1] ++ half2 j ++ [BitVec.ofNat 8 n])]) =
       some (.approach j n) ∧
     acceptTelegram ([2] ++ half2 j ++ [xor8 ([2] ++ half2 j)]) = some (.clear j) ∧
     acceptTelegram ([3] ++ half2 j ++ half2 tram ++ [q, dir, st] ++
       [xor8 ([3] ++ half2 j ++ half2 tram ++ [q, dir, st])]) = some (.confirm j tram q d c)) ∧
  (∀ (r : PointRequest) (dir : Byte) (body : List Byte),
     (r.dir = .l ∧ dir = 0 ∨ r.dir = .s ∧ dir = 1 ∨ r.dir = .r ∧ dir = 2) →
     body = [4] ++ half2 r.tram ++ half2 r.junction ++ [dir, r.seq] ++ half2 (BitVec.ofNat 16 r.route) →
       r.encode = body ++ [xor8 body] ∧ r.encode.length = 10 ∧ acceptTelegram r.encode = some .request) ∧
  (∀ (d : Direction) (u0 u1 u2 u3 : Int) (mech deficit : Nat) (e h o : Bool),
     setpointPayload d [u0, u1, u2, u3] mech e h o deficit =
       [BitVec.ofNat 8 (match d with | .fwd => 0 | .rev => 1 | .neutral => 2)] ++ half2 (BitVec.ofInt 16 u0) ++
         half2 (BitVec.ofInt 16 u1) ++ half2 (BitVec.ofInt 16 u2) ++ half2 (BitVec.ofInt 16 u3) ++
         half2 (BitVec.ofNat 16 mech) ++
         [(if e then 1 else 0) ||| (if h then 2 else 0) ||| (if o then 4 else 0)] ++ half2 (BitVec.ofNat 16 deficit))

/-- A scan that ends after the expiry that closed its exchange (that it is late is said with the command, log 64),
or with no exchange open, is discarded unread, and all stays as it was (R37). Any other scan is judged: a bad scan in
an open exchange is counted; the first two of a run change nothing else, the third takes the
desk LOST, and DESK_LOST stays set unless a hold thereby completed ends in STANDBY; in LOST it ends the good
run (R37, R39, R40). A good scan outside STANDBY stores the image, the handle and the held key (R38, R45),
closes the exchange, and ends a bad run in OK or counts a good one in LOST (R41, R42). In OK and a mode that
serves the desk it delivers its levels and handle, and a press of one button to that button's block (R44); a
scan that turns the key off at standstill may enter STANDBY before those deliveries (R200), in an order that
R44 leaves open (log 6), and is left out of that clause. A pull of the emergency handle raises HANDLE as
EMERGENCY and its release lifts it (R65; the order of its flags is log 51's), and DEADMAN held clears the
vigilance timer and lifts VIGIL (R64). The loss of the desk delivers the safe view and raises DESK with the kind
that R43 chooses, which becomes the kind last raised; the recovery delivers the stored view, lifts DESK and sets
DESK_OK (R40, R42, R43); in the modes that do not serve the desk DESK is left alone. That the recovery's scan clears
the kind last raised where it enters STANDBY is R94's, which the model takes before R46 (log 47). -/
def Obligations.ScansAreJudged : Prop :=
  (∀ (s : State) (scan : ScanArrival), scan.late = true ∨ s.dci.exchangeOpen = false →
     exec (.scanArrivalEnd scan) s = .next s) ∧
  (∀ (s : State) (bytes : List Byte), s.dci.exchangeOpen = true → acceptScan bytes = none →
     (s.dci.state = .ok → s.dci.badRun < 2 → exec (.scanArrivalEnd ⟨bytes, false⟩) s =
       .next (s.withDci { s.dci with
         exchangeOpen := false, badScans := satInc s.dci.badScans, badRun := s.dci.badRun + 1 })) ∧
     (s.dci.state = .ok → s.dci.badRun = 2 → ∃ t, exec (.scanArrivalEnd ⟨bytes, false⟩) s = .next t ∧
       t.dci.state = .lost ∧ t.dci.badScans = satInc s.dci.badScans ∧ t.dci.image = s.dci.image ∧
       (s.dci.heldKey = true ∨ s.mcr.mode ≠ .holdPending → t.efn.isSet .deskLost = true ∧
         (∀ k, s.mcr.mode.active = true → s.DeskKindIs k → t.dci.raised = some k ∧ deskStands s.rsl t.rsl k) ∧
         (s.mcr.mode.active = true →
           s.tdu.inputs = ⟨s.dci.handle, s.dci.image.getLsbD 1, s.dci.image.getLsbD 2, s.dci.image.getLsbD 3,
             s.dci.image.getLsbD 4⟩ → s.ssq.hornLevel = s.dci.image.getLsbD 5 →
             t.tdu.inputs = ⟨0, false, false, false, false⟩ ∧ t.ssq.hornLevel = false) ∧
         (s.mcr.mode.active = false → t.rsl = s.rsl ∧ t.dci.raised = s.dci.raised ∧ t.tdu = s.tdu))) ∧
     (s.dci.state = .lost → exec (.scanArrivalEnd ⟨bytes, false⟩) s =
       .next (s.withDci { s.dci with exchangeOpen := false, badScans := satInc s.dci.badScans, goodRun := 0 }))) ∧
  (∀ (s : State) (bytes : List Byte) (image : Word) (handle : Int),
     s.dci.exchangeOpen = true → acceptScan bytes = some (image, handle) → s.mcr.mode ≠ .standby →
       ∃ t, exec (.scanArrivalEnd ⟨bytes, false⟩) s = .next t ∧ t.dci.image = image ∧ t.dci.handle = handle ∧
         t.dci.heldKey = image.getLsbD 0 ∧ t.dci.exchangeOpen = false ∧ t.dci.badScans = s.dci.badScans ∧
         (s.dci.state = .ok → t.dci.state = .ok ∧ t.dci.badRun = 0) ∧
         (s.dci.state = .lost → s.dci.goodRun < 4 → t.dci.state = .lost ∧ t.dci.goodRun = s.dci.goodRun + 1) ∧
         (s.dci.state = .lost → s.dci.goodRun = 4 → t.dci.state = .ok ∧ t.dci.badRun = 0 ∧ t.dci.goodRun = 0 ∧
           t.dci.raised = (if t.mcr.mode = .standby then none else s.dci.raised) ∧
           (s.mcr.mode.active = true → s.Distinct →
             ∀ e ∈ t.rsl, e.source = .desk → e.key = 0 → e.kind = .emergency true) ∧
           ((s.dci.heldKey = false ∨ image.getLsbD 0 = true ∨ ¬ s.still ∨
               (s.mcr.mode ≠ .service ∧ s.mcr.mode ≠ .holdPending ∧ s.mcr.mode ≠ .hold)) →
             t.efn.isSet .deskOk = true ∧
             (s.mcr.mode.active = true → s.tdu.inputs = ⟨0, false, false, false, false⟩ → s.ssq.hornLevel = false →
               t.tdu.inputs = ⟨handle, image.getLsbD 1, image.getLsbD 2, image.getLsbD 3, image.getLsbD 4⟩ ∧
                 t.ssq.hornLevel = image.getLsbD 5) ∧
             (s.mcr.mode.active = false → t.rsl = s.rsl ∧ t.tdu = s.tdu))) ∧
         (s.dci.state = .ok → s.mcr.mode.active = true →
           (s.dci.heldKey = false ∨ image.getLsbD 0 = true ∨ ¬ s.still ∨ s.mcr.mode = .configure ∨ s.mcr.mode = .step) →
           s.tdu.inputs = ⟨s.dci.handle, s.dci.image.getLsbD 1, s.dci.image.getLsbD 2, s.dci.image.getLsbD 3,
             s.dci.image.getLsbD 4⟩ → s.ssq.hornLevel = s.dci.image.getLsbD 5 →
             t.tdu.inputs = ⟨handle, image.getLsbD 1, image.getLsbD 2, image.getLsbD 3, image.getLsbD 4⟩ ∧
               t.ssq.hornLevel = image.getLsbD 5)) ∧
  (∀ (s u : State) (bytes : List Byte) (b : Nat), s.dci.exchangeOpen = true → s.dci.state = .ok →
     s.mcr.mode.active = true → s.mcr.mode ≠ .holdPending → s.dci.heldKey = s.dci.image.getLsbD 0 →
     s.dci.image.getLsbD b = false → acceptScan bytes = some (s.dci.image ||| BitVec.twoPow 32 b, s.dci.handle) →
     u = (s.withDci { s.dci with
       exchangeOpen := false, badRun := 0, image := s.dci.image ||| BitVec.twoPow 32 b }).bumpFree →
       (b = 1 → ∃ v : State,
         v = u.withTdu { u.tdu with inputs := { u.tdu.inputs with deadman := true }, vigil := 0, vigilOn := false } ∧
         exec (.scanArrivalEnd ⟨bytes, false⟩) s = .next
           (if s.tdu.marks.vigil then
             (v.withTdu { v.tdu with marks := { v.tdu.marks with vigil := false } }).lift .vigil 0
           else v)) ∧
       (b = 2 → exec (.scanArrivalEnd ⟨bytes, false⟩) s = .next
         (((u.withTdu { u.tdu with
           inputs := { u.tdu.inputs with handleEmerg := true }
           marks := { u.tdu.marks with handle := true } }).raise .handle 0 (.emergency false)).setFlag .handleEmerg)) ∧
       (b = 5 → exec (.scanArrivalEnd ⟨bytes, false⟩) s =
         .next (u.withSsq { u.ssq with hornLevel := true }).hornPress) ∧
       (b = 6 → exec (.scanArrivalEnd ⟨bytes, false⟩) s =
         .next (u.soundRequest .bell ⟨s.ssq.items.driverBellPat, .driver, 3⟩)) ∧
       (b = 7 → exec (.scanArrivalEnd ⟨bytes, false⟩) s = .next (u.routeButton .l)) ∧
       (b = 8 → exec (.scanArrivalEnd ⟨bytes, false⟩) s = .next (u.routeButton .s)) ∧
       (b = 9 → exec (.scanArrivalEnd ⟨bytes, false⟩) s = .next (u.routeButton .r)) ∧
       (b = 10 → exec (.scanArrivalEnd ⟨bytes, false⟩) s = .next u.proceedPress) ∧
       (b = 11 → exec (.scanArrivalEnd ⟨bytes, false⟩) s = .next (u.doorReleasePress .left)) ∧
       (b = 12 → exec (.scanArrivalEnd ⟨bytes, false⟩) s = .next (u.doorReleasePress .right)) ∧
       (b = 13 → exec (.scanArrivalEnd ⟨bytes, false⟩) s = .next u.doorClosePress) ∧
       (b = 14 → exec (.scanArrivalEnd ⟨bytes, false⟩) s = .next u.stopCancelPress)) ∧
  (∀ (s u : State) (bytes : List Byte), s.dci.exchangeOpen = true → s.dci.state = .ok →
     s.mcr.mode.active = true → s.dci.heldKey = s.dci.image.getLsbD 0 → s.dci.image.getLsbD 2 = true →
     acceptScan bytes = some (s.dci.image &&& ~~~ BitVec.twoPow 32 2, s.dci.handle) →
     u = ((s.withDci { s.dci with
       exchangeOpen := false, badRun := 0, image := s.dci.image &&& ~~~ BitVec.twoPow 32 2 }).bumpFree).withTdu
         { s.tdu with inputs := { s.tdu.inputs with handleEmerg := false } } →
       exec (.scanArrivalEnd ⟨bytes, false⟩) s = .next
         (if s.tdu.marks.handle then
           (u.withTdu { u.tdu with marks := { u.tdu.marks with handle := false } }).lift .handle 0
         else u))

/-- A scan expiry restarts the scan timer, opens an exchange and shifts a lamp image out: every lamp under
lamp test, HOLD alone in STANDBY and FAILED, and in the other modes each lamp by its condition (R36, R47, R48,
R210); the EMERGENCY and HOLD lamps show the list with the DESK raise of this expiry in it (the model's choice,
log 36). An exchange still open counts as a bad scan: its run in OK, with the loss of the desk and DESK raised at
the third, and the end of a good run in LOST (R36, R39, R40). With the desk LOST, and the mode one that serves it,
DESK is raised where it has not been raised since a reset, and raised again as EMERGENCY where HOLD was the kind
last raised and R43 now chooses EMERGENCY; else the list stays (R41, R43, R46). -/
def Obligations.ScanExpiryShiftsLamps : Prop :=
  ∀ s : State, ∃ t, exec .scanTimerExpiry s = .next t ∧ t.dci.scanLeft = 20 ∧ t.dci.exchangeOpen = true ∧
    t.dci.image = s.dci.image ∧ t.dci.handle = s.dci.handle ∧ t.dci.heldKey = s.dci.heldKey ∧
    (s.dci.exchangeOpen = false → t.dci.state = s.dci.state ∧ t.dci.badScans = s.dci.badScans ∧
      t.dci.badRun = s.dci.badRun ∧ t.dci.goodRun = s.dci.goodRun) ∧
    (s.dci.exchangeOpen = true → t.dci.badScans = satInc s.dci.badScans ∧
      (s.dci.state = .ok → s.dci.badRun < 2 → t.dci.state = .ok ∧ t.dci.badRun = s.dci.badRun + 1) ∧
      (s.dci.state = .ok → s.dci.badRun = 2 → t.dci.state = .lost ∧ t.dci.badRun = 0 ∧ t.dci.goodRun = 0 ∧
        (s.dci.heldKey = true ∨ s.mcr.mode ≠ .holdPending → t.efn.isSet .deskLost = true ∧
          (∀ k, s.mcr.mode.active = true → s.DeskKindIs k → t.dci.raised = some k ∧ deskStands s.rsl t.rsl k) ∧
          (s.mcr.mode.active = false → t.rsl = s.rsl ∧ t.dci.raised = s.dci.raised))) ∧
      (s.dci.state = .lost → t.dci.state = .lost ∧ t.dci.goodRun = 0)) ∧
    (s.dci.state = .lost →
      (∀ k, s.mcr.mode.active = true → s.DeskKindIs k →
        (s.dci.raised = none ∨ (s.dci.raised = some .hold ∧ k = .emergency) → t.dci.raised = some k ∧
          t.rsl = (s.raise .desk 0 (match k with | .hold => .hold | .emergency => .emergency false)).rsl) ∧
        (s.dci.raised = some .emergency ∨ (s.dci.raised = some .hold ∧ k = .hold) →
          t.dci.raised = s.dci.raised ∧ t.rsl = s.rsl)) ∧
      (s.mcr.mode.active = false → t.dci.raised = s.dci.raised ∧ t.rsl = s.rsl)) ∧
    (t.dci.state = .ok → s.dci.image.getLsbD 15 = true → t.dci.lamps = BitVec.allOnes 32) ∧
    (t.dci.state = .ok → s.dci.image.getLsbD 15 = false → (s.mcr.mode = .standby ∨ s.mcr.mode = .failed) →
      t.dci.lamps = BitVec.twoPow 32 12) ∧
    (t.dci.state = .lost → (s.mcr.mode = .standby ∨ s.mcr.mode = .failed) → t.dci.lamps = BitVec.twoPow 32 12) ∧
    (t.dci.state = .lost ∨ s.dci.image.getLsbD 15 = false → s.mcr.mode ≠ .standby → s.mcr.mode ≠ .failed →
      (t.dci.lamps.getLsbD 0 = true ↔ ∃ x ∈ s.sru.list, x.kind = .normal) ∧
      (t.dci.lamps.getLsbD 1 = true ↔ ∃ x ∈ s.sru.list, x.kind = .assist) ∧
      (t.dci.lamps.getLsbD 2 = true ↔ s.sru.door = .released) ∧
      (t.dci.lamps.getLsbD 3 = true ↔
        ∃ h, s.rtu.queue.head? = some h ∧ (h.state = .requesting ∨ h.state = .awaitDriver)) ∧
      (t.dci.lamps.getLsbD 4 = true ↔ ∃ h, s.rtu.queue.head? = some h ∧ h.state = .confirmed) ∧
      (t.dci.lamps.getLsbD 5 = true ↔ ∃ x ∈ s.rtu.queue, x.state = .unconfirmed ∨ x.state = .proceed) ∧
      (t.dci.lamps.getLsbD 6 = true ↔ ∃ h, s.rtu.queue.head? = some h ∧ h.state = .confirmed ∧ h.dir = some .l) ∧
      (t.dci.lamps.getLsbD 7 = true ↔ ∃ h, s.rtu.queue.head? = some h ∧ h.state = .confirmed ∧ h.dir = some .s) ∧
      (t.dci.lamps.getLsbD 8 = true ↔ ∃ h, s.rtu.queue.head? = some h ∧ h.state = .confirmed ∧ h.dir = some .r) ∧
      (t.dci.lamps.getLsbD 9 = true ↔ s.tdu.overspeed = true) ∧
      (t.dci.lamps.getLsbD 10 = true ↔ s.tdu.items.vigilWarn ≤ s.tdu.vigil) ∧
      (t.mcr.mode = s.mcr.mode →
        (t.dci.lamps.getLsbD 11 = true ↔ ∃ e ∈ t.rsl, ∃ l, e.kind = .emergency l) ∧
        (t.dci.lamps.getLsbD 12 = true ↔ ∃ e ∈ t.rsl, e.kind = .hold)) ∧
      (t.dci.lamps.getLsbD 13 = true ↔ s.tdu.unitsDegraded = true) ∧
      (t.dci.lamps.getLsbD 14 = true ↔ (s.port .a).link = .down ∨ (s.port .b).link = .down) ∧
      (t.dci.lamps.getLsbD 15 = true ↔ s.tlk.condition = .fault) ∧
      ∀ n, 16 ≤ n → t.dci.lamps.getLsbD n = false)

/-! ### Traction (chapter 4) -/

/-- A control period restarts its timer and counts; in STARTING, FAILED and STANDBY it does nothing else and
so sends no frame (R50, R75). In CONFIGURE, HOLD and STEP it keeps the command, the slip states and the step
record and sends the hold setpoint, with the EMERGENCY flag and the larger of the two brakes while the list has
an EMERGENCY, lift requested or not (R52). -/
def Obligations.ControlPeriodCounts : Prop :=
  ∀ s : State, ∃ t, exec .controlPeriod s = .next t ∧ t.tdu.periodLeft = 20 ∧
    t.tdu.periodCount = s.tdu.periodCount + 1 ∧
    ((s.mcr.mode = .starting ∨ s.mcr.mode = .failed ∨ s.mcr.mode = .standby) →
      t = (s.withTdu { s.tdu with periodLeft := 20, periodCount := s.tdu.periodCount + 1 }).withEnv t.env) ∧
    ((s.mcr.mode = .configure ∨ s.mcr.mode = .hold ∨ s.mcr.mode = .step) →
      t.tdu.eCmd = s.tdu.eCmd ∧ t.tdu.slips = s.tdu.slips ∧ t.tdu.record = s.tdu.record ∧ t.tdu.held = s.tdu.held ∧
        t.tdu.overspeed = s.tdu.overspeed ∧ t.tdu.unitsDegraded = s.tdu.unitsDegraded ∧
        ∃ emergency : Bool,
          s.sendsTo t s.tdu.items.setpointId (setpointPayload s.tdu.held [0, 0, 0, 0]
            (if emergency then max s.tdu.items.holdBrake s.tdu.items.emergBrake else s.tdu.items.holdBrake)
            emergency true false 0) ∧
          (t.mcr.mode = s.mcr.mode → (emergency = true ↔ ∃ e ∈ t.rsl, ∃ l, e.kind = .emergency l)) ∧
          ((∃ e ∈ s.rsl, e.source ≠ .speedLost ∧ e.kind = .emergency false) → emergency = true)) ∧
    (s.mcr.mode = .step → t.tdu.speed = s.tdu.speed ∧ t.tdu.odometer = s.tdu.odometer ∧ t.rsl = s.rsl)

/-- A computed period (R50, R66, R73, R77): the new command follows the jerk limit from the old one, the step
record holds the period, and no unit is given power when the record has HOLD or EMERGENCY, an unknown v, v at
the cap, or the direction NEUTRAL. The summary (R61): the record has HOLD or EMERGENCY, and a cap no higher than
the entry's, for every entry of the list but those that the period itself may lift, SPEED_LOST, BRAKE, and an
EMERGENCY whose lift is requested; and it has no HOLD, EMERGENCY or cap that no entry stands for. Stage 1: the
direction is the desk's at standstill and stays else, with DIR_HELD for a refused change and the junctions
abandoned at a reversal (R56), and the target follows the handle, the dead band and the limbs of the ACTIVE curve
at v or last known v (R57, R54). Units and slip factors are those of stage 4 (R70 to R74). BRAKE is raised as CAP
250 and lifted by the brake's status (R60), UNITS_LOST is raised as HOLD and lifted by the available weight (R69).
With the key on the record's speed and direction are those that the period leaves. The SETPOINT frame that is sent
carries the record's direction, published shares, mechanical brake demand, flags and deficit (R75). When it is made
(`w`), no share in it is positive while the list holds a HOLD or EMERGENCY entry, and a positive one only with v known
and below every CAP of the list (R73); the list holds by then all that the period leaves there of DOORS, SPEED_LOST,
UNITS_LOST, BRAKE, HANDLE and DESK. That a VIGIL raise of the period is not in its summary is log 13's, that it follows
the frame log 62's, that the reversal is taken in the same command log 14's, and a byte that a short value lacks is
free (log 7). -/
def Obligations.NoPowerUnderRestriction : Prop :=
  ∀ (s u : State) (desk : Direction), s.mcr.mode = .service ∨ s.mcr.mode = .holdPending →
    u = (s.withTdu { s.tdu with periodLeft := 20, periodCount := s.tdu.periodCount + 1 }).bumpFree →
    (desk = .fwd ↔ s.tdu.inputs.dirFwd = true ∧ s.tdu.inputs.dirRev = false) →
    (desk = .rev ↔ s.tdu.inputs.dirFwd = false ∧ s.tdu.inputs.dirRev = true) →
    ∃ t r, exec .controlPeriod s = .next t ∧ t.tdu.record = some r ∧ r.period = s.tdu.periodCount + 1 ∧
      r.stepped = false ∧ r.cmdOld = s.tdu.eCmd ∧ t.tdu.eCmd = r.cmd ∧
      r.cmd = limitJerk s.tdu.items r.emergency s.tdu.eCmd r.target2 ∧
      r.target2 = cutBack s.tdu.items r.speed ⟨r.cap, r.hold, r.emergency⟩ r.target1 ∧
      (∀ e ∈ s.rsl, e.source ≠ .speedLost → e.source ≠ .brake →
        (e.kind = .hold → r.hold = true) ∧ (e.kind = .emergency false → r.emergency = true) ∧
          ∀ v, e.kind = .cap v → r.cap ≤ v) ∧
      (r.hold = true → (∃ e ∈ s.rsl, e.kind = .hold) ∨ r.speed = none) ∧
      (r.emergency = true → ∃ e ∈ s.rsl, ∃ l, e.kind = .emergency l) ∧
      (r.cap = 1500 ∨ (r.cap = 250 ∧ s.tdu.marks.brake = false) ∨ ∃ e ∈ s.rsl, e.kind = .cap r.cap) ∧
      (s.dci.heldKey = true → r.speed = t.tdu.speed ∧ r.held = t.tdu.held) ∧
      r.speed = u.findSpeed.tdu.speed ∧ r.handle = s.tdu.inputs.handle ∧ t.tdu.prevDesk = desk ∧
      ((∃ x, r.speed = some x ∧ x.v ≤ 3) → r.held = desk) ∧
      ((r.speed = none ∨ ∃ x, r.speed = some x ∧ 3 < x.v) → r.held = s.tdu.held ∧
        (s.dci.heldKey = true → desk ≠ s.tdu.held → desk ≠ s.tdu.prevDesk → t.efn.isSet .dirHeld = true)) ∧
      (r.held = s.tdu.held ∨ r.held = .neutral → t.tdu.lastTravel = s.tdu.lastTravel) ∧
      (r.held ≠ s.tdu.held → r.held ≠ .neutral → t.tdu.lastTravel = some r.held ∧
        (s.tdu.lastTravel ≠ none → s.tdu.lastTravel ≠ some r.held → t.rtu.queue = [])) ∧
      (∀ x power brake : Nat, x = (match r.speed with | some y => y.v | none => s.tdu.lastV) →
        power = (if s.tdu.curveActive.valid = true then evalLimb s.tdu.curveActive.power x else 0) →
        brake = (if s.tdu.curveActive.valid = true then evalLimb s.tdu.curveActive.brake x else 0) →
          ((s.tdu.items.deadBand : Int) < r.handle → r.held ≠ .neutral →
            r.target1 = Int.tdiv (r.handle * power) 1000 ∧ r.limb = some (.power, power)) ∧
          ((s.tdu.items.deadBand : Int) < r.handle → r.held = .neutral → r.target1 = 0 ∧ r.limb = none) ∧
          (r.handle < -(s.tdu.items.deadBand : Int) →
            r.target1 = -Int.tdiv ((r.handle.natAbs : Int) * brake) 1000 ∧ r.limb = some (.brake, brake)) ∧
          (-(s.tdu.items.deadBand : Int) ≤ r.handle → r.handle ≤ s.tdu.items.deadBand →
            r.target1 = 0 ∧ r.limb = none)) ∧
      r.weight = totalWeight u.viewUnits ∧
      r.units = (allocateUnits s.tdu.items r.speed r.cmd r.cut u.viewUnits s.tdu.slips).map (·.1) ∧
      t.tdu.slips = (allocateUnits s.tdu.items r.speed r.cmd r.cut u.viewUnits s.tdu.slips).map (·.2) ∧
      r.deficit = deficitOf r.cmd r.units ∧ r.mech = mechDemand r.cmd r.deficit ∧
      (∀ healthy : Bool, (healthy = true ↔ ∀ i, s.sgt.brakeSlot = some i →
          (s.sgt.slot i).state = .fresh ∧ ∃ b, u.slotBytes i 1 = [b] ∧ b.getLsbD 0 = true) → s.dci.heldKey = true →
        t.tdu.marks.brake = !healthy ∧
        (healthy = false → s.tdu.marks.brake = false → t.efn.isSet .brakeFault = true ∧
          (findRestriction s.rsl .brake 0 = none → r.cap ≤ 250 ∧ standsAs t.rsl .brake (.cap 250))) ∧
        (healthy = true → s.tdu.marks.brake = true → s.Distinct → s.KeysZero → onlyCap s.rsl .brake →
          ∀ e ∈ t.rsl, e.source ≠ .brake) ∧
        (s.tdu.marks.brake = !healthy → onlyCap s.rsl .brake → ∀ e, e.source = .brake → (e ∈ t.rsl ↔ e ∈ s.rsl))) ∧
      (s.dci.heldKey = true →
        t.tdu.marks.unitsLost = decide (r.weight = 0) ∧
        (r.weight = 0 → s.tdu.marks.unitsLost = false → t.efn.isSet .unitsLost = true ∧
          (findRestriction s.rsl .unitsLost 0 = none → standsAs t.rsl .unitsLost .hold)) ∧
        (r.weight ≠ 0 → s.tdu.marks.unitsLost = true → s.Distinct → s.KeysZero → onlyHold s.rsl .unitsLost →
          ∀ e ∈ t.rsl, e.source ≠ .unitsLost) ∧
        (s.tdu.marks.unitsLost = decide (r.weight = 0) → onlyHold s.rsl .unitsLost →
          ∀ e, e.source = .unitsLost → (e ∈ t.rsl ↔ e ∈ s.rsl))) ∧
      s.sendsTo t s.tdu.items.setpointId
        (setpointPayload r.held (r.units.map (·.published)) r.mech r.emergency r.hold r.overspeed r.deficit) ∧
      ((r.hold = true ∨ r.emergency = true ∨ r.speed = none ∨ r.held = .neutral ∨
          (∃ x, r.speed = some x ∧ r.cap ≤ x.v)) → ∀ u ∈ r.units, u.published ≤ 0) ∧
      ∃ w : State, w.tdu.record = some r ∧
        s.sendsTo w s.tdu.items.setpointId
          (setpointPayload r.held (r.units.map (·.published)) r.mech r.emergency r.hold r.overspeed r.deficit) ∧
        ((∃ e ∈ w.rsl, e.kind = .hold ∨ ∃ l, e.kind = .emergency l) → ∀ u ∈ r.units, u.published ≤ 0) ∧
        (∀ u ∈ r.units, 0 < u.published →
          ∃ x, r.speed = some x ∧ ∀ e ∈ w.rsl, ∀ c, e.kind = .cap c → x.v < c) ∧
        (∀ e ∈ w.rsl, e.source = .vigil → e ∈ s.rsl) ∧
        (∀ e ∈ t.rsl, e.source = .doors ∨ e.source = .speedLost ∨ e.source = .unitsLost ∨ e.source = .brake ∨
          e.source = .handle ∨ e.source = .desk → e ∈ w.rsl)

/-- Stage 0 takes the highest and lowest fresh axle speeds (R53), and the odometer loses nothing (R55): nine
times the millimetres added and the new remainder make the old remainder and five times v. A unit's slots are read
as R33 says: an axle speed of a present unit whose axle slot is FRESH, at most 1500, a status READY, a capability
at most 1000; bytes that a short value lacks are free (log 7). In the modes that evaluate the speed, with the key
on, a period that loses it raises SPEED_LOST as HOLD with its flag, one that finds it again lifts it, and any other
leaves it (R54). -/
def Obligations.SpeedAndOdometer : Prop :=
  (∀ (s : State) (i n : Nat), n ≤ (s.sgt.slot i).value.length → s.slotBytes i n = (s.sgt.slot i).value.take n) ∧
  (∀ (s : State) (x : UnitEntry),
     (∀ i b1 b0, x.present = true → x.axle = some i → (s.sgt.slot i).state = .fresh → s.slotBytes i 2 = [b1, b0] →
       s.axleSpeed x = some (min 1500 (256 * b1.toNat + b0.toNat))) ∧
     (x.present = false ∨ x.axle = none ∨ (∃ i, x.axle = some i ∧ (s.sgt.slot i).state ≠ .fresh) →
       s.axleSpeed x = none) ∧
     (s.viewUnit x).entry = x ∧ (s.viewUnit x).axle = s.axleSpeed x ∧
     (x.status = none → (s.viewUnit x).ready = false) ∧
     (∀ i b2 b1 b0, x.status = some i → s.slotBytes i 3 = [b2, b1, b0] →
       ((s.viewUnit x).ready = true ↔ (s.sgt.slot i).state = .fresh ∧ b2 = 0) ∧
       (s.viewUnit x).capability = min 1000 (256 * b1.toNat + b0.toNat))) ∧
  (∀ s u t : State, s.dci.heldKey = true →
     (s.mcr.mode = .configure ∨ s.mcr.mode = .service ∨ s.mcr.mode = .holdPending ∨ s.mcr.mode = .hold) →
     u = (s.withTdu { s.tdu with periodLeft := 20, periodCount := s.tdu.periodCount + 1 }).bumpFree →
     exec .controlPeriod s = .next t →
       t.tdu.speed = u.findSpeed.tdu.speed ∧ t.tdu.lastV = u.findSpeed.tdu.lastV ∧
       t.tdu.marks.speedLost = decide (t.tdu.speed = none) ∧
       (t.tdu.speed = none → s.tdu.marks.speedLost = false → t.efn.isSet .speedLost = true ∧
         (findRestriction s.rsl .speedLost 0 = none → standsAs t.rsl .speedLost .hold)) ∧
       (t.tdu.speed ≠ none → s.tdu.marks.speedLost = true → s.Distinct → s.KeysZero → onlyHold s.rsl .speedLost →
         ∀ e ∈ t.rsl, e.source ≠ .speedLost) ∧
       (s.tdu.marks.speedLost = decide (t.tdu.speed = none) → onlyHold s.rsl .speedLost →
         ∀ e, e.source = .speedLost → (e ∈ t.rsl ↔ e ∈ s.rsl))) ∧
  (∀ s : State,
     (s.tdu.units.filterMap s.axleSpeed = [] → s.findSpeed = s.withTdu { s.tdu with speed := none }) ∧
     (s.tdu.units.filterMap s.axleSpeed ≠ [] → ∃ x, s.findSpeed = s.withTdu { s.tdu with speed := some x, lastV := x.v } ∧
       x.v ∈ s.tdu.units.filterMap s.axleSpeed ∧ x.vMin ∈ s.tdu.units.filterMap s.axleSpeed ∧
       ∀ a ∈ s.tdu.units.filterMap s.axleSpeed, x.vMin ≤ a ∧ a ≤ x.v)) ∧
  (∀ s : State,
     (s.tdu.speed = none → s.advanceOdometer = (s, none)) ∧
     (∀ x, s.tdu.speed = some x → ∃ d t, s.advanceOdometer = (t, some d) ∧
       9 * d + t.tdu.acc9 = s.tdu.acc9 + 5 * x.v ∧ t.tdu.acc9 < 9 ∧
       t.tdu.odometer = s.tdu.odometer + BitVec.ofNat 32 d ∧
       t = s.withTdu { s.tdu with odometer := t.tdu.odometer, acc9 := t.tdu.acc9 }))

/-- A limb at a speed (R58): the first effort up to the first speed, the last effort from the last
speed on, the truncated interpolation between, always between its neighbours and within 0..1000. -/
def Obligations.LimbInterpolates : Prop :=
  ∀ (limb : List Breakpoint) (x : Nat), limb.length = 8 → x ≤ 1500 → (∀ b ∈ limb, b.effort ≤ 1000) →
    limb.Pairwise (fun a b => a.speed < b.speed) →
      (∀ a, limb.head? = some a → x ≤ a.speed → evalLimb limb x = a.effort) ∧
      (∀ b, limb.getLast? = some b → b.speed ≤ x → evalLimb limb x = b.effort) ∧
      (∀ (i : Nat) (lo hi : Breakpoint), limb[i]? = some lo → limb[i + 1]? = some hi → lo.speed ≤ x → x < hi.speed →
        (evalLimb limb x : Int) =
          lo.effort + Int.tdiv (((hi.effort : Int) - lo.effort) * ((x : Int) - lo.speed)) ((hi.speed : Int) - lo.speed) ∧
        min lo.effort hi.effort ≤ evalLimb limb x ∧ evalLimb limb x ≤ max lo.effort hi.effort) ∧
      (∀ b ∈ limb, x = b.speed → evalLimb limb x = b.effort) ∧ evalLimb limb x ≤ 1000

/-- The restrictions cut the requested effort by the first case that applies (R62). The jerk limit changes
the command by at most S in a period and never takes it across zero, and an emergency sets it to
-EMERG_BRAKE (R66). -/
def Obligations.EffortIsCutAndLimited : Prop :=
  (∀ (i : TractionItems) (x : Speed) (y : Summary) (target : Int),
     (y.emergency = true → cutBack i (some x) y target = -(i.emergBrake : Int)) ∧
     (y.emergency = false → y.hold = true → cutBack i (some x) y target = min target (-(i.holdBrake : Int))) ∧
     (y.emergency = false → y.hold = false → y.cap + i.overspeedBand ≤ x.v →
       cutBack i (some x) y target = min target (-(i.enforceBrake : Int))) ∧
     (y.emergency = false → y.hold = false → x.v < y.cap + i.overspeedBand → y.cap ≤ x.v →
       cutBack i (some x) y target = min target 0) ∧
     (y.emergency = false → y.hold = false → x.v < y.cap → cutBack i (some x) y target = target)) ∧
  (∀ (i : TractionItems) (old target : Int),
     limitJerk i true old target = -(i.emergBrake : Int) ∧
     (limitJerk i false old target - old).natAbs ≤ i.jerk / 50 ∧
     (0 < old → 0 ≤ limitJerk i false old target) ∧ (old < 0 → limitJerk i false old target ≤ 0) ∧
     ((target - old).natAbs ≤ i.jerk / 50 → ¬ (0 < old ∧ target < 0) → ¬ (old < 0 ∧ 0 < target) →
       limitJerk i false old target = target))

/-- Base shares (R70): with W above 0, M in proportion to weight, truncated, the remainder with the
lowest-numbered available unit; they sum to exactly M, and a unit that is not available has none. -/
def Obligations.BaseSharesSumToCommand : Prop :=
  ∀ (m : Nat) (us : List UnitView), 0 < totalWeight us →
    (baseShares m us).length = us.length ∧ (baseShares m us).sum = m ∧
    (∀ (i : Nat) (u : UnitView), us[i]? = some u →
      (u.available = false → (baseShares m us)[i]? = some 0) ∧
      (u.available = true → (∀ (j : Nat) (v : UnitView), j < i → us[j]? = some v → v.available = false) →
        (baseShares m us)[i]? = some (m * u.entry.weight / totalWeight us + shareRemainder m us)) ∧
      (u.available = true → (∃ (j : Nat) (v : UnitView), j < i ∧ us[j]? = some v ∧ v.available = true) →
        (baseShares m us)[i]? = some (m * u.entry.weight / totalWeight us))) ∧
    (truncatedShares m us).sum + shareRemainder m us = m ∧
    shareRemainder m us < (us.filter (·.available)).length ∧ (m = 0 → ∀ b ∈ baseShares m us, b = 0)

/-- What the units and the mechanical brake are given never exceeds the command and misses nothing of
a brake command (R72, R74). A present unit whose axle speed is seen is tested against the period's speeds: it
slips under power above the lowest speed by more than the threshold, and slides under brake below v by more. Its
factor then goes down 100, 75, 50, 25, or stays, or goes up one step at the tenth clean period, and applies at once
to its share, which the cut-off alone takes from what is published (R71, R72, R73). -/
def Obligations.DemandIsDelivered : Prop :=
  ∀ (i : TractionItems) (speed : Option Speed) (cmd : Int) (cut : Bool) (us : List UnitView) (slips : List UnitSlip),
    us.length = 4 → slips.length = 4 → (∀ x ∈ slips, x.factor ≤ 100) →
      let units := (allocateUnits i speed cmd cut us slips).map (·.1)
      let after := (allocateUnits i speed cmd cut us slips).map (·.2)
      units.length = 4 ∧ after.length = 4 ∧ (units.map (·.published.natAbs)).sum ≤ cmd.natAbs ∧
      (units.map (·.published.natAbs)).sum + deficitOf cmd units = cmd.natAbs ∧
      (cmd < 0 → (mechDemand cmd (deficitOf cmd units) : Int) + (units.map (·.published.natAbs)).sum = -cmd) ∧
      (0 ≤ cmd → mechDemand cmd (deficitOf cmd units) = 0) ∧
      (∀ (k : Nat) (u : UnitView) (r : UnitRecord), us[k]? = some u → units[k]? = some r →
        r.published.natAbs ≤ u.entry.limit ∧ r.published.natAbs ≤ u.capability ∧
        (u.available = false → r.allocated = 0)) ∧
      (∀ (k : Nat) (u : UnitView) (x y : UnitSlip) (r : UnitRecord), us[k]? = some u → slips[k]? = some x →
        after[k]? = some y → units[k]? = some r →
          (baseShares cmd.natAbs us)[k]? = some r.base ∧ r.available = u.available ∧ r.factor = y.factor ∧
          (u.available = true →
            r.allocated.natAbs = min (r.base * y.factor / 100) (min u.entry.limit u.capability)) ∧
          (cmd < 0 → r.allocated ≤ 0) ∧ (0 ≤ cmd → 0 ≤ r.allocated) ∧
          r.published = (if cut then 0 else r.allocated) ∧
          (u.entry.present = false ∨ u.axle = none ∨ speed = none → y = x ∧ r.slipping = false) ∧
          (∀ (a : Nat) (v : Speed), u.entry.present = true → u.axle = some a → speed = some v →
            ((0 < cmd ∧ v.vMin + i.slipThreshold < a) ∨ (cmd < 0 ∧ a + i.slipThreshold < v.v) →
              r.slipping = true ∧ y.clean = 0 ∧ (x.factor = 100 → y.factor = 75) ∧ (x.factor = 75 → y.factor = 50) ∧
              (x.factor = 50 ∨ x.factor = 25 → y.factor = 25)) ∧
            (cmd = 0 ∨ (0 < cmd ∧ a ≤ v.vMin + i.slipThreshold) ∨ (cmd < 0 ∧ v.v ≤ a + i.slipThreshold) →
              r.slipping = false ∧ (x.factor = 100 → y = ⟨100, 0⟩) ∧
              (x.factor < 100 → x.clean < 9 → y = ⟨x.factor, x.clean + 1⟩) ∧
              (x.factor < 100 → x.clean = 9 → y.clean = 0 ∧ (x.factor = 75 → y.factor = 100) ∧
                (x.factor = 50 → y.factor = 75) ∧ (x.factor = 25 → y.factor = 50)))))

/-- Vigilance in a computed period (R63, R64): standstill clears the timer; in motion with DEADMAN released it gains
20 ms; where it reaches VIGIL_WARN the indication goes on, VIGIL_PAT is requested on CHIME and VIGIL_WARN set; where
it reaches VIGIL_LIMIT, VIGIL is raised as EMERGENCY with its mark and VIGIL_TRIP, and EMERG_HORN_PAT requested on
HORN, each at priority SAFETY, 2; at the limit it stays. An unknown speed and DEADMAN held change nothing. With the
key on, what a control period of SERVICE and HOLD_PENDING leaves of the timer, the indication, the mark, the VIGIL
entry, the sounders and the flags is this, done at the speed that the period finds. -/
def Obligations.VigilanceTrips : Prop :=
  (∀ s : State,
    (∀ x, s.tdu.speed = some x → x.v ≤ 3 → s.supervise = s.withTdu { s.tdu with vigil := 0, vigilOn := false }) ∧
    (∀ x, s.tdu.speed = some x → 3 < x.v → s.tdu.inputs.deadman = false → s.tdu.vigil < s.tdu.items.vigilLimit →
      ∃ (t : State) (warn limit : Bool) (q : Sounder), s.supervise = t ∧
        (warn = true ↔ s.tdu.vigil + 20 = s.tdu.items.vigilWarn) ∧
        (limit = true ↔ s.tdu.vigil + 20 = s.tdu.items.vigilLimit) ∧
        t.tdu = { s.tdu with
          vigil := s.tdu.vigil + 20
          vigilOn := s.tdu.vigilOn || warn
          marks := { s.tdu.marks with vigil := s.tdu.marks.vigil || limit } } ∧
        (warn = true → t.efn.isSet .vigilWarn = true) ∧ (limit = true → t.efn.isSet .vigilTrip = true) ∧
        (limit = true → s.mcr.mode ≠ .standby → standsAs t.rsl .vigil (.emergency false)) ∧
        (limit = false → t.rsl = s.rsl) ∧
        q = (if warn then (s.soundRequest .chime ⟨s.ssq.items.vigilPat, .vigil, 2⟩).ssq else s.ssq) ∧
        t.ssq =
          (if limit then ((s.withSsq q).soundRequest .horn ⟨s.ssq.items.emergHornPat, .vigil, 2⟩).ssq else q) ∧
        (warn = false → limit = false → t = s.withTdu t.tdu) ∧
        (((s.withTdu t.tdu).withRsl t.rsl).withSsq t.ssq).sameButSent t ∧ s.flagsKept t) ∧
    (∀ x, s.tdu.speed = some x → 3 < x.v → s.tdu.inputs.deadman = false → s.tdu.items.vigilLimit ≤ s.tdu.vigil →
      s.supervise = s) ∧
    (s.tdu.speed = none → s.supervise = s) ∧
    (∀ x, s.tdu.speed = some x → 3 < x.v → s.tdu.inputs.deadman = true → s.supervise = s)) ∧
  (∀ s : State, s.mcr.mode = .service ∨ s.mcr.mode = .holdPending → s.dci.heldKey = true →
    ∃ u v t : State, exec .controlPeriod s = .next t ∧ v = u.supervise ∧
      u.tdu.speed = t.tdu.speed ∧ u.tdu.inputs = s.tdu.inputs ∧ u.tdu.items = s.tdu.items ∧
      u.tdu.vigil = s.tdu.vigil ∧ u.tdu.vigilOn = s.tdu.vigilOn ∧ u.tdu.marks.vigil = s.tdu.marks.vigil ∧
      u.mcr = s.mcr ∧ u.ssq = s.ssq ∧ (∀ e ∈ u.rsl, e.source = .vigil → e ∈ s.rsl) ∧
      (∀ e ∈ s.rsl, e.source = .vigil → e.kind = .emergency false → e ∈ u.rsl) ∧
      t.tdu.vigil = v.tdu.vigil ∧ t.tdu.vigilOn = v.tdu.vigilOn ∧ t.tdu.marks.vigil = v.tdu.marks.vigil ∧
      (∀ e, e.source = .vigil → (e ∈ t.rsl ↔ e ∈ v.rsl)) ∧ (t.mcr.mode = s.mcr.mode → t.ssq = v.ssq) ∧ v.flagsKept t)

/-! ### Restriction list (chapter 5) -/

/-- A raise outside STANDBY (R84, R85): a new source and key is appended with the period count; an
entry keeps its place and raised-at value, and takes the kind of the table, an emergency never
lessened. Each change sets RSL_CHANGE. In STANDBY a raise is ignored (R94). -/
def Obligations.RaiseFollowsTable : Prop :=
  ∀ (s : State) (src : Source) (key : Half) (k : Restraint),
    (s.mcr.mode = .standby → s.raise src key k = s) ∧
    (s.mcr.mode ≠ .standby → findRestriction s.rsl src key = none → k ≠ .emergency true →
      (s.raise src key k).rsl = s.rsl ++ [⟨src, key, k, s.tdu.periodCount⟩] ∧
        (s.raise src key k).efn.isSet .rslChange = true) ∧
    (∀ l1 e l2, s.mcr.mode ≠ .standby → s.rsl = l1 ++ e :: l2 → e.source = src → e.key = key →
      (∀ y ∈ l1, ¬ (y.source = src ∧ y.key = key)) →
        (∀ l, e.kind = .emergency l → (∀ m, k ≠ .emergency m) → s.raise src key k = s) ∧
        (∀ m, e.kind = .emergency false → k = .emergency m → s.raise src key k = s) ∧
        (∀ m, e.kind = .emergency true → k = .emergency m →
          (s.raise src key k).rsl = l1 ++ { e with kind := .emergency false } :: l2 ∧
          (s.raise src key k).efn.isSet .rslChange = true) ∧
        (∀ m, (∀ l, e.kind ≠ .emergency l) → k = .emergency m →
          (s.raise src key k).rsl = l1 ++ { e with kind := .emergency false } :: l2 ∧
          (s.raise src key k).efn.isSet .rslChange = true) ∧
        ((∀ l, e.kind ≠ .emergency l) → (∀ m, k ≠ .emergency m) →
          (s.raise src key k).rsl = l1 ++ { e with kind := k } :: l2 ∧
          (e.kind ≠ k → (s.raise src key k).efn.isSet .rslChange = true) ∧
          (e.kind = k → s.raise src key k = s)))

/-- A lift removes CAP and HOLD entries at once and marks an EMERGENCY entry (R86, R87). The release test
removes exactly the marked ones, at standstill with the handle at -900 or below and DEADMAN held (R88). -/
def Obligations.LiftsAndReleaseRemove : Prop :=
  (∀ (s : State) (src : Source) (key : Half),
     (findRestriction s.rsl src key = none → s.lift src key = s) ∧
     (∀ l1 e l2, s.rsl = l1 ++ e :: l2 → e.source = src → e.key = key →
       (∀ y ∈ l1, ¬ (y.source = src ∧ y.key = key)) →
         ((∀ l, e.kind ≠ .emergency l) → (s.lift src key).rsl = l1 ++ l2 ∧
           (s.lift src key).efn.isSet .rslChange = true) ∧
         (e.kind = .emergency false → (s.lift src key).rsl = l1 ++ { e with kind := .emergency true } :: l2 ∧
           (s.lift src key).efn.isSet .rslChange = true) ∧
         (e.kind = .emergency true → s.lift src key = s))) ∧
  (∀ s : State,
     (∀ x, s.tdu.speed = some x → x.v ≤ 3 → s.tdu.inputs.handle ≤ -900 → s.tdu.inputs.deadman = true →
       (∀ e, e ∈ s.releaseTest.rsl ↔ e ∈ s.rsl ∧ e.kind ≠ .emergency true) ∧ s.releaseTest.rsl.Sublist s.rsl ∧
         ((∃ e ∈ s.rsl, e.kind = .emergency true) → s.releaseTest.efn.isSet .rslChange = true)) ∧
     ((s.tdu.speed = none ∨ (∃ x, s.tdu.speed = some x ∧ 3 < x.v) ∨ -900 < s.tdu.inputs.handle ∨
         s.tdu.inputs.deadman = false) → s.releaseTest = s))

/-- At most thirteen entries (R82), from what every step keeps of the list and the junction queue. -/
def Obligations.AtMostThirteenRestrictions : Prop :=
  ∀ s : State, s.Fits → s.Distinct → s.KeysZero → s.JunctionsMirrored → s.rsl.length ≤ 13

/-! ### Junctions and the track link (chapters 6, 7) -/

/-- An arrival that starts in LISTEN is followed; one that starts during a transmission is a collision,
counted and lost (R127, R132). One that starts together with a transmission's end, the end taken first, is
received, and the pending REQUEST waits for its end (R133; together means at one reading of the model's clock,
log 45). An arrival that starts in RECEIVING is merged, and the earlier ends of a merged reception do nothing
(R129). A lone arrival received in full is judged: a good telegram counts RX_GOOD, clears the run and is
delivered; a bad one, and a merged reception whatever its bytes, counts RX_BAD and the run, and the eighth in a
row makes FAULT with its report to the route unit (R128, R129, R134). A lost reception is discarded at its end,
and the port leaves RECEIVING for the pending REQUEST or LISTEN (R132). The end of an abandoned arrival changes
nothing else (R139; which end is whose is log 11's). That the port has left RECEIVING, for LISTEN or with the
pending REQUEST in flight, before the telegram is delivered is log 12's. -/
def Obligations.ArrivalsAreJudged : Prop :=
  (∀ s : State,
     (s.tlk.state = .listen → exec .telegramArrivalStart s = .next (s.withTlk
       { s.tlk with state := .receiving, reception := some ⟨false, decide (0 < s.tlk.abandoned), 1⟩ })) ∧
     (s.tlk.state = .transmitting → (s.tlk.slotStart ≠ some s.env.clock ∨ s.tlk.reception ≠ none) →
       ∃ t, exec .telegramArrivalStart s = .next t ∧
       t.tlk.state = .transmitting ∧ t.tlk.collide = satInc s.tlk.collide ∧ t.tlk.run = s.tlk.run ∧
       t.tlk.inFlight = s.tlk.inFlight ∧ t.tlk.slot = s.tlk.slot ∧
       (∃ x, t.tlk.reception = some x ∧ x.lost = true ∧
         (∀ y, s.tlk.reception = some y → x.arrivals = y.arrivals + 1)) ∧
       t.efn.isSet .trackCollide = true ∧ t.rtu = s.rtu)) ∧
  (∀ (s : State) (x : Reception), s.tlk.reception = some x →
     (s.tlk.state = .receiving → exec .telegramArrivalStart s = .next (s.withTlk
       { s.tlk with reception := some { x with spoiled := true, arrivals := x.arrivals + 1 } })) ∧
     (∀ bytes, s.tlk.abandoned = 0 → 1 < x.arrivals → exec (.telegramArrivalEnd bytes) s = .next (s.withTlk
       { s.tlk with reception := some { x with arrivals := x.arrivals - 1 } }))) ∧
  (∀ (s : State) (bytes : List Byte), 0 < s.tlk.abandoned →
     exec (.telegramArrivalEnd bytes) s = .next (s.withTlk { s.tlk with abandoned := s.tlk.abandoned - 1 })) ∧
  (∀ (s : State) (bytes : List Byte) (spoiled : Bool), s.tlk.reception = some ⟨true, spoiled, 1⟩ → s.tlk.abandoned = 0 →
     (s.tlk.state = .transmitting →
       exec (.telegramArrivalEnd bytes) s = .next (s.withTlk { s.tlk with reception := none })) ∧
     (s.tlk.state = .receiving → s.tlk.slot = none → exec (.telegramArrivalEnd bytes) s =
       .next (s.withTlk { s.tlk with state := .listen, reception := none })) ∧
     (∀ r, s.tlk.state = .receiving → s.tlk.slot = some r → exec (.telegramArrivalEnd bytes) s = .next (s.withTlk
       { s.tlk with state := .transmitting, reception := none, inFlight := some r, slot := none, slotStart := none }))) ∧
  (∀ (s : State) (r x : PointRequest), s.tlk.state = .transmitting → s.tlk.inFlight = some r → s.tlk.slot = some x →
     s.tlk.reception = none → ∃ u t, exec .requestTransmissionEnd s = .next u ∧ exec .telegramArrivalStart u = .next t ∧
       t = u.withTlk { s.tlk with
         state := .receiving
         reception := some ⟨false, decide (0 < s.tlk.abandoned), 1⟩
         inFlight := none
         slotStart := none
         txSent := satInc s.tlk.txSent } ∧ u.env = s.env) ∧
  (∀ (s : State) (bytes : List Byte) (merged : Bool), s.tlk.state = .receiving →
     s.tlk.reception = some ⟨false, merged, 1⟩ → s.tlk.abandoned = 0 →
       (∀ m, merged = false → acceptTelegram bytes = some m → s.tlk.condition = .ok → s.mcr.mode ≠ .holdPending →
         (s.tlk.slot = none → exec (.telegramArrivalEnd bytes) s = .next ((s.withTlk
           { s.tlk with state := .listen, reception := none, rxGood := satInc s.tlk.rxGood, run := 0 }).deliverTelegram m)) ∧
         (∀ r, s.tlk.slot = some r → exec (.telegramArrivalEnd bytes) s = .next ((s.withTlk
           { s.tlk with
             state := .transmitting, reception := none, inFlight := some r, slot := none, slotStart := none
             rxGood := satInc s.tlk.rxGood, run := 0 }).deliverTelegram m))) ∧
       (∀ m, merged = false → acceptTelegram bytes = some m → ∃ t, exec (.telegramArrivalEnd bytes) s = .next t ∧
         t.tlk.rxGood = satInc s.tlk.rxGood ∧ t.tlk.rxBad = s.tlk.rxBad ∧ t.tlk.run = 0 ∧ t.tlk.condition = .ok ∧
         t.tlk.reception = none ∧
         (s.tlk.condition = .fault → s.dci.heldKey = true ∨ s.mcr.mode ≠ .holdPending →
           t.efn.isSet .trackOk = true)) ∧
       (merged = true ∨ acceptTelegram bytes = none → ∃ t, exec (.telegramArrivalEnd bytes) s = .next t ∧
         t.tlk.rxBad = satInc s.tlk.rxBad ∧ t.tlk.rxGood = s.tlk.rxGood ∧ t.tlk.run = min 8 (s.tlk.run + 1) ∧
         t.tlk.reception = none ∧
         (s.tlk.run < 7 → t.tlk.condition = s.tlk.condition ∧ t.rtu = s.rtu) ∧
         (s.tlk.run = 7 → s.tlk.condition = .ok → t.tlk.condition = .fault ∧ t.rtu = s.linkFaulted.rtu ∧
           t.efn.isSet .trackFault = true) ∧
         (s.tlk.condition = .fault → t.tlk.condition = .fault ∧ t.rtu = s.rtu)))

/-- What the track link hands the route unit. The report of a transmission's end starts the attempt timer when
the head is REQUESTING with the reported sequence number, and is ignored otherwise (R110). A CONFIRM passes the
four tests or is ignored, a wrong sequence number with LATE_CONFIRM (R112); then SET_LOCKED confirms, or in
another direction is a failed attempt, SET_MOVING restarts the timer, REFUSED leaves UNCONFIRMED (R113). A CONFIRM
and the expiry of a running timer that come together (R114): after a SET_LOCKED in the requested direction or a
SET_MOVING the expiry does not occur; taken first it is a failed attempt, and the CONFIRM is then late, or is ignored
with the head UNCONFIRMED. The FAULT report makes every ANNOUNCED and REQUESTING transaction UNCONFIRMED with JUNCTION
as HOLD (R116, R123). That JUNCTION is raised before JN_UNCONFIRMED is set is the model's choice (log 53), and so is
what it takes for together: the clock notes the restart of a running timer (log 61). -/
def Obligations.ReportStartsAttemptTimer : Prop :=
  (∀ (s : State) (seq : Byte),
     (∀ h rest, s.rtu.queue = h :: rest → s.mcr.mode.routing = true → h.state = .requesting → h.lastSeq = some seq →
       s.requestSent seq = s.withRtu { s.rtu with
         attempt := some s.rtu.items.confirmTimeout
         restartedAt := if s.rtu.attempt = none then none else some s.env.clock }) ∧
     ((∀ h rest, s.rtu.queue = h :: rest → ¬ (h.state = .requesting ∧ h.lastSeq = some seq)) → s.requestSent seq = s) ∧
     (s.mcr.mode.routing = false → s.requestSent seq = s)) ∧
  (∀ (s : State) (j tram : Half) (q : Byte) (d : PointDir) (c : ConfirmState),
     (s.mcr.mode.routing = false ∨ tram ≠ s.rtu.items.tramNumber ∨ s.rtu.queue = [] →
       s.deliverTelegram (.confirm j tram q d c) = s) ∧
     (∀ h rest, s.mcr.mode.routing = true → tram = s.rtu.items.tramNumber → s.rtu.queue = h :: rest →
       (h.junction ≠ j → s.deliverTelegram (.confirm j tram q d c) = s) ∧
       (h.junction = j → h.lastSeq ≠ some q → s.deliverTelegram (.confirm j tram q d c) = s.setFlag .lateConfirm) ∧
       (h.junction = j → h.lastSeq = some q → h.state ≠ .requesting → s.deliverTelegram (.confirm j tram q d c) = s) ∧
       (h.junction = j → h.lastSeq = some q → h.state = .requesting →
         (c = .setLocked → h.dir = some d → s.deliverTelegram (.confirm j tram q d c) =
           (s.withRtu { s.rtu with queue := { h with state := .confirmed } :: rest, attempt := none }).lift .junction j) ∧
         (c = .setLocked → h.dir ≠ some d → s.deliverTelegram (.confirm j tram q d c) = s.failAttempt) ∧
         (c = .setMoving → s.deliverTelegram (.confirm j tram q d c) =
           s.withRtu { s.rtu with
             attempt := some s.rtu.items.confirmTimeout
             restartedAt := if s.rtu.attempt = none then none else some s.env.clock }) ∧
         (c = .refused → s.deliverTelegram (.confirm j tram q d c) =
           ((s.withRtu { s.rtu with queue := { h with state := .unconfirmed } :: rest, attempt := none }).raise
             .junction j .hold).setFlag .jnUnconfirmed)))) ∧
  (∀ (s : State) (m : Telegram) (q : Byte) (d : PointDir) (c : ConfirmState) (h : Transaction) (rest : List Transaction),
     s.mcr.mode = .service ∨ s.mcr.mode = .holdPending → s.rtu.queue = h :: rest → h.state = .requesting →
     h.lastSeq = some q → s.rtu.attempt ≠ none → m = .confirm h.junction s.rtu.items.tramNumber q d c →
       (c = .setMoving ∨ (c = .setLocked ∧ h.dir = some d) →
         exec .attemptTimerExpiry (s.deliverTelegram m) = .next (s.deliverTelegram m)) ∧
       (s.rtu.restartedAt ≠ some s.env.clock → ∃ t, exec .attemptTimerExpiry s = .next t ∧ t = s.failAttempt ∧
         (h.attempts + 1 ≤ s.rtu.items.shortRetries → h.dir ≠ none → q ≠ s.rtu.seq + 1 →
           t.deliverTelegram m = t.setFlag .lateConfirm) ∧
         (s.rtu.items.shortRetries < h.attempts + 1 → t.deliverTelegram m = t))) ∧
  (∀ s : State, (s.mcr.mode.routing = false → s.linkFaulted = s) ∧
     (s.mcr.mode.routing = true → s.Distinct → ∃ t, s.linkFaulted = t ∧
       t.rtu.queue = s.rtu.queue.map
         (fun x => if x.state = .announced ∨ x.state = .requesting then { x with state := .unconfirmed } else x) ∧
       (∀ h rest, s.rtu.queue = h :: rest → h.state = .announced ∨ h.state = .requesting → t.rtu.attempt = none) ∧
       (∀ x ∈ s.rtu.queue, x.state = .announced ∨ x.state = .requesting → t.efn.isSet .jnUnconfirmed = true ∧
         ∃ e ∈ t.rsl, e.source = .junction ∧ e.key = x.junction ∧ (e.kind = .hold ∨ ∃ l, e.kind = .emergency l)) ∧
       t.tlk = s.tlk ∧ t.tdu = s.tdu ∧ t.sru = s.sru ∧ t.ssq = s.ssq ∧ t.mcr = s.mcr))

/-- A REQUEST's transmission ends: TX_SENT is counted, the report goes to the route unit, and the port goes on
to the pending REQUEST, to a lost arrival, or to LISTEN (R131). A REQUEST handed over is sent at once in LISTEN
and takes the pending slot else (R130). An attempt hands one over under the next sequence number (R109). The
attempt timer's expiry, and a failed attempt whatever its cause, counts a retry and hands the request over again
while SHORT_RETRIES allows, and leaves UNCONFIRMED after that (R111, R115, R116, R137); an expiry posted while the
timer is stopped or frozen changes nothing (log 3), nor does one at the clock's reading of its restart (R114; log 61). A route button starts a MANUAL attempt of the head, and PROCEED
releases the first UNCONFIRMED junction (R120, R121), with CAP at PROCEED_CAP as it stands at the press (the
model's choice, log 48). -/
def Obligations.RequestsAreSentAndRetried : Prop :=
  (∀ (s : State) (r : PointRequest), s.tlk.state = .transmitting → s.tlk.inFlight = some r →
     ∃ t, exec .requestTransmissionEnd s = .next t ∧ t.tlk.txSent = satInc s.tlk.txSent ∧
       t.rtu = (s.requestSent r.seq).rtu ∧
       (∀ x, s.tlk.reception = none → s.tlk.slot = some x →
         t.tlk.state = .transmitting ∧ t.tlk.inFlight = some x ∧ t.tlk.slot = none) ∧
       (s.tlk.reception = none → s.tlk.slot = none → t.tlk.state = .listen ∧ t.tlk.inFlight = none) ∧
       (s.tlk.reception.isSome = true → t.tlk.state = .receiving ∧ t.tlk.inFlight = none ∧ t.tlk.slot = s.tlk.slot) ∧
       t = (s.withTlk t.tlk).withRtu t.rtu) ∧
  (∀ (t : TrackLink) (r : PointRequest),
     (t.state = .listen → t.handOver r = { t with state := .transmitting, inFlight := some r, slotStart := none }) ∧
     (t.state ≠ .listen → t.handOver r = { t with slot := some r })) ∧
  (∀ (s : State) (h : Transaction) (rest : List Transaction) (d : PointDir), s.rtu.queue = h :: rest →
     (h.dir = some d → s.startAttempt =
       (s.withRtu { s.rtu with
         seq := s.rtu.seq + 1
         attempt := none
         queue := { h with lastSeq := some (s.rtu.seq + 1), state := .requesting } :: rest }).withTlk
           (s.tlk.handOver ⟨s.rtu.items.tramNumber, h.junction, d, s.rtu.seq + 1, s.rtu.routeNumber⟩)) ∧
     (h.attempts + 1 ≤ s.rtu.items.shortRetries → h.dir = some d → ∃ t, s.failAttempt = t ∧
       t.rtu = { s.rtu with
         queue := { h with
           attempts := h.attempts + 1, lastSeq := some (s.rtu.seq + 1), state := .requesting } :: rest
         seq := s.rtu.seq + 1
         attempt := none } ∧
       t.tlk = TrackLink.handOver
         { s.tlk with retry := s.tlk.retry + 1, rollover := s.tlk.rollover || decide (s.tlk.retry = 65535) }
         ⟨s.rtu.items.tramNumber, h.junction, d, s.rtu.seq + 1, s.rtu.routeNumber⟩ ∧
       (s.tlk.retry = 65535 → t.efn.isSet .retryRollover = true) ∧ (s.tlk.retry ≠ 65535 → t.efn = s.efn) ∧
       t.rsl = s.rsl ∧ t.tdu = s.tdu) ∧
     (s.rtu.items.shortRetries < h.attempts + 1 → ∃ t, s.failAttempt = t ∧
       t.rtu = { s.rtu with
         queue := { h with attempts := h.attempts + 1, state := .unconfirmed } :: rest, attempt := none } ∧
       t.tlk = s.tlk ∧ t.efn.isSet .jnUnconfirmed = true ∧ t.tdu = s.tdu ∧
       (s.mcr.mode ≠ .standby → ∃ e ∈ t.rsl, e.source = .junction ∧ e.key = h.junction ∧
         (e.kind = .hold ∨ ∃ l, e.kind = .emergency l)))) ∧
  (∀ s : State,
     ((s.rtu.attempt = none ∨ (s.mcr.mode ≠ .service ∧ s.mcr.mode ≠ .holdPending) ∨
         s.rtu.restartedAt = some s.env.clock) →
       exec .attemptTimerExpiry s = .next s) ∧
     (s.rtu.attempt ≠ none → (s.mcr.mode = .service ∨ s.mcr.mode = .holdPending) →
         s.rtu.restartedAt ≠ some s.env.clock →
       exec .attemptTimerExpiry s = .next s.failAttempt)) ∧
  (∀ (s : State) (d : PointDir),
     (s.mcr.mode.routing = false ∨ s.rtu.queue = [] → s.routeButton d = s) ∧
     (∀ (h : Transaction) (rest : List Transaction), s.mcr.mode.routing = true → s.rtu.queue = h :: rest →
       (h.state = .requesting ∨ h.state = .unconfirmed ∨ h.state = .awaitDriver ∨
           (h.state = .confirmed ∧ h.dir ≠ some d) →
         s.routeButton d =
           ((s.withRtu { s.rtu with
             seq := s.rtu.seq + 1
             attempt := none
             queue := { h with
               dir := some d, source := .manual, attempts := 0, lastSeq := some (s.rtu.seq + 1)
               state := .requesting } :: rest }).withTlk
             (s.tlk.handOver ⟨s.rtu.items.tramNumber, h.junction, d, s.rtu.seq + 1, s.rtu.routeNumber⟩)).raise
               .junction h.junction (.cap h.cap)) ∧
       (h.state = .announced ∨ h.state = .proceed ∨ h.state = .notRequired ∨
           (h.state = .confirmed ∧ h.dir = some d) → s.routeButton d = s))) ∧
  (∀ s : State,
     (s.mcr.mode.routing = false ∨ (∀ y ∈ s.rtu.queue, y.state ≠ .unconfirmed) → s.proceedPress = s) ∧
     (∀ l1 x l2, s.mcr.mode.routing = true → s.rtu.queue = l1 ++ x :: l2 → x.state = .unconfirmed →
       (∀ y ∈ l1, y.state ≠ .unconfirmed ∧ y.junction ≠ x.junction) →
         s.proceedPress = (s.withRtu { s.rtu with queue := l1 ++ { x with state := .proceed } :: l2 }).raise
           .junction x.junction (.cap s.rtu.items.proceedCap)))

/-- How junctions come and go. An APPROACH for a queued junction renews its distance (R105); for a new one it is
appended with the values of the first matching entry of the ACTIVE bank or the defaults, JUNCTION raised, the
auto-bell rung and an ANNOUNCED head's attempt started (R99, R107, R108), and with the queue full it is refused
with JQ_FULL and ROUTE (R106). CLEAR removes the junction it names, with its JUNCTION entry and a ROUTE that
has room again, and an ANNOUNCED new head starts (R118, R119). A distance counts every junction down, removes
the passed and leaves UNCONFIRMED those at their deadline (R117), and a reversal abandons all (R122). The order of
JQ_FULL and the ROUTE raise is log 52's, that of the JUNCTION raise, the bell and the attempt log 57's. -/
def Obligations.ApproachResolvesRoute : Prop :=
  (∀ (r : RouteUnit) (j : Half) (n : Nat),
     (∀ (i : Nat) (e : RouteEntry), r.active[i]? = some e → e.covers j r.routeNumber = true →
       (∀ (k : Nat) (x : RouteEntry), k < i → r.active[k]? = some x → x.covers j r.routeNumber = false) →
         r.newTransaction j n = ⟨j, some i, e.dir, .table, (if e.dir.isSome then .announced else .notRequired), 0, none,
           (n : Int) * 1000, e.confirm, e.clearance, e.cap⟩ ∧
         (∀ s : State, s.rtu = r →
           s.autoBell j = if e.dir.isSome && e.autoBell then s.soundRequest .bell ⟨e.pattern, .route, 1⟩ else s)) ∧
     ((∀ e ∈ r.active, e.covers j r.routeNumber = false) →
       r.newTransaction j n = ⟨j, none, none, .manual,
         (match r.items.noMatch with | .pass => .notRequired | .manual => .awaitDriver), 0, none, (n : Int) * 1000, 0,
         r.items.defaultClearance, r.items.defaultCap⟩ ∧
       (∀ s : State, s.rtu = r → s.autoBell j = s))) ∧
  (∀ (s : State) (j : Half) (n : Nat), s.mcr.mode.routing = true →
     (∀ l1 x l2, s.rtu.queue = l1 ++ x :: l2 → x.junction = j → (∀ y ∈ l1, y.junction ≠ j) →
       s.deliverTelegram (.approach j n) =
         s.withRtu { s.rtu with queue := l1 ++ { x with remaining := (n : Int) * 1000 } :: l2 }) ∧
     ((∀ y ∈ s.rtu.queue, y.junction ≠ j) → 4 ≤ s.rtu.queue.length → s.deliverTelegram (.approach j n) =
       ((s.withRtu { s.rtu with mark := true }).setFlag .jqFull).raise .route 0 (.cap s.rtu.items.defaultCap)) ∧
     (∀ (x : Transaction) (u v : State), (∀ y ∈ s.rtu.queue, y.junction ≠ j) → s.rtu.queue.length < 4 →
       x = s.rtu.newTransaction j n → u = s.withRtu { s.rtu with queue := s.rtu.queue ++ [x] } →
       v = (if x.state = .announced ∨ x.state = .awaitDriver then u.raise .junction j (.cap x.cap) else u).autoBell j →
         (x.state = .announced → s.rtu.queue = [] → s.deliverTelegram (.approach j n) = v.startAttempt) ∧
         (x.state ≠ .announced ∨ s.rtu.queue ≠ [] → s.deliverTelegram (.approach j n) = v))) ∧
  (∀ (s : State) (j : Half), s.mcr.mode.routing = true → (s.rtu.queue.map (·.junction)).Nodup →
     ((∀ y ∈ s.rtu.queue, y.junction ≠ j) → s.deliverTelegram (.clear j) = s) ∧
     (∀ (l1 l2 : List Transaction) (x : Transaction) (u v w : State), s.rtu.queue = l1 ++ x :: l2 → x.junction = j →
       u = s.withRtu { s.rtu with queue := l1 ++ l2, attempt := if l1 = [] then none else s.rtu.attempt } →
       v = (if x.state = .confirmed ∨ x.state = .notRequired then u else u.lift .junction j) →
       w = (if s.rtu.mark = true ∧ (l1 ++ l2).length < 4 then
         (v.withRtu { v.rtu with mark := false }).lift .route 0 else v) →
         (l1 = [] → l2.head?.map (·.state) = some .announced → s.deliverTelegram (.clear j) = w.startAttempt) ∧
         (l1 ≠ [] ∨ l2.head?.map (·.state) ≠ some .announced → s.deliverTelegram (.clear j) = w))) ∧
  (∀ (s t : State) (d : Nat), s.mcr.mode.routing = true → s.Distinct → s.JunctionsMirrored →
     t = s.periodDistance d →
       (t.rtu.queue.map (·.junction)).Sublist (s.rtu.queue.map (·.junction)) ∧
       (∀ (x : Transaction) (left : Int), x ∈ s.rtu.queue → left = max (-2147483648) (x.remaining - d) →
         (left ≤ -((x.clearance : Int) * 1000) →
           (∀ y ∈ t.rtu.queue, y.junction ≠ x.junction) ∧ findRestriction t.rsl .junction x.junction = none) ∧
         (-((x.clearance : Int) * 1000) < left → x.source = .table → x.state = .announced ∨ x.state = .requesting →
           left ≤ (x.confirm : Int) * 1000 →
             { x with remaining := left, state := .unconfirmed } ∈ t.rtu.queue ∧
               t.efn.isSet .jnUnconfirmed = true) ∧
         (-((x.clearance : Int) * 1000) < left →
           ¬ (x.source = .table ∧ (x.state = .announced ∨ x.state = .requesting) ∧ left ≤ (x.confirm : Int) * 1000) →
             { x with remaining := left } ∈ t.rtu.queue ∨
               (x.state = .announced ∧ t.rtu.queue.head? =
                 some { x with remaining := left, lastSeq := some (s.rtu.seq + 1), state := .requesting }))) ∧
       t.tdu = s.tdu ∧ t.sru = s.sru ∧ t.ssq = s.ssq ∧ t.mcr = s.mcr) ∧
  (∀ s t : State, s.mcr.mode.routing = true → s.Distinct → s.JunctionsMirrored → t = s.reversal →
     t.rtu.queue = [] ∧ t.rtu.attempt = none ∧ t.rtu.mark = false ∧ (∀ e ∈ t.rsl, e.source ≠ .junction) ∧
       (s.rtu.queue ≠ [] → t.efn.isSet .jqAbandon = true) ∧
       (∀ e, e.source ≠ .junction → e.source ≠ .route → (e ∈ t.rsl ↔ e ∈ s.rsl)) ∧
       t.tlk = s.tlk ∧ t.tdu = s.tdu ∧ t.sru = s.sru ∧ t.ssq = s.ssq ∧ t.mcr = s.mcr)

/-! ### Stops, doors and sound (chapters 8, 9) -/

/-- Registration by a button update in a mode that registers, with the doors not RELEASED (R142, R146):
a released input arms its source; an active, enabled and armed one is registered and disarmed, with its table kind
and the period count; any other is left. The input image is the update's. A first NORMAL entry into an empty list
and a first ASSIST entry sound their patterns and set their flags (R147; in the order of log 29). With the doors
RELEASED the armed flags follow the inputs, and in STARTING, FAILED and STANDBY an inactive input arms, and nothing
is registered (R143). The stale event makes every input inactive and arms every source (R144). The door summary's
events set the view, complete CLOSING and have DOORS tested, which raises or lifts DOORS as HOLD when its condition
changes, in the modes that serve the doors (R33, R153, R154). An accepted door release releases or adds the side,
empties the list, disarms every source, commands RELEASE and has DOORS tested (R150); DOOR_CLOSE closes released
doors with a command and a chime, repeats the command for closed ones, and is ignored while they close (R152);
STOP_CANCEL empties the list (R149). A STOP_DISPLAY follows each change of its values (R148; the frames of one
handling follow one another as log 29 says). -/
def Obligations.ButtonsRegisterOnce : Prop :=
  (∀ (s : State) (image : Word), s.mcr.mode.active = true → s.sru.door ≠ .released → s.sru.sources.length = 32 →
    (s.stopButtons image).sru.image = image ∧ (s.stopButtons image).sru.sources = s.sru.sources ∧
    (∀ (n : Nat) (e : StopSource), s.sru.sources[n]? = some e →
      ((s.stopButtons image).sru.armed.getLsbD n =
        (!image.getLsbD n || (s.sru.armed.getLsbD n && !e.enabled))) ∧
      ((∃ x ∈ (s.stopButtons image).sru.list, x.source = n) ↔
        (∃ x ∈ s.sru.list, x.source = n) ∨ (image.getLsbD n = true ∧ e.enabled = true ∧ s.sru.armed.getLsbD n = true)) ∧
      (image.getLsbD n = true → e.enabled = true → s.sru.armed.getLsbD n = true → (∀ x ∈ s.sru.list, x.source ≠ n) →
        ⟨n, e.kind, s.tdu.periodCount⟩ ∈ (s.stopButtons image).sru.list ∧
        (e.kind = .assist → (∀ x ∈ s.sru.list, x.kind ≠ .assist) →
          (s.stopButtons image).efn.isSet .assistFirst = true) ∧
        (e.kind = .normal → s.sru.list = [] →
          (∀ (m : Nat) (d : StopSource), m < n → s.sru.sources[m]? = some d →
            ¬ (image.getLsbD m = true ∧ d.enabled = true ∧ s.sru.armed.getLsbD m = true)) →
          (s.stopButtons image).efn.isSet .stopFirst = true))) ∧
    s.sru.list <+: (s.stopButtons image).sru.list) ∧
  (∀ (s u : State) (n : Nat) (e : StopSource), s.sru.sources[n]? = some e →
     u = s.withSru { s.sru with list := s.sru.list ++ [⟨n, e.kind, s.tdu.periodCount⟩] } →
       ((∃ x ∈ s.sru.list, x.source = n) → s.registerSource n = s) ∧
       ((∀ x ∈ s.sru.list, x.source ≠ n) →
         (e.kind = .normal → s.sru.list = [] → s.registerSource n = State.reportStops
           ((u.soundRequest .chime ⟨s.ssq.items.stopPat, .stops, 0⟩).setFlag .stopFirst) s.sru.list) ∧
         (e.kind = .assist → (∀ x ∈ s.sru.list, x.kind ≠ .assist) → s.registerSource n = State.reportStops
           ((u.soundRequest .chime ⟨s.ssq.items.assistPat, .stops, 0⟩).setFlag .assistFirst) s.sru.list) ∧
         ((e.kind = .normal ∧ s.sru.list ≠ []) ∨ (e.kind = .assist ∧ ∃ x ∈ s.sru.list, x.kind = .assist) →
           s.registerSource n = u.reportStops s.sru.list))) ∧
  (∀ (s : State) (image : Word),
     (s.mcr.mode.active = true → s.sru.door = .released →
       s.stopButtons image = s.withSru { s.sru with armed := ~~~ image, image := image }) ∧
     (s.mcr.mode.active = false →
       s.stopButtons image = s.withSru { s.sru with armed := s.sru.armed ||| ~~~ image, image := image })) ∧
  (∀ (s : State) (i : Nat),
     (s.sgt.stopSlot = some i → s.sgt.doorSlot ≠ some i →
       (∀ b3 b2 b1 b0, (s.sgt.slot i).state = .fresh → s.slotBytes i 4 = [b3, b2, b1, b0] →
         s.slotEvent i = s.stopButtons (b3 ++ b2 ++ b1 ++ b0)) ∧
       ((s.sgt.slot i).state ≠ .fresh →
         s.slotEvent i = s.withSru { s.sru with image := 0, armed := BitVec.allOnes 32 })) ∧
     (s.sgt.doorSlot = some i → s.sgt.stopSlot ≠ some i →
       (∀ (b : Byte) (closed locked : Bool), (s.sgt.slot i).state = .fresh → s.slotBytes i 1 = [b] →
         (closed = true ↔ b.getLsbD 0 = true ∧ b.getLsbD 2 = false ∧ b.getLsbD 3 = false) →
         (locked = true ↔ closed = true ∧ b.getLsbD 1 = true) →
           (s.sru.door = .closing → locked = true →
             s.slotEvent i = (s.withSru { s.sru with view := some ⟨true, true⟩, door := .closedLocked }).doorsTest) ∧
           (s.sru.door ≠ .closing ∨ locked = false →
             s.slotEvent i = (s.withSru { s.sru with view := some ⟨closed, locked⟩ }).doorsTest)) ∧
       ((s.sgt.slot i).state ≠ .fresh → s.slotEvent i = (s.withSru { s.sru with view := none }).doorsTest)) ∧
     (s.sgt.doorSlot ≠ some i → s.sgt.stopSlot ≠ some i → s.slotEvent i = s)) ∧
  (∀ (s : State) (calls : Bool), (calls = true ↔ s.sru.door ≠ .closedLocked ∨ s.sru.view ≠ some ⟨true, true⟩) →
     (s.mcr.mode.active = false ∨ s.sru.mark = calls → s.doorsTest = s) ∧
     (s.mcr.mode.active = true → calls = true → s.sru.mark = false →
       s.doorsTest = (s.withSru { s.sru with mark := true }).raise .doors 0 .hold) ∧
     (s.mcr.mode.active = true → calls = false → s.sru.mark = true →
       s.doorsTest = (s.withSru { s.sru with mark := false }).lift .doors 0)) ∧
  (∀ (s : State) (side : Side) (l r : Bool), (s.mcr.mode = .service ∨ s.mcr.mode = .holdPending) → s.still →
     l = (decide (side = .left) || (decide (s.sru.door = .released) && s.sru.sides.left)) →
     r = (decide (side = .right) || (decide (s.sru.door = .released) && s.sru.sides.right)) →
       (s.doorReleasePress side).sru =
         { s.sru with door := .released, sides := ⟨l, r⟩, list := [], armed := 0, mark := true } ∧
       s.doorReleasePress side =
         State.reportStops
           (((s.withSru { s.sru with door := .released, sides := ⟨l, r⟩, list := [], armed := 0 }).publish
             s.sru.doorCommandId [0, BitVec.ofNat 8 ((if l then 1 else 0) + (if r then 2 else 0))]).doorsTest)
           s.sru.list) ∧
  (∀ s : State,
     (s.sru.door = .released → s.doorClosePress =
       (((s.withSru { s.sru with door := .closing, sides := ⟨false, false⟩ }).publish s.sru.doorCommandId
         [1, 0]).soundRequest .chime ⟨s.ssq.items.doorClosingPat, .doors, 2⟩).doorsTest) ∧
     (s.sru.door = .closedLocked → s.doorClosePress = s.publish s.sru.doorCommandId [1, 0]) ∧
     (s.sru.door = .closing → s.doorClosePress = s) ∧
     (s.sru.list = [] → s.stopCancelPress = s) ∧
     (s.sru.list ≠ [] →
       s.stopCancelPress = (s.withSru { s.sru with list := [] }).publish s.sru.stopDisplayId [0])) ∧
  (∀ (s : State) (old : List StopEntry) (stop assist : Bool), stop = !s.sru.list.isEmpty →
     assist = s.sru.list.any (·.kind == .assist) →
       s.reportStops old =
         if stop = !old.isEmpty ∧ assist = old.any (·.kind == .assist) then s
         else s.publish s.sru.stopDisplayId [BitVec.ofNat 8 ((if stop then 1 else 0) + (if assist then 2 else 0))])

/-- A door release that is not accepted changes nothing but DOOR_REL_REFUSED (R151). -/
def Obligations.DoorReleaseRefused : Prop :=
  ∀ (s : State) (side : Side),
    ((s.mcr.mode ≠ .service ∧ s.mcr.mode ≠ .holdPending) ∨ s.tdu.speed = none ∨
        (∃ x, s.tdu.speed = some x ∧ 3 < x.v)) →
      s.doorReleasePress side = s.setFlag .doorRelRefused ∧ (s.doorReleasePress side).sru = s.sru ∧
        (s.doorReleasePress side).efn.isSet .doorRelRefused = true

/-- No command takes the doors to RELEASED unless the mode is SERVICE or HOLD_PENDING and the tram is at
standstill, and then DOORS stands in the list as HOLD and so holds the tram (R150, R154). -/
def Obligations.DoorsReleaseOnlyAtStandstill : Prop :=
  ∀ s t : State, s.DoorsHeld → step s = .next t → s.sru.door ≠ .released → t.sru.door = .released →
    (s.mcr.mode = .service ∨ s.mcr.mode = .holdPending) ∧ (∃ x, s.tdu.speed = some x ∧ x.v ≤ 3) ∧
      standsAs t.rsl .doors .hold

/-- Sound requests (R164, R165): silent modes drop them, an invalid pattern or a full queue of no lower
priority sets SOUND_DROP, an equal one is absorbed, an idle channel plays at once, any other waits behind equal
and higher ones, taking the place of the newest of the lowest priority. A step boundary lets a queued request
that outranks the playing one start, and else goes to the next step, and after step 15 to the next repeat, to
segment 2, or to the end, where the first queued request starts or the output goes off (R166 to R168). The
direct horn starts on a press (R169; its press time is log 19's), goes on after its 300 ms while held, ends when
released, and lets a suspended pattern play its step again from the beginning, or the first queued request
start (R169, R170); each of its intervals is judged by its load (R171). -/
def Obligations.SoundsAdvanceAndEnd : Prop :=
  (∀ (s : State) (ch : Channel) (r : SoundRequest), s.mcr.mode.sounding = false → s.soundRequest ch r = s) ∧
  (∀ (s : State) (ch : Channel) (r : SoundRequest) (c : SoundChannel) (p : Pattern), s.mcr.mode.sounding = true →
     c = s.ssq.channel ch → p = s.ssq.pattern r.pattern →
       (p.valid = false → s.soundRequest ch r = s.setFlag .soundDrop) ∧
       (p.valid = true → (∃ x ∈ c.requests, x.pattern = r.pattern ∧ x.source = r.source) → s.soundRequest ch r = s) ∧
       (p.valid = true → (∀ x ∈ c.requests, ¬ (x.pattern = r.pattern ∧ x.source = r.source)) →
         (s.ssq.idle ch = true → s.soundRequest ch r = s.withSsq (s.ssq.withChannel ch
           { c with
             playing := some ⟨r, false, p.repeats1, 0⟩
             output := p.word1.getLsbD 15
             stepLeft := some (p.stepTime * 50) })) ∧
         (c.playing ≠ none ∨ (ch = .horn ∧ s.ssq.direct ≠ none) →
           (c.queue.length < 4 → ∃ l1 l2, c.queue = l1 ++ l2 ∧ (∀ x ∈ l1, r.priority ≤ x.priority) ∧
             (∀ x ∈ l2.head?, x.priority < r.priority) ∧
             s.soundRequest ch r = s.withSsq (s.ssq.withChannel ch { c with queue := l1 ++ r :: l2 })) ∧
           (4 ≤ c.queue.length → (∀ x ∈ c.queue, r.priority ≤ x.priority) →
             s.soundRequest ch r = s.setFlag .soundDrop) ∧
           (4 ≤ c.queue.length → (∃ x ∈ c.queue, x.priority < r.priority) →
             ∃ k1 x k2 l1 l2, c.queue = k1 ++ x :: k2 ∧ (∀ y ∈ c.queue, x.priority ≤ y.priority) ∧
               (∀ y ∈ k2, x.priority < y.priority) ∧ k1 ++ k2 = l1 ++ l2 ∧ (∀ y ∈ l1, r.priority ≤ y.priority) ∧
               (∀ y ∈ l2.head?, y.priority < r.priority) ∧
               s.soundRequest ch r =
                 (s.withSsq (s.ssq.withChannel ch { c with queue := l1 ++ r :: l2 })).setFlag .soundDrop)))) ∧
  (∀ (s : State) (ch : Channel) (load : Bool) (x : Playing), (s.ssq.channel ch).playing = some x →
     (ch = .horn → s.ssq.direct = none) →
       (∀ r rest, (s.ssq.channel ch).queue = r :: rest → x.request.priority < r.priority →
         ∃ t, exec (.soundStepBoundary ch load) s = .next t ∧
           (t.ssq.channel ch).playing = some ⟨r, false, (s.ssq.pattern r.pattern).repeats1, 0⟩ ∧
           (t.ssq.channel ch).queue = rest ∧ t.rtu = s.rtu ∧ t.tdu = s.tdu ∧ t.rsl = s.rsl) ∧
       ((∀ r ∈ (s.ssq.channel ch).queue, r.priority ≤ x.request.priority) → x.step < 15 →
         ∃ t, exec (.soundStepBoundary ch load) s = .next t ∧
           (t.ssq.channel ch).playing = some { x with step := x.step + 1 } ∧
           (t.ssq.channel ch).queue = (s.ssq.channel ch).queue ∧
           (t.ssq.channel ch).output =
             ((s.ssq.pattern x.request.pattern).word x.second).getLsbD (15 - (x.step + 1)) ∧
           (t.ssq.channel ch).stepLeft = some ((s.ssq.pattern x.request.pattern).stepTime * 50) ∧
           (∀ c, c ≠ ch → t.ssq.channel c = s.ssq.channel c) ∧ t.rtu = s.rtu ∧ t.tdu = s.tdu ∧ t.rsl = s.rsl) ∧
       (∀ p, p = s.ssq.pattern x.request.pattern →
         (∀ r ∈ (s.ssq.channel ch).queue, r.priority ≤ x.request.priority) → x.step = 15 →
         ∃ t, exec (.soundStepBoundary ch load) s = .next t ∧
           (1 < x.repeatsLeft → ¬ (x.second = true ∧ p.repeats2 = 15) →
             (t.ssq.channel ch).playing = some { x with repeatsLeft := x.repeatsLeft - 1, step := 0 }) ∧
           (x.repeatsLeft ≤ 1 → x.second = false → 1 ≤ p.repeats2 →
             (t.ssq.channel ch).playing = some { x with second := true, repeatsLeft := p.repeats2, step := 0 }) ∧
           (x.second = true → p.repeats2 = 15 → (s.ssq.channel ch).queue = [] →
             (t.ssq.channel ch).playing = some { x with repeatsLeft := 15, step := 0 }) ∧
           ((x.repeatsLeft ≤ 1 ∧ x.second = false ∧ p.repeats2 = 0) ∨
               (x.repeatsLeft ≤ 1 ∧ x.second = true ∧ p.repeats2 ≠ 15) ∨
               (x.second = true ∧ p.repeats2 = 15 ∧ (s.ssq.channel ch).queue ≠ []) →
             ((s.ssq.channel ch).queue = [] → (t.ssq.channel ch).playing = none ∧ (t.ssq.channel ch).output = false ∧
               (t.ssq.channel ch).stepLeft = none) ∧
             (∀ r rest, (s.ssq.channel ch).queue = r :: rest → (t.ssq.channel ch).queue = rest ∧
               (t.ssq.channel ch).playing = some ⟨r, false, (s.ssq.pattern r.pattern).repeats1, 0⟩)))) ∧
  (∀ s : State, (s.mcr.mode.sounding = false → s.hornPress = s) ∧
     (s.mcr.mode.sounding = true → s.hornPress = s.withSsq { s.ssq with
       direct := some ⟨s.env.clock, true, 300, 50⟩
       horn := { s.ssq.horn with output := true, stepLeft := none } })) ∧
  (∀ (s : State) (d : DirectHorn), s.ssq.direct = some d →
     (d.held = true → exec .directHornMinEnd s = .next (s.withSsq { s.ssq with direct := some { d with minLeft := 0 } })) ∧
     (d.held = false → s.ssq.horn.playing = none → s.ssq.horn.queue = [] → s.mcr.mode ≠ .holdPending →
       ∃ t, exec .directHornMinEnd s = .next t ∧ t.ssq.direct = none ∧ t.ssq.horn.output = false ∧
         t.ssq.bell = s.ssq.bell ∧ t.ssq.chime = s.ssq.chime ∧ s.withSsq t.ssq = t) ∧
     (d.minLeft ≠ 0 → s.hornRelease = s.withSsq { s.ssq with direct := some { d with held := false } }) ∧
     (∀ u : State, (d.minLeft = 0 ∧ u = s.hornRelease) ∨ (d.held = false ∧ exec .directHornMinEnd s = .next u) →
       (∀ x p, s.ssq.horn.playing = some x → p = s.ssq.pattern x.request.pattern → u = s.withSsq { s.ssq with
         direct := none
         horn := { s.ssq.horn with
           output := (p.word x.second).getLsbD (15 - x.step), stepLeft := some (p.stepTime * 50) } }) ∧
       (∀ r rest p, s.ssq.horn.playing = none → s.ssq.horn.queue = r :: rest → p = s.ssq.pattern r.pattern →
         u = s.withSsq { s.ssq with
           direct := none
           horn := { s.ssq.horn with
             playing := some ⟨r, false, p.repeats1, 0⟩
             queue := rest
             output := p.word1.getLsbD 15
             stepLeft := some (p.stepTime * 50) } })) ∧
     (∀ load, ∃ t, exec (.directHornInterval load) s = .next t ∧ t.ssq.direct = some { d with intervalLeft := 50 } ∧
       t.ssq.horn.isOpen = !load ∧ (load = false → t.efn.isSet .soundOpenHorn = true) ∧ t.rsl = s.rsl ∧ t.tdu = s.tdu))

/-! ### Management (chapters 10, 11, 12) -/

/-- Before its own rules (R175): in STARTING every request but a read of the mode item is answered
STARTING, and that read DONE; in FAILED every one but RESTART is answered REFUSED_MODE; an unknown one is
answered REFUSED_INVALID; nothing but the answer happens. A request whose length is not that of its code
counts as unknown in these tests (log 34). That FAILED refuses a read of the mode item too is R175's rule against the
last sentence of R195 (log 55). A command that finds no request of its row at the front changes
nothing (log 4). -/
def Obligations.RequestsPassTests : Prop :=
  (∀ (s : State) (r : Request), s.fcl.requests.head? = some r →
    (s.mcr.mode = .starting → r.row = .readItem → r.half 0 = 0x0900 →
      exec .readItem s = .next (s.taken.respond r
        ⟨.done, [0, BitVec.ofNat 8 (s.mcr.checkLeft / 256), BitVec.ofNat 8 s.mcr.checkLeft]⟩)) ∧
    (s.mcr.mode = .starting → ¬ (r.row = .readItem ∧ r.half 0 = 0x0900) →
      exec r.row.command s = .next (s.taken.respond r ⟨.starting, []⟩)) ∧
    (s.mcr.mode = .failed → r.row ≠ .restart →
      exec r.row.command s = .next (s.taken.respond r ⟨.refusedMode, []⟩)) ∧
    (s.mcr.mode ≠ .starting → s.mcr.mode ≠ .failed → r.row = .unknown →
      exec .unknownRequest s = .next (s.taken.respond r ⟨.refusedInvalid, []⟩)) ∧
    (∀ row : Row, row ≠ r.row → exec row.command s = .next s)) ∧
  (∀ (s : State) (row : Row), s.fcl.requests = [] → exec row.command s = .next s)

/-- The RESPONSE (R16, R174, R206, R207): one frame from the own address with the requester's code and tag,
the status and the results, under the next transmit sequence number. A requester heard at one port alone is
answered there, one heard at both ports or at neither on both; with a place free in those ports it is the last
frame that each has to send, and nothing but the ports changes. The ten statuses have the codes 0 to 9. -/
def Obligations.ResponseGoesToRequester : Prop :=
  (∀ (s : State) (r : Request) (a : Answer) (own : Byte), s.mcr.address = some own → r.requester ≠ 0 →
    r.requester ≠ own → r.requester ≠ 63 →
      ∃ f : Frame, f.dest = r.requester ∧ f.src = own ∧ f.kind = .response ∧ f.id = r.code ++ r.tag ∧
        f.seq = s.line.txSeq ∧ f.payload = BitVec.ofNat 8 a.status.code :: a.results ∧
        ((r.requester ∈ s.line.a.seen ↔ r.requester ∈ s.line.b.seen) → s.line.a.hasRoom → s.line.b.hasRoom →
          (∀ p, ((s.respond r a).port p).toSend = (s.port p).toSend ++ [⟨f, .own⟩]) ∧
            (s.respond r a).line.txSeq = s.line.txSeq + 1 ∧ s.withLine (s.respond r a).line = s.respond r a) ∧
        (∀ p, r.requester ∈ (s.port p).seen → r.requester ∉ (s.port (otherPort p)).seen → (s.port p).hasRoom →
          ((s.respond r a).port p).toSend = (s.port p).toSend ++ [⟨f, .own⟩] ∧
            (s.respond r a).port (otherPort p) = s.port (otherPort p) ∧
            (s.respond r a).line.txSeq = s.line.txSeq + 1 ∧ s.withLine (s.respond r a).line = s.respond r a)) ∧
  ([Status.done, .doneClamped, .refusedMode, .refusedBusy, .refusedInvalid, .refusedRange, .liveBank, .livePattern,
    .badItem, .starting].map Status.code = [0, 1, 2, 3, 4, 5, 6, 7, 8, 9])

/-- READ_ITEM and READ_ENTRY answer what stands, or BAD_ITEM and REFUSED_RANGE (R176, R182). The collection
reads answer the count, the start, the number carried, the fixed part and whole records from the start on,
two, one or four to an answer; READ_STEP answers a part (R184, R185, R207). None changes anything but the
queue and the ports. The record of a restriction, of a junction and of a stop request is given byte by byte, and
so are part 0 and a unit's part of the step record (R91, R126, R158, R207), and the number and the bytes of every
item (R204, R207, R208 with R17, R35, R49, R80, R126, R136, R158, R173). The model's choices in them: a value that
is not there is all ones in item records and in the limb value (log 15), a direction of NONE is code 3 (log 16), the
fields of the door view (log 17) and of a channel (log 18), released sides of none as code 0 (log 63), the free value that stands for the press time (log 19) in
4 bytes (log 43), the whole image in the delivered view (log 20). -/
def Obligations.ReadsAnswerWhatStands : Prop :=
  (∀ (s : State) (r : Request),
     (s.asked r .readItem →
       (∀ i, Item.ofNumber (r.half 0).toNat = some i →
         exec .readItem s = .next (s.taken.respond r ⟨.done, s.itemValue i⟩)) ∧
       (Item.ofNumber (r.half 0).toNat = none → exec .readItem s = .next (s.taken.respond r ⟨.badItem, []⟩))) ∧
     (s.asked r .readEntry →
       (∀ t b i, TableName.ofCode (r.byte 0) = some t → readBank t (r.byte 1) = some b →
         readIndex t (r.payload.drop 2) = some i →
           exec .readEntry s = .next (s.taken.respond r ⟨.done, r.payload.drop 2 ++ s.entryBytes t b i⟩)) ∧
       (TableName.ofCode (r.byte 0) = none → exec .readEntry s = .next (s.taken.respond r ⟨.badItem, []⟩)) ∧
       (∀ t, TableName.ofCode (r.byte 0) = some t → readIndex t (r.payload.drop 2) = none →
         exec .readEntry s = .next (s.taken.respond r ⟨.refusedRange, []⟩)))) ∧
  (∀ (s : State) (r : Request),
     (s.asked r .readRestrictions → exec .readRestrictions s = .next (s.taken.respond r
       ⟨.done, [BitVec.ofNat 8 s.rsl.length, BitVec.ofNat 8 (r.byte 0).toNat,
           BitVec.ofNat 8 (min 2 (s.rsl.length - (r.byte 0).toNat))] ++
         (((s.rsl.drop (r.byte 0).toNat).take 2).map Restriction.record).flatten⟩)) ∧
     (s.asked r .readJunctions → exec .readJunctions s = .next (s.taken.respond r
       ⟨.done, [BitVec.ofNat 8 s.rtu.queue.length, BitVec.ofNat 8 (r.byte 0).toNat,
           BitVec.ofNat 8 (min 1 (s.rtu.queue.length - (r.byte 0).toNat))] ++ timerBytes s.mcr.mode s.rtu.attempt ++
         (((s.rtu.queue.drop (r.byte 0).toNat).take 1).map Transaction.record).flatten⟩)) ∧
     (s.asked r .readStops → exec .readStops s = .next (s.taken.respond r
       ⟨.done, [BitVec.ofNat 8 s.sru.list.length, BitVec.ofNat 8 (r.byte 0).toNat,
           BitVec.ofNat 8 (min 4 (s.sru.list.length - (r.byte 0).toNat)), BitVec.ofNat 8 s.sru.door.code,
           BitVec.ofNat 8 s.sru.sides.code] ++
         (((s.sru.list.drop (r.byte 0).toNat).take 4).map StopEntry.record).flatten⟩)) ∧
     (s.asked r .readStep →
       ((r.byte 0).toNat ≤ 4 →
         exec .readStep s = .next (s.taken.respond r ⟨.done, stepPart s.tdu.record (r.byte 0).toNat⟩)) ∧
       (4 < (r.byte 0).toNat → exec .readStep s = .next (s.taken.respond r ⟨.refusedRange, []⟩)))) ∧
  (∀ e : Restriction, e.record =
     [(match e.source with
       | .doors => 0 | .junction => 1 | .route => 2 | .speedLost => 3 | .unitsLost => 4 | .brake => 5 | .vigil => 6
       | .handle => 7 | .desk => 8 | .mode => 9)] ++ half2 e.key ++
     (match e.kind with | .cap v => 0 :: half2 (BitVec.ofNat 16 v) | .hold => [1, 255, 255] | .emergency _ => [2, 255, 255]) ++
     word4 e.raisedAt ++ [(match e.kind with | .emergency true => 1 | .emergency false => 0 | _ => 255)] ∧
       e.record.length = 11) ∧
  (∀ x : Transaction, x.record =
     half2 x.junction ++ [(match x.entry with | some i => BitVec.ofNat 8 i | none => 255),
       (match x.dir with | some .l => 0 | some .s => 1 | some .r => 2 | none => 3),
       (match x.source with | .table => 0 | .manual => 1),
       (match x.state with
         | .announced => 0 | .requesting => 1 | .confirmed => 2 | .unconfirmed => 3 | .proceed => 4 | .awaitDriver => 5
         | .notRequired => 6), BitVec.ofNat 8 x.attempts] ++
     (match x.lastSeq with | some q => [0, q] | none => [255, 255]) ++ int4 x.remaining ++
     [BitVec.ofNat 8 x.confirm, BitVec.ofNat 8 x.clearance] ++ half2 (BitVec.ofNat 16 x.cap) ∧
       x.record.length = 17) ∧
  (∀ x : StopEntry, x.record =
     [BitVec.ofNat 8 x.source, (match x.kind with | .normal => 0 | .assist => 1)] ++ word4 x.registeredAt ∧
       x.record.length = 6) ∧
  (∀ (m : Mode) (left : Nat), timerBytes m none = [0, 255, 255] ∧
     ((m = .service ∨ m = .holdPending) → timerBytes m (some left) = 1 :: half2 (BitVec.ofNat 16 left)) ∧
     (m ≠ .service → m ≠ .holdPending → timerBytes m (some left) = 2 :: half2 (BitVec.ofNat 16 left))) ∧
  (stepPart none 0 = List.replicate 31 0 ∧ ∀ n, stepPart none (n + 1) = List.replicate 12 0) ∧
  (∀ x : StepRecord, stepPart (some x) 0 =
     word4 x.period ++
     [BitVec.ofNat 8 ((if x.stepped then 1 else 0) + (if x.speed.isSome then 2 else 0) + (if x.lastUsed then 4 else 0) +
       (if x.hold then 8 else 0) + (if x.emergency then 16 else 0) + (if x.overspeed then 32 else 0) +
       (if x.cut then 64 else 0) + 128)] ++
     (match x.speed with
       | some y => half2 (BitVec.ofNat 16 y.v) ++ half2 (BitVec.ofNat 16 y.vMin) | none => [0, 0, 0, 0]) ++
     [BitVec.ofNat 8 ((match x.held with | .fwd => 0 | .rev => 1 | .neutral => 2) +
       (match x.limb with | none => 0 | some (.power, _) => 16 | some (.brake, _) => 32))] ++
     half2 (BitVec.ofInt 16 x.handle) ++
     (match x.limb with | none => [255, 255] | some (_, e) => half2 (BitVec.ofNat 16 e)) ++
     half2 (BitVec.ofInt 16 x.target1) ++ half2 (BitVec.ofNat 16 x.cap) ++ half2 (BitVec.ofInt 16 x.target2) ++
     [BitVec.ofNat 8 x.jerkStep] ++ half2 (BitVec.ofInt 16 x.cmdOld) ++ half2 (BitVec.ofInt 16 x.cmd) ++
     [BitVec.ofNat 8 x.weight, BitVec.ofNat 8 x.remainder] ++ half2 (BitVec.ofNat 16 x.deficit) ++
     half2 (BitVec.ofNat 16 x.mech) ∧ (stepPart (some x) 0).length = 31) ∧
  (∀ (x : StepRecord) (n : Nat) (y : UnitRecord), x.units[n]? = some y → stepPart (some x) (n + 1) =
     word4 x.period ++
     [BitVec.ofNat 8 ((if x.stepped then 1 else 0) + (if y.available then 2 else 0) + (if y.slipping then 4 else 0) + 128),
       BitVec.ofNat 8 y.factor] ++ half2 (BitVec.ofNat 16 y.base) ++ half2 (BitVec.ofInt 16 y.allocated) ++
     half2 (BitVec.ofInt 16 y.published)) ∧
  (∀ (s : State) (i : Nat), i < 128 → Item.ofNumber i = some (.slot i) ∧ ∀ x, x = s.sgt.slot i →
     s.itemValue (.slot i) =
       [(match x.state with | .never => 0 | .fresh => 1 | .stale => 2), BitVec.ofNat 8 x.age, BitVec.ofNat 8 x.limit,
         x.updates, (match x.source with | some a => a | none => 255), BitVec.ofNat 8 x.value.length] ++ x.value ++
       List.replicate (8 - x.value.length) 0) ∧
  (∀ (s : State) (n : Nat) (ch : Channel) (c : SoundChannel),
     (n = 0x0710 ∧ ch = .horn ∨ n = 0x0711 ∧ ch = .bell ∨ n = 0x0712 ∧ ch = .chime) → c = s.ssq.channel ch →
       Item.ofNumber n = some (.channel ch) ∧
       ∃ playing : List Byte, ∃ requests : List (List Byte),
         s.itemValue (.channel ch) = playing ++ requests.flatten ++ List.replicate (3 * (4 - c.queue.length)) 255 ++
           [(if c.output then 1 else 0), (if c.isOpen then 1 else 0), (if s.ssq.idle ch then 1 else 0)] ∧
         (c.playing = none → playing = List.replicate 7 255) ∧
         (∀ x, c.playing = some x → playing = x.request.record ++
           [(if x.second then 2 else 1), BitVec.ofNat 8 x.repeatsLeft, BitVec.ofNat 8 x.step,
             (if ch = .horn ∧ s.ssq.direct ≠ none then 1 else 0)]) ∧
         requests = c.queue.map SoundRequest.record) ∧
  (∀ x : SoundRequest, x.record = [BitVec.ofNat 8 x.pattern,
     (match x.source with | .driver => 0 | .vigil => 1 | .doors => 2 | .route => 3 | .stops => 4),
     BitVec.ofNat 8 x.priority]) ∧
  (∀ (s : State) (n : Nat) (bytes : List Byte), (n, bytes) ∈
       [(0x0080, (match s.sgt.lastStale with | some i => int4 i | none => [255, 255, 255, 255])),
         (0x0100, int4 (s.port .a).counters.forwarded.toNat), (0x0101, int4 (s.port .a).counters.checkFail.toNat),
         (0x0102, int4 (s.port .a).counters.rxOverrun.toNat), (0x0103, int4 (s.port .a).counters.loop.toNat),
         (0x0104, int4 (s.port .a).counters.fwdDrop.toNat), (0x0105, int4 (s.port .a).counters.ownDrop.toNat),
         (0x0106, int4 (s.port .a).counters.linkDiscard.toNat), (0x0110, int4 (s.port .b).counters.forwarded.toNat),
         (0x0111, int4 (s.port .b).counters.checkFail.toNat), (0x0112, int4 (s.port .b).counters.rxOverrun.toNat),
         (0x0113, int4 (s.port .b).counters.loop.toNat), (0x0114, int4 (s.port .b).counters.fwdDrop.toNat),
         (0x0115, int4 (s.port .b).counters.ownDrop.toNat), (0x0116, int4 (s.port .b).counters.linkDiscard.toNat)] ++
       [(0x0200, [(match s.dci.state with | .ok => 0 | .lost => 1), BitVec.ofNat 8 s.dci.badRun, BitVec.ofNat 8 s.dci.goodRun]),
         (0x0201, word4 s.dci.image ++ half2 (BitVec.ofInt 16 s.dci.handle)),
         (0x0202, (match s.dci.state with | .ok => word4 s.dci.image ++ half2 (BitVec.ofInt 16 s.dci.handle) | .lost => [0, 0, 0, (if s.dci.heldKey then 1 else 0), 0, 0])),
         (0x0203, word4 s.dci.lamps), (0x0204, int4 s.dci.badScans.toNat)] ++
       [(0x0300, int4 s.tdu.items.deadBand), (0x0301, int4 s.tdu.items.emergBrake),
         (0x0302, int4 s.tdu.items.holdBrake), (0x0303, int4 s.tdu.items.enforceBrake),
         (0x0304, int4 s.tdu.items.overspeedBand), (0x0305, int4 s.tdu.items.jerk),
         (0x0306, int4 s.tdu.items.vigilWarn), (0x0307, int4 s.tdu.items.vigilLimit),
         (0x0308, int4 s.tdu.items.slipThreshold), (0x0309, int4 s.tdu.items.setpointId.toNat)] ++
       [(0x0310, (match s.tdu.speed with | some x => 1 :: half2 (BitVec.ofNat 16 x.v) ++ half2 (BitVec.ofNat 16 x.vMin) | none => [0, 255, 255, 255, 255])),
         (0x0311, word4 s.tdu.odometer), (0x0312, int4 s.tdu.eCmd),
         (0x0313, (match s.tdu.held with | .fwd => int4 0 | .rev => int4 1 | .neutral => int4 2)),
         (0x0314, [BitVec.ofNat 8 (s.tdu.slips.getD 0 ⟨100, 0⟩).factor, BitVec.ofNat 8 (s.tdu.slips.getD 0 ⟨100, 0⟩).clean]),
         (0x0315, [BitVec.ofNat 8 (s.tdu.slips.getD 1 ⟨100, 0⟩).factor, BitVec.ofNat 8 (s.tdu.slips.getD 1 ⟨100, 0⟩).clean]),
         (0x0316, [BitVec.ofNat 8 (s.tdu.slips.getD 2 ⟨100, 0⟩).factor, BitVec.ofNat 8 (s.tdu.slips.getD 2 ⟨100, 0⟩).clean]),
         (0x0317, [BitVec.ofNat 8 (s.tdu.slips.getD 3 ⟨100, 0⟩).factor, BitVec.ofNat 8 (s.tdu.slips.getD 3 ⟨100, 0⟩).clean]),
         (0x0318, int4 s.tdu.vigil),
         (0x0319, [(if s.tdu.overspeed then 1 else 0), (if s.tdu.unitsDegraded then 1 else 0), (if s.tdu.tractionCut then 1 else 0)]),
         (0x0320, [(if s.tdu.curveActive.valid then 1 else 0), (if s.tdu.curveShadow.valid then 1 else 0)]),
         (0x0321, [(if s.tdu.allocActive.valid then 1 else 0), (if s.tdu.allocShadow.valid then 1 else 0)])] ++
       [(0x0400, int4 s.rtu.items.tramNumber.toNat), (0x0401, int4 s.rtu.items.confirmTimeout),
         (0x0402, int4 s.rtu.items.shortRetries), (0x0403, int4 s.rtu.items.defaultCap),
         (0x0404, int4 s.rtu.items.proceedCap), (0x0405, int4 s.rtu.items.defaultClearance),
         (0x0406, (match s.rtu.items.noMatch with | .pass => int4 0 | .manual => int4 1)),
         (0x0410, int4 s.rtu.seq.toNat), (0x0411, int4 s.rtu.routeNumber), (0x0500, int4 s.tlk.rxGood.toNat),
         (0x0501, int4 s.tlk.rxBad.toNat), (0x0502, int4 s.tlk.collide.toNat), (0x0503, int4 s.tlk.txSent.toNat),
         (0x0504, int4 s.tlk.retry.toNat), (0x0505, int4 (if s.tlk.rollover then 1 else 0)),
         (0x0506, (match s.tlk.state with | .listen => int4 0 | .receiving => int4 1 | .transmitting => int4 2)),
         (0x0507, (match s.tlk.condition with | .ok => int4 0 | .fault => int4 1)), (0x0508, int4 s.tlk.run),
         (0x0509, int4 (if s.tlk.slot.isSome then 1 else 0))] ++
       [(0x0600, (match s.sru.door with | .closedLocked => int4 0 | .released => int4 1 | .closing => int4 2)),
         (0x0601, int4 ((if s.sru.sides.left then 1 else 0) + (if s.sru.sides.right then 2 else 0))),
         (0x0602, word4 s.sru.image), (0x0603, word4 s.sru.armed),
         (0x0604, (match s.sru.view with | some x => [1, (if x.closed then 1 else 0), (if x.locked then 1 else 0)] | none => [0, 255, 255])),
         (0x0605, int4 (if s.sru.mark then 1 else 0)), (0x0606, int4 s.sru.doorCommandId.toNat),
         (0x0607, int4 s.sru.stopDisplayId.toNat), (0x0608, int4 (s.sgt.brakeSlot.getD 255)),
         (0x0609, int4 (s.sgt.doorSlot.getD 255)), (0x060a, int4 (s.sgt.stopSlot.getD 255))] ++
       [(0x0700, int4 s.ssq.items.stopPat), (0x0701, int4 s.ssq.items.assistPat),
         (0x0702, int4 s.ssq.items.doorClosingPat), (0x0703, int4 s.ssq.items.vigilPat),
         (0x0704, int4 s.ssq.items.driverBellPat), (0x0705, int4 s.ssq.items.emergHornPat),
         (0x0713, (match s.ssq.direct with | none => [0, 255, 255, 255, 255] | some d => (if d.held then 1 else 2) :: word4 (Config.pressTimeReading d.pressTime)))] ++
       [(0x0800, int4 (if (s.efn.channel 0).enable then 1 else 0)),
         (0x0801, int4 (if (s.efn.channel 1).enable then 1 else 0)),
         (0x0802, int4 (if (s.efn.channel 2).enable then 1 else 0)),
         (0x0803, int4 (if (s.efn.channel 3).enable then 1 else 0)), (0x0804, int4 (s.efn.channel 0).dest),
         (0x0805, int4 (s.efn.channel 1).dest), (0x0806, int4 (s.efn.channel 2).dest),
         (0x0807, int4 (s.efn.channel 3).dest),
         (0x0808, (match s.efn.map with | .block => int4 0 | .interleave => int4 1)),
         (0x0900, BitVec.ofNat 8 (match s.mcr.mode with | .starting => 0 | .failed => 1 | .configure => 2 | .service => 3 | .holdPending => 4 | .hold => 5 | .step => 6 | .standby => 7) :: (if s.mcr.mode = .starting then half2 (BitVec.ofNat 16 s.mcr.checkLeft) else [255, 255])),
         (0x0901, (match s.mcr.address with | some x => int4 x.toNat | none => [255, 255, 255, 255]))] →
       ∃ i, Item.ofNumber n = some i ∧ s.itemValue i = bytes) ∧
  (∀ n : Nat, Item.ofNumber n ≠ none ↔ n ≤ 0x0080 ∨ (0x0100 ≤ n ∧ n ≤ 0x0106) ∨ (0x0110 ≤ n ∧ n ≤ 0x0116) ∨
     (0x0200 ≤ n ∧ n ≤ 0x0204) ∨ (0x0300 ≤ n ∧ n ≤ 0x0309) ∨ (0x0310 ≤ n ∧ n ≤ 0x0319) ∨ n = 0x0320 ∨ n = 0x0321 ∨
     (0x0400 ≤ n ∧ n ≤ 0x0406) ∨ n = 0x0410 ∨ n = 0x0411 ∨ (0x0500 ≤ n ∧ n ≤ 0x0509) ∨ (0x0600 ≤ n ∧ n ≤ 0x060a) ∨
     (0x0700 ≤ n ∧ n ≤ 0x0705) ∨ (0x0710 ≤ n ∧ n ≤ 0x0713) ∨ (0x0800 ≤ n ∧ n ≤ 0x0808) ∨ n = 0x0900 ∨ n = 0x0901)

/-- WRITE_ITEM by its write class (R177): unknown numbers and read-only items answer BAD_ITEM, held
configuration outside CONFIGURE and HOLD answers REFUSED_MODE, clear-on-write items are cleared, and every
other item takes the fitted value, answered DONE_CLAMPED when it is not the written one (R178), never for
NOTIFY_ENABLE, and for every NO_MATCH_POLICY but PASS (R100; what counts as PASS is log 23's). The fitted value
of every such item is given (R32, R76, R100, R161, R178); that a pattern item takes a negative value as 0 with
DONE_CLAMPED is the model's choice (log 41). -/
def Obligations.WritesFollowTheirClass : Prop :=
  (∀ (s : State) (r : Request), s.asked r .writeItem →
    (Item.ofNumber (r.half 0).toNat = none → exec .writeItem s = .next (s.taken.respond r ⟨.badItem, []⟩)) ∧
    ∀ i : Item, Item.ofNumber (r.half 0).toNat = some i →
      (i.writeClass = .readOnly → exec .writeItem s = .next (s.taken.respond r ⟨.badItem, []⟩)) ∧
      (i.writeClass = .heldConfiguration → s.mcr.mode ≠ .configure → s.mcr.mode ≠ .hold →
        exec .writeItem s = .next (s.taken.respond r ⟨.refusedMode, []⟩)) ∧
      (i.writeClass = .clearOnWrite →
        exec .writeItem s = .next ((s.taken.clearItem i).respond r ⟨.done, [0, 0, 0, 0]⟩) ∧
          (s.taken.clearItem i).itemValue i = [0, 0, 0, 0]) ∧
      (∀ v w : Int, v = r.int 2 → w = s.fitItem i v →
        (i.writeClass = .heldConfiguration ∧ (s.mcr.mode = .configure ∨ s.mcr.mode = .hold)) ∨
            i.writeClass = .notification →
          exec .writeItem s = .next ((s.taken.setItem i w.toNat).respond r
            ⟨(match i with
              | .route .noMatch => if v = 0 then .done else .doneClamped
              | .notifyEnable _ => .done
              | _ => if w = v then .done else .doneClamped), int4 w⟩))) ∧
  (∀ (s : State) (v : Int),
     s.fitItem (.traction .deadBand) v = max 0 (min 100 v) ∧ s.fitItem (.traction .emergBrake) v = max 0 (min 1000 v) ∧
     s.fitItem (.traction .holdBrake) v = max 0 (min 1000 v) ∧
     s.fitItem (.traction .enforceBrake) v = max 0 (min 1000 v) ∧
     s.fitItem (.traction .overspeedBand) v = max 0 (min 100 v) ∧
     s.fitItem (.traction .jerk) v = max 100 (min 5000 v) ∧
     s.fitItem (.traction .vigilWarn) v = max 1000 (min ((s.tdu.items.vigilLimit : Int) - 500) (20 * (v / 20))) ∧
     s.fitItem (.traction .vigilLimit) v = max ((s.tdu.items.vigilWarn : Int) + 500) (min 15000 (20 * (v / 20))) ∧
     s.fitItem (.traction .slipThreshold) v = max 1 (min 200 v) ∧
     s.fitItem (.traction .setpointId) v = max 0 (min 65535 v) ∧
     s.fitItem (.route .tramNumber) v = max 0 (min 65535 v) ∧
     s.fitItem (.route .confirmTimeout) v = max 100 (min 1000 (20 * (v / 20))) ∧
     s.fitItem (.route .shortRetries) v = max 0 (min 3 v) ∧ s.fitItem (.route .defaultCap) v = max 0 (min 1500 v) ∧
     s.fitItem (.route .proceedCap) v = max 0 (min 1500 v) ∧
     s.fitItem (.route .defaultClearance) v = max 0 (min 255 v) ∧
     s.fitItem (.route .noMatch) v = (if v = 0 then 0 else 1) ∧
     (∀ b, s.fitItem (.binding b) v = if v = 255 then 255 else max 0 (min 127 v)) ∧
     s.fitItem .doorCommandId v = max 0 (min 65535 v) ∧ s.fitItem .stopDisplayId v = max 0 (min 65535 v) ∧
     (∀ p, s.fitItem (.pattern p) v = max 0 (min 15 v)) ∧
     (∀ c, s.fitItem (.notifyEnable c) v = if v = 0 then 0 else 1) ∧
     (∀ c, s.fitItem (.notifyDest c) v = max 0 (min 63 v)) ∧ s.fitItem .notifyMap v = if v = 1 then 1 else 0)

/-- An item that a write has set reads as the answered value (R177, R178): for every item of held
configuration and every notification setting, with the traction items in range. -/
def Obligations.WrittenItemsReadBack : Prop :=
  ∀ (s : State) (n : Nat) (i : Item) (v : Int), s.Shaped → s.tdu.items.InRange → Item.ofNumber n = some i →
    (i.writeClass = .heldConfiguration ∨ i.writeClass = .notification) →
      (s.storeItem i v).1.itemValue i = (s.storeItem i v).2.results

/-- LOAD_ENTRY (R23, R160, R179 to R181): an unknown table answers BAD_ITEM, a window outside CONFIGURE and HOLD
REFUSED_MODE, an index, field or bank out of range REFUSED_RANGE; a load that names the ACTIVE bank of a banked
table answers LIVE_BANK, one of a pattern that plays on a channel LIVE_PATTERN, each with LIVE_WRITE alone; any
other replaces the entry and adds its bytes to the load check sum. -/
def Obligations.LoadsAreDecided : Prop :=
  ∀ (s : State) (r : Request), s.asked r .loadEntry →
    (TableName.ofCode (r.byte 0) = none → exec .loadEntry s = .next (s.taken.respond r ⟨.badItem, []⟩)) ∧
    ∀ (t : TableName) (banked : Bool) (index entry : List Byte), TableName.ofCode (r.byte 0) = some t →
      banked = decide (t = .curve ∨ t = .allocation ∨ t = .route) →
      index = (r.payload.drop 2).take t.indexBytes → entry = (r.payload.drop 2).drop t.indexBytes →
        (t = .window → s.mcr.mode ≠ .configure → s.mcr.mode ≠ .hold →
          exec .loadEntry s = .next (s.taken.respond r ⟨.refusedMode, []⟩)) ∧
        (t ≠ .window ∨ s.mcr.mode = .configure ∨ s.mcr.mode = .hold →
          (readIndex t index = none ∨ readLoaded t entry = none ∨ (banked = true ∧ r.byte 1 ≠ 0 ∧ r.byte 1 ≠ 1) →
            exec .loadEntry s = .next (s.taken.respond r ⟨.refusedRange, []⟩)) ∧
          (∀ (i : Index) (e : LoadedEntry), readIndex t index = some i → readLoaded t entry = some e →
            (banked = true → r.byte 1 = 0 →
              exec .loadEntry s = .next ((s.taken.setFlag .liveWrite).respond r ⟨.liveBank, []⟩)) ∧
            (t = .pattern → (∃ ch x, (s.ssq.channel ch).playing = some x ∧ x.request.pattern = i.number) →
              exec .loadEntry s = .next ((s.taken.setFlag .liveWrite).respond r ⟨.livePattern, []⟩)) ∧
            (banked = true ∧ r.byte 1 = 1 ∨ t = .window ∨ t = .stopSource ∨
                (t = .pattern ∧ ∀ ch x, (s.ssq.channel ch).playing = some x → x.request.pattern ≠ i.number) →
              exec .loadEntry s = .next (((s.taken.replaceEntry i e).withMcr
                { s.mcr with loadSum := s.mcr.loadSum + sum32 (r.payload.drop 2) }).respond r ⟨.done, []⟩))))

/-- An entry that a load has stored is read back byte for byte (R179, R182, R206, R207). -/
def Obligations.LoadedEntriesReadBack : Prop :=
  ∀ (s u : State) (t : TableName) (bank : Byte) (b : Bank) (i : Index) (bytes : List Byte), s.Shaped →
    s.load t bank bytes = (u, .done) → readBank t bank = some b → readIndex t (bytes.take t.indexBytes) = some i →
      (u.entryBytes t b i).take t.entryBytes = bytes.drop t.indexBytes

/-- COMMIT and READ_LOAD_SUM (R59, R68, R98, R181, R183). A curve or allocation commit in CONFIGURE, HOLD, or
SERVICE at standstill is REFUSED_INVALID while the loaded bank is not ready, and else makes that bank the ACTIVE
one and leaves both banks equal; elsewhere it is REFUSED_BUSY. A curve bank is ready with both limbs ascending,
an allocation bank with an entry present and of weight above 0. A route commit is decided by the queue alone, and
a commit of a table without banks is BAD_ITEM. READ_LOAD_SUM answers the sum and clears it. -/
def Obligations.CommitsMakeBanksEqual : Prop :=
  ∀ (s : State) (r : Request) (allowed ascending weighted : Prop),
    (allowed ↔ s.mcr.mode = .configure ∨ s.mcr.mode = .hold ∨ (s.mcr.mode = .service ∧ s.still)) →
    (ascending ↔ s.tdu.curveShadow.power.Pairwise (·.speed < ·.speed) ∧
      s.tdu.curveShadow.brake.Pairwise (·.speed < ·.speed)) →
    (weighted ↔ ∃ u ∈ s.tdu.allocShadow.units, u.present = true ∧ 0 < u.weight) →
    (s.asked r .commit →
      (r.byte 0 = 1 → allowed → ascending →
        exec .commit s = .next ((s.taken.withTdu { s.tdu with
          curveActive := { s.tdu.curveShadow with valid := true }
          curveShadow := { s.tdu.curveShadow with valid := true } }).respond r ⟨.done, []⟩)) ∧
      (r.byte 0 = 2 → allowed → weighted →
        exec .commit s = .next ((s.taken.withTdu { s.tdu with
          allocActive := { s.tdu.allocShadow with valid := true }
          allocShadow := { s.tdu.allocShadow with valid := true } }).respond r ⟨.done, []⟩)) ∧
      ((r.byte 0 = 1 ∧ allowed ∧ ¬ ascending) ∨ (r.byte 0 = 2 ∧ allowed ∧ ¬ weighted) →
        exec .commit s = .next (s.taken.respond r ⟨.refusedInvalid, []⟩)) ∧
      (r.byte 0 = 1 ∨ r.byte 0 = 2 → ¬ allowed →
        exec .commit s = .next (s.taken.respond r ⟨.refusedBusy, []⟩)) ∧
      (r.byte 0 ≠ 1 → r.byte 0 ≠ 2 → r.byte 0 ≠ 3 →
        exec .commit s = .next (s.taken.respond r ⟨.badItem, []⟩)) ∧
      (r.byte 0 = 3 → s.rtu.queue = [] →
        exec .commit s = .next ((s.taken.withRtu { s.rtu with active := s.rtu.shadow }).respond r ⟨.done, []⟩)) ∧
      (r.byte 0 = 3 → s.rtu.queue ≠ [] → exec .commit s = .next (s.taken.respond r ⟨.refusedBusy, []⟩))) ∧
    (s.asked r .readLoadSum →
      exec .readLoadSum s = .next ((s.taken.withMcr { s.mcr with loadSum := 0 }).respond r ⟨.done, word4 s.mcr.loadSum⟩))

/-- READ_FLAGS answers a group's flags and enables and clears exactly those flags; SET_ENABLES replaces
the group's enables alone; a group above 3 is refused (R188, R189). -/
def Obligations.FlagGroupsAreReadAndEnabled : Prop :=
  ∀ (s : State) (r : Request) (g : Nat), g = (r.byte 0).toNat →
    (s.asked r .readFlags → g ≤ 3 → ∃ u : State, exec .readFlags s = .next (u.respond r
        ⟨.done, half2 (s.efn.flags.extractLsb' (16 * g) 16) ++ half2 (s.efn.enables.extractLsb' (16 * g) 16)⟩) ∧
      u = s.taken.withEfn { s.efn with flags := u.efn.flags } ∧
      ∀ n, u.efn.flags.getLsbD n = (s.efn.flags.getLsbD n && n / 16 != g)) ∧
    (s.asked r .readFlags → 3 < g → exec .readFlags s = .next (s.taken.respond r ⟨.refusedRange, []⟩)) ∧
    (s.asked r .setEnables → g ≤ 3 → ∃ u : State, exec .setEnables s = .next (u.respond r ⟨.done, []⟩) ∧
      (∀ n, n < 64 → u.efn.enables.getLsbD n =
        (if n / 16 = g then (be2 (r.byte 1) (r.byte 2)).getLsbD (n % 16) else s.efn.enables.getLsbD n)) ∧
      u.tdu = s.tdu ∧ u.rsl = s.rsl ∧ u.rtu = s.rtu ∧ u.mcr = s.mcr ∧
      ∀ n, s.efn.flags.getLsbD n = true → u.efn.flags.getLsbD n = true) ∧
    (s.asked r .setEnables → 3 < g → exec .setEnables s = .next (s.taken.respond r ⟨.refusedRange, []⟩))

/-- The flags have the numbers of R186. A channel is raised while a flag that the map gives it, in BLOCK n / 16 and in
INTERLEAVE n mod 4, is both set and enabled (R190). A channel that a flag takes from quiet to raised sends one NOTIFY
to its destination (R16, R187, R191): on both ports to 63 or to a node heard at both or at neither, and at the one
port where a node has been heard; with a place free in those ports it is the last frame that each has to send. To 0
or the own address it is unsendable and sets OWN_DROP. A flag does nothing else where its channel is raised already
or off, its enable is off, the mode is none that reports, or the part has no address. Enabling a raised channel sends
its NOTIFY (R191). A mode that reports, entered from one that does not, sends one NOTIFY for each raised channel that
is on, in order (R192), and so do RELEASE from HOLD and the end of a check that passes; any other change of mode sends
none. That these come before what else the change of mode sends is the model's choice (log 9). -/
def Obligations.RaisedChannelNotifies : Prop :=
  ([Flag.linkDown, .fwdDrop, .ownDrop, .mgmtOverrun, .slotRange, .slotTrunc, .slotStale, .slotShort, .liveWrite,
    .deskLost, .deskOk, .speedLost, .dirHeld, .brakeFault, .vigilWarn, .vigilTrip, .handleEmerg, .unitsLost, .rslChange,
    .jqFull, .jqAbandon, .lateConfirm, .jnUnconfirmed, .trackCollide, .trackFault, .trackOk, .retryRollover,
    .stopFirst, .assistFirst, .doorRelRefused, .soundDrop, .soundOpenHorn, .soundOpenBell, .soundOpenChime].map
      Flag.number =
    List.range' 0 9 ++ List.range' 16 10 ++ List.range' 32 8 ++ List.range' 48 7) ∧
  (∀ (e : Notifier) (c : Nat), c < 4 →
     (e.raised c = true ↔
       ∃ n, n < 64 ∧ e.map.ChannelIs n c ∧ e.flags.getLsbD n = true ∧ e.enables.getLsbD n = true)) ∧
  (∀ (s u : State) (f : Flag) (own dest : Byte) (c : Nat), s.efn.map.ChannelIs f.number c →
     u = s.withEfn { s.efn with flags := s.efn.flags ||| BitVec.twoPow 64 f.number } →
     (s.efn.raised c = true ∨ s.efn.enables.getLsbD f.number = false ∨ (s.efn.channel c).enable = false ∨
         s.mcr.address = none ∨ s.mcr.mode.sounding = false → s.setFlag f = u) ∧
     (s.mcr.address = some own → s.efn.raised c = false → s.efn.enables.getLsbD f.number = true →
       (s.efn.channel c).enable = true →
       (s.mcr.mode = .configure ∨ s.mcr.mode = .service ∨ s.mcr.mode = .holdPending) →
       dest = BitVec.ofNat 8 (s.efn.channel c).dest →
         ∃ n : Frame, u.NotifyIs own c n ∧ n.seq = s.line.txSeq ∧
           ((dest = 63 ∨ (dest ≠ 0 ∧ dest ≠ own ∧ (dest ∈ s.line.a.seen ↔ dest ∈ s.line.b.seen))) →
             s.line.a.hasRoom → s.line.b.hasRoom →
               (∀ p, ((s.setFlag f).port p).toSend = (s.port p).toSend ++ [⟨n, .own⟩]) ∧
                 s.setFlag f = u.withLine (s.setFlag f).line) ∧
           (∀ p, dest ≠ 63 → dest ≠ 0 → dest ≠ own → dest ∈ (s.port p).seen → dest ∉ (s.port (otherPort p)).seen →
             (s.port p).hasRoom →
               ((s.setFlag f).port p).toSend = (s.port p).toSend ++ [⟨n, .own⟩] ∧
                 (s.setFlag f).port (otherPort p) = s.port (otherPort p) ∧
                 s.setFlag f = u.withLine (s.setFlag f).line) ∧
           (dest ≠ 63 → dest = 0 ∨ dest = own → (s.setFlag f).efn.isSet .ownDrop = true ∧
             (s.efn.map.ChannelIs 2 c → ∀ p, (s.setFlag f).port p = { s.port p with
               counters := { (s.port p).counters with ownDrop := satInc (s.port p).counters.ownDrop } })))) ∧
  (∀ (s : State) (own : Byte) (c : Nat), s.Shaped → s.mcr.address = some own → c < 4 → s.efn.raised c = true →
     (s.efn.channel c).dest = 63 → s.line.a.hasRoom → s.line.b.hasRoom →
       ((s.efn.channel c).enable = false → s.mcr.mode.sounding = true → ∃ n : Frame, s.NotifyIs own c n ∧
         ∀ p, ((s.setItem (.notifyEnable c) 1).port p).toSend = (s.port p).toSend ++ [⟨n, .own⟩]) ∧
       ((s.efn.channel c).enable = true ∨ s.mcr.mode.sounding = false →
         (s.setItem (.notifyEnable c) 1).line = s.line)) ∧
  (∀ (s : State) (own : Byte) (m : Mode), s.mcr.address = some own → s.mcr.mode.sounding = false → m.sounding = true →
     (∀ p, (s.port p).link = .up ∧ (s.port p).egress.length ≤ 4) → (∀ c ∈ s.efn.channels, c.dest = 63) →
       (∃ ns : List Frame,
         ns.map (·.id) = ([0, 1, 2, 3].filter fun c => s.efn.raised c && (s.efn.channel c).enable).map (BitVec.ofNat 16) ∧
         (∀ (i : Nat) (n : Frame), ns[i]? = some n → n.seq = s.line.txSeq + BitVec.ofNat 8 i ∧
           ∃ c, c < 4 ∧ s.NotifyIs own c n) ∧
         ∀ p, ∃ rest, ((s.changeMode m).port p).toSend = (s.port p).toSend ++ ns.map (fun n => ⟨n, .own⟩) ++ rest) ∧
       ∀ c t, c < 4 → s.efn.raised c = true → (s.efn.channel c).enable = true →
         (s.mcr.mode = .starting ∧ exec (.startupCheckEnd true) s = .next t) ∨
             (s.mcr.mode = .hold ∧ (∃ r, s.asked r .release) ∧ exec .release s = .next t) →
           ∃ (n : Frame) (u : State), u.NotifyIs own c n ∧ s.flagsKept u ∧ u.efn = { s.efn with flags := u.efn.flags } ∧
             ∀ p, ⟨n, .own⟩ ∈ (t.port p).toSend) ∧
  (∀ (s : State) (m : Mode), m.sounding = false ∨ (s.mcr.mode.sounding = true ∧ s.DoorsHeld) →
     (s.changeMode m).line = s.line)

/-- HOLD_SOFT, HOLD_HARD and RELEASE where they change the mode, with the key on (R67, R95, R197, R198): a hold
that is complete at once is HOLD, one that is not is HOLD_PENDING, which the end of each speed evaluation
completes as soon as the tram stands, no junction is queued and every channel is idle. With the key off the end
of a speed evaluation at standstill, and a scan that turns the key off at standstill, enter STANDBY (R200), where the
raising blocks' records are clear (R94) and nothing else of the desk chain interface has changed (R46; that its record
follows R94 is log 47's). -/
def Obligations.HoldsAreEnteredAndLeft : Prop :=
  (∀ (s : State) (r : Request), s.dci.heldKey = true →
    (s.asked r .holdSoft → s.DoorsHeld → s.mcr.mode = .service →
      (¬ s.still ∨ s.rtu.queue ≠ [] ∨ s.ssq.allIdle = false) →
        ∃ t, exec .holdSoft s = .next t ∧ t.mcr.mode = .holdPending ∧ t.rsl = s.rsl ∧ t.tdu = s.tdu ∧ t.rtu = s.rtu ∧
          t.ssq = s.ssq) ∧
    (s.asked r .holdSoft → s.mcr.mode = .service → s.still → s.rtu.queue = [] → s.ssq.allIdle = true →
      ∃ t, exec .holdSoft s = .next t ∧ t.mcr.mode = .hold ∧ hasEntry t.rsl .mode ∧ t.tdu.eCmd = s.tdu.eCmd ∧
        t.tdu.vigil = 0 ∧ t.rtu = s.rtu ∧ t.ssq.allIdle = true) ∧
    (s.asked r .holdHard → (s.mcr.mode = .service ∨ s.mcr.mode = .holdPending) → s.still →
        ∃ t, exec .holdHard s = .next t ∧ t.mcr.mode = .hold ∧ hasEntry t.rsl .mode ∧ t.tdu.eCmd = s.tdu.eCmd ∧
          t.tdu.vigil = 0 ∧ t.rtu = s.rtu ∧ t.ssq.allIdle = true) ∧
    (s.asked r .holdHard → (s.mcr.mode = .service ∨ s.mcr.mode = .holdPending) → ¬ s.still →
        exec .holdHard s = .next (s.taken.respond r ⟨.refusedBusy, []⟩)) ∧
    (s.asked r .release → s.mcr.mode = .hold → s.Distinct → s.ModeHeld →
      ∃ t, exec .release s = .next t ∧ t.mcr.mode = .service ∧ t.tdu.eCmd = 0 ∧ ¬ hasEntry t.rsl .mode ∧
        t.rtu = s.rtu) ∧
    (s.asked r .release → s.DoorsHeld → s.mcr.mode = .holdPending →
      ∃ t, exec .release s = .next t ∧ t.mcr.mode = .service ∧ t.tdu = s.tdu ∧ t.rsl = s.rsl)) ∧
  (∀ s : State, s.dci.heldKey = true → s.mcr.mode = .holdPending → ∃ t, exec .controlPeriod s = .next t ∧
     ((t.mcr.mode = .holdPending ∧ (¬ t.still ∨ t.rtu.queue ≠ [] ∨ t.ssq.allIdle = false)) ∨
       (t.mcr.mode = .hold ∧ t.still ∧ t.rtu.queue = [] ∧ t.ssq.allIdle = true ∧ hasEntry t.rsl .mode))) ∧
  (∀ s : State, s.dci.heldKey = false →
     (s.mcr.mode = .service ∨ s.mcr.mode = .holdPending ∨ s.mcr.mode = .hold) →
       ∃ t, exec .controlPeriod s = .next t ∧ ((t.StandsBy ∧ t.dci = { s.dci with raised := none }) ∨
         (t.mcr.mode = s.mcr.mode ∧ ¬ t.still ∧ t.dci = s.dci))) ∧
  (∀ (s : State) (bytes : List Byte) (image : Word) (handle : Int), s.dci.exchangeOpen = true →
     acceptScan bytes = some (image, handle) → s.dci.heldKey = true → image.getLsbD 0 = false → s.still →
     (s.mcr.mode = .service ∨ s.mcr.mode = .holdPending ∨ s.mcr.mode = .hold) →
       ∃ t, exec (.scanArrivalEnd ⟨bytes, false⟩) s = .next t ∧ t.StandsBy ∧ t.dci.heldKey = false)

/-- Stepping (R31, R78, R199): STEP_ENTER and STEP_EXIT change the mode between HOLD and STEP and leave
the list, given that it holds DOORS as it should; STEP_ONE computes one period with origin STEP, with no
odometer and no vigilance, and ages the slots by one tick. -/
def Obligations.StepsComputeOnce : Prop :=
  ∀ (s : State) (r : Request), s.dci.heldKey = true →
    (s.asked r .stepEnter → s.mcr.mode = .hold → ∃ t, exec .stepEnter s = .next t ∧ t.mcr.mode = .step ∧
      t.tdu = s.tdu ∧ t.rtu = s.rtu ∧ t.ssq = s.ssq ∧ (s.DoorsHeld → t.rsl = s.rsl)) ∧
    (s.asked r .stepExit → s.mcr.mode = .step → ∃ t, exec .stepExit s = .next t ∧ t.mcr.mode = .hold ∧
      t.tdu = s.tdu ∧ t.rtu = s.rtu ∧ t.ssq = s.ssq ∧ (s.DoorsHeld → t.rsl = s.rsl)) ∧
    (s.asked r .stepOne → s.mcr.mode = .step → ∃ t x, exec .stepOne s = .next t ∧ t.tdu.record = some x ∧
      x.stepped = true ∧ x.period = s.tdu.periodCount ∧ x.cmdOld = s.tdu.eCmd ∧ t.tdu.eCmd = x.cmd ∧
      t.tdu.odometer = s.tdu.odometer ∧ t.tdu.acc9 = s.tdu.acc9 ∧ t.tdu.vigil = s.tdu.vigil ∧
      t.tdu.periodCount = s.tdu.periodCount ∧ t.sgt.slots = s.sgt.slots.map Slot.aged ∧ t.mcr.mode = .step)

/-- ENTER_SERVICE and the end of a start-up check (R194, R196): with both ACTIVE banks valid they lead to
SERVICE, without MODE in the list; with either bank invalid ENTER_SERVICE is refused and the check leads to
CONFIGURE; a check that finds a fault leads to FAILED. In another mode than CONFIGURE ENTER_SERVICE is refused. -/
def Obligations.ServiceIsEntered : Prop :=
  ∀ (s : State) (r : Request), s.dci.heldKey = true → s.Distinct → s.ModeHeld →
    (s.asked r .enterService → s.mcr.mode = .configure → s.tdu.curveActive.valid = true →
      s.tdu.allocActive.valid = true → ∃ t, exec .enterService s = .next t ∧ t.mcr.mode = .service ∧
        ¬ hasEntry t.rsl .mode ∧ t.tdu = s.tdu) ∧
    (s.asked r .enterService → s.mcr.mode = .configure →
      (s.tdu.curveActive.valid = false ∨ s.tdu.allocActive.valid = false) →
        exec .enterService s = .next (s.taken.respond r ⟨.refusedInvalid, []⟩)) ∧
    (s.asked r .enterService → s.mcr.mode ≠ .configure →
      exec .enterService s = .next (s.taken.respond r ⟨.refusedMode, []⟩)) ∧
    (s.mcr.mode = .starting →
      (s.tdu.curveActive.valid = true → s.tdu.allocActive.valid = true →
        ∃ t, exec (.startupCheckEnd true) s = .next t ∧ t.mcr.mode = .service ∧ ¬ hasEntry t.rsl .mode) ∧
      (s.tdu.curveActive.valid = false ∨ s.tdu.allocActive.valid = false →
        ∃ t, exec (.startupCheckEnd true) s = .next t ∧ t.mcr.mode = .configure ∧ hasEntry t.rsl .mode) ∧
      (∃ t, exec (.startupCheckEnd false) s = .next t ∧ t.mcr.mode = .failed ∧ t.rsl = s.rsl ∧ t.tdu = s.tdu))

/-- An accepted RESTART is answered DONE, and it and standby exit leave the restart values of every block (R201,
R202 with the chapters' restart columns): the queues, the seen sets, the slots, the list and the flags are
emptied, MODE/HOLD stands alone with its RSL_CHANGE, and tables, items, bindings, enables, notify settings,
counters, odometer, step record and load check sum are kept; the mode is STARTING with the whole check to run.
That RSL_CHANGE is set in STARTING, and so without a NOTIFY, is log 10's; that the arrivals of a reception under
way are added to a number of abandoned arrivals is log 11's; that the desk inputs as last delivered are kept is
log 31's. -/
def Obligations.RestartKeepsConfiguration : Prop :=
  (∀ (s : State) (r : Request), s.fcl.requests.head? = some r → r.row = .restart →
    (s.mcr.mode = .configure ∨ s.mcr.mode = .hold ∨ s.mcr.mode = .step ∨ s.mcr.mode = .failed ∨
      ((s.mcr.mode = .service ∨ s.mcr.mode = .holdPending) ∧ s.still) →
      ∃ u, s.Restarted u ∧ exec .restart s = .next (u.respond r ⟨.done, []⟩)) ∧
    ((s.mcr.mode = .service ∨ s.mcr.mode = .holdPending) → ¬ s.still →
      exec .restart s = .next (s.taken.respond r ⟨.refusedBusy, []⟩)) ∧
    (s.mcr.mode = .standby → exec .restart s = .next (s.taken.respond r ⟨.refusedMode, []⟩))) ∧
  (∀ (s : State) (bytes : List Byte) (image : Word) (handle : Int), s.mcr.mode = .standby →
     s.dci.exchangeOpen = true → s.dci.heldKey = false → acceptScan bytes = some (image, handle) →
     image.getLsbD 0 = true → ∃ t, exec (.scanArrivalEnd ⟨bytes, false⟩) s = .next t ∧
       ((s.withDci { s.dci with image := image, heldKey := true }).withEnv t.env).Restarted t)

/-- SET_ROUTE (R101): 1 to 999 is taken as it is, 0 becomes 1, and more becomes 999. -/
def Obligations.SetRouteClamps : Prop :=
  ∀ (s : State) (r : Request) (n : Nat), s.asked r .setRoute → n = (r.half 0).toNat →
    (1 ≤ n → n ≤ 999 → exec .setRoute s =
      .next ((s.taken.withRtu { s.rtu with routeNumber := n }).respond r ⟨.done, half2 (r.half 0)⟩)) ∧
    (n = 0 → exec .setRoute s =
      .next ((s.taken.withRtu { s.rtu with routeNumber := 1 }).respond r ⟨.doneClamped, [0, 1]⟩)) ∧
    (999 < n → exec .setRoute s =
      .next ((s.taken.withRtu { s.rtu with routeNumber := 999 }).respond r ⟨.doneClamped, [3, 231]⟩))

/-! ### What every step keeps -/

/-- The state at reset has every property that the statements below say each step keeps. -/
def Obligations.ResetIsSound : Prop :=
  State.reset.Fits ∧ State.reset.Shaped ∧ State.reset.Distinct ∧ State.reset.SoundOrdered ∧ State.reset.ModeHeld ∧
    State.reset.DoorsHeld ∧ State.reset.JunctionsMirrored ∧ State.reset.KeysZero ∧ State.reset.AttemptHeld ∧
    State.reset.ItemsInRange ∧ State.reset.EffortBounded ∧ State.reset.SilentUnaddressed

/-- Every step keeps the queues within their places and the tables at their sizes (R5, R12, R24, R102, R162). -/
def Obligations.StepKeepsCapacities : Prop :=
  ∀ s t : State, s.Fits → s.Shaped → step s = .next t → t.Fits ∧ t.Shaped

/-- Every step keeps each collection without repeats (R9, R82, R102, R146), and each sounder channel's requests
distinct and its queue in order of priority (R162, R164). -/
def Obligations.StepKeepsIdentities : Prop :=
  (∀ s t : State, s.Distinct → step s = .next t → t.Distinct) ∧
  (∀ s t : State, s.SoundOrdered → step s = .next t → t.SoundOrdered)

/-- Every step keeps MODE/HOLD in the list in every mode but SERVICE, HOLD_PENDING and STANDBY, and the
list empty in STANDBY (R82, R95). -/
def Obligations.StepKeepsModeHeld : Prop :=
  ∀ s t : State, s.ModeHeld → step s = .next t → t.ModeHeld

/-- Every step keeps the doors' hold: while the doors are not closed and locked, or not known to be, in a
mode that serves them, DOORS stands in the list as HOLD (R154). -/
def Obligations.StepKeepsDoorsHeld : Prop :=
  ∀ s t : State, s.DoorsHeld → step s = .next t → t.DoorsHeld ∧
    (t.mcr.mode.active = true → t.sru.doorsCondition = true → holdPresent t.rsl = true)

/-- Every step keeps the JUNCTION entries of the list in agreement with the junction queue, every other
entry under key 0, and the attempt timer running for a REQUESTING head alone (R81, R83, R103, R111). -/
def Obligations.StepKeepsJunctionsMirrored : Prop :=
  ∀ s t : State, s.Distinct → s.JunctionsMirrored → s.KeysZero → s.AttemptHeld → step s = .next t →
    t.JunctionsMirrored ∧ t.KeysZero ∧ t.AttemptHeld

/-- Every step keeps every settable item within its range (R32, R76, R100, R101, R161, R178). -/
def Obligations.StepKeepsItemsInRange : Prop :=
  ∀ s t : State, s.ItemsInRange → step s = .next t → t.ItemsInRange

/-- Every step keeps E_cmd, the handle and the curve efforts within their ranges (R37, R58, R66). -/
def Obligations.StepKeepsEffortBounded : Prop :=
  ∀ s t : State, s.EffortBounded → step s = .next t → t.EffortBounded

/-- A part with no node address stays in FAILED with nothing to classify or answer until POWER_ON (R1, R193). -/
def Obligations.StepKeepsUnaddressedSilent : Prop :=
  ∀ s t : State, s.SilentUnaddressed → step s = .next t → t.SilentUnaddressed
end

