-- ==== Sys2Proof/Laws/State.lean ====
section
/-! SUPPORT. What each update of State leaves in each field, so that no proof unfolds a record update. -/

namespace Sys2Proof.Machine

variable (s : State)

@[simp] theorem State.withLine_line (x : LineBlock) : (s.withLine x).line = x := rfl
@[simp] theorem State.withLine_fcl (x : LineBlock) : (s.withLine x).fcl = s.fcl := rfl
@[simp] theorem State.withLine_sgt (x : LineBlock) : (s.withLine x).sgt = s.sgt := rfl
@[simp] theorem State.withLine_dci (x : LineBlock) : (s.withLine x).dci = s.dci := rfl
@[simp] theorem State.withLine_tdu (x : LineBlock) : (s.withLine x).tdu = s.tdu := rfl
@[simp] theorem State.withLine_rsl (x : LineBlock) : (s.withLine x).rsl = s.rsl := rfl
@[simp] theorem State.withLine_rtu (x : LineBlock) : (s.withLine x).rtu = s.rtu := rfl
@[simp] theorem State.withLine_tlk (x : LineBlock) : (s.withLine x).tlk = s.tlk := rfl
@[simp] theorem State.withLine_sru (x : LineBlock) : (s.withLine x).sru = s.sru := rfl
@[simp] theorem State.withLine_ssq (x : LineBlock) : (s.withLine x).ssq = s.ssq := rfl
@[simp] theorem State.withLine_efn (x : LineBlock) : (s.withLine x).efn = s.efn := rfl
@[simp] theorem State.withLine_mcr (x : LineBlock) : (s.withLine x).mcr = s.mcr := rfl
@[simp] theorem State.withLine_env (x : LineBlock) : (s.withLine x).env = s.env := rfl
@[simp] theorem State.withLine_pending (x : LineBlock) : (s.withLine x).pending = s.pending := rfl

@[simp] theorem State.withFcl_line (x : Classifier) : (s.withFcl x).line = s.line := rfl
@[simp] theorem State.withFcl_fcl (x : Classifier) : (s.withFcl x).fcl = x := rfl
@[simp] theorem State.withFcl_sgt (x : Classifier) : (s.withFcl x).sgt = s.sgt := rfl
@[simp] theorem State.withFcl_dci (x : Classifier) : (s.withFcl x).dci = s.dci := rfl
@[simp] theorem State.withFcl_tdu (x : Classifier) : (s.withFcl x).tdu = s.tdu := rfl
@[simp] theorem State.withFcl_rsl (x : Classifier) : (s.withFcl x).rsl = s.rsl := rfl
@[simp] theorem State.withFcl_rtu (x : Classifier) : (s.withFcl x).rtu = s.rtu := rfl
@[simp] theorem State.withFcl_tlk (x : Classifier) : (s.withFcl x).tlk = s.tlk := rfl
@[simp] theorem State.withFcl_sru (x : Classifier) : (s.withFcl x).sru = s.sru := rfl
@[simp] theorem State.withFcl_ssq (x : Classifier) : (s.withFcl x).ssq = s.ssq := rfl
@[simp] theorem State.withFcl_efn (x : Classifier) : (s.withFcl x).efn = s.efn := rfl
@[simp] theorem State.withFcl_mcr (x : Classifier) : (s.withFcl x).mcr = s.mcr := rfl
@[simp] theorem State.withFcl_env (x : Classifier) : (s.withFcl x).env = s.env := rfl
@[simp] theorem State.withFcl_pending (x : Classifier) : (s.withFcl x).pending = s.pending := rfl

@[simp] theorem State.withSgt_line (x : SignalTable) : (s.withSgt x).line = s.line := rfl
@[simp] theorem State.withSgt_fcl (x : SignalTable) : (s.withSgt x).fcl = s.fcl := rfl
@[simp] theorem State.withSgt_sgt (x : SignalTable) : (s.withSgt x).sgt = x := rfl
@[simp] theorem State.withSgt_dci (x : SignalTable) : (s.withSgt x).dci = s.dci := rfl
@[simp] theorem State.withSgt_tdu (x : SignalTable) : (s.withSgt x).tdu = s.tdu := rfl
@[simp] theorem State.withSgt_rsl (x : SignalTable) : (s.withSgt x).rsl = s.rsl := rfl
@[simp] theorem State.withSgt_rtu (x : SignalTable) : (s.withSgt x).rtu = s.rtu := rfl
@[simp] theorem State.withSgt_tlk (x : SignalTable) : (s.withSgt x).tlk = s.tlk := rfl
@[simp] theorem State.withSgt_sru (x : SignalTable) : (s.withSgt x).sru = s.sru := rfl
@[simp] theorem State.withSgt_ssq (x : SignalTable) : (s.withSgt x).ssq = s.ssq := rfl
@[simp] theorem State.withSgt_efn (x : SignalTable) : (s.withSgt x).efn = s.efn := rfl
@[simp] theorem State.withSgt_mcr (x : SignalTable) : (s.withSgt x).mcr = s.mcr := rfl
@[simp] theorem State.withSgt_env (x : SignalTable) : (s.withSgt x).env = s.env := rfl
@[simp] theorem State.withSgt_pending (x : SignalTable) : (s.withSgt x).pending = s.pending := rfl

@[simp] theorem State.withDci_line (x : Desk) : (s.withDci x).line = s.line := rfl
@[simp] theorem State.withDci_fcl (x : Desk) : (s.withDci x).fcl = s.fcl := rfl
@[simp] theorem State.withDci_sgt (x : Desk) : (s.withDci x).sgt = s.sgt := rfl
@[simp] theorem State.withDci_dci (x : Desk) : (s.withDci x).dci = x := rfl
@[simp] theorem State.withDci_tdu (x : Desk) : (s.withDci x).tdu = s.tdu := rfl
@[simp] theorem State.withDci_rsl (x : Desk) : (s.withDci x).rsl = s.rsl := rfl
@[simp] theorem State.withDci_rtu (x : Desk) : (s.withDci x).rtu = s.rtu := rfl
@[simp] theorem State.withDci_tlk (x : Desk) : (s.withDci x).tlk = s.tlk := rfl
@[simp] theorem State.withDci_sru (x : Desk) : (s.withDci x).sru = s.sru := rfl
@[simp] theorem State.withDci_ssq (x : Desk) : (s.withDci x).ssq = s.ssq := rfl
@[simp] theorem State.withDci_efn (x : Desk) : (s.withDci x).efn = s.efn := rfl
@[simp] theorem State.withDci_mcr (x : Desk) : (s.withDci x).mcr = s.mcr := rfl
@[simp] theorem State.withDci_env (x : Desk) : (s.withDci x).env = s.env := rfl
@[simp] theorem State.withDci_pending (x : Desk) : (s.withDci x).pending = s.pending := rfl

@[simp] theorem State.withTdu_line (x : Traction) : (s.withTdu x).line = s.line := rfl
@[simp] theorem State.withTdu_fcl (x : Traction) : (s.withTdu x).fcl = s.fcl := rfl
@[simp] theorem State.withTdu_sgt (x : Traction) : (s.withTdu x).sgt = s.sgt := rfl
@[simp] theorem State.withTdu_dci (x : Traction) : (s.withTdu x).dci = s.dci := rfl
@[simp] theorem State.withTdu_tdu (x : Traction) : (s.withTdu x).tdu = x := rfl
@[simp] theorem State.withTdu_rsl (x : Traction) : (s.withTdu x).rsl = s.rsl := rfl
@[simp] theorem State.withTdu_rtu (x : Traction) : (s.withTdu x).rtu = s.rtu := rfl
@[simp] theorem State.withTdu_tlk (x : Traction) : (s.withTdu x).tlk = s.tlk := rfl
@[simp] theorem State.withTdu_sru (x : Traction) : (s.withTdu x).sru = s.sru := rfl
@[simp] theorem State.withTdu_ssq (x : Traction) : (s.withTdu x).ssq = s.ssq := rfl
@[simp] theorem State.withTdu_efn (x : Traction) : (s.withTdu x).efn = s.efn := rfl
@[simp] theorem State.withTdu_mcr (x : Traction) : (s.withTdu x).mcr = s.mcr := rfl
@[simp] theorem State.withTdu_env (x : Traction) : (s.withTdu x).env = s.env := rfl
@[simp] theorem State.withTdu_pending (x : Traction) : (s.withTdu x).pending = s.pending := rfl

@[simp] theorem State.withRsl_line (x : List Restriction) : (s.withRsl x).line = s.line := rfl
@[simp] theorem State.withRsl_fcl (x : List Restriction) : (s.withRsl x).fcl = s.fcl := rfl
@[simp] theorem State.withRsl_sgt (x : List Restriction) : (s.withRsl x).sgt = s.sgt := rfl
@[simp] theorem State.withRsl_dci (x : List Restriction) : (s.withRsl x).dci = s.dci := rfl
@[simp] theorem State.withRsl_tdu (x : List Restriction) : (s.withRsl x).tdu = s.tdu := rfl
@[simp] theorem State.withRsl_rsl (x : List Restriction) : (s.withRsl x).rsl = x := rfl
@[simp] theorem State.withRsl_rtu (x : List Restriction) : (s.withRsl x).rtu = s.rtu := rfl
@[simp] theorem State.withRsl_tlk (x : List Restriction) : (s.withRsl x).tlk = s.tlk := rfl
@[simp] theorem State.withRsl_sru (x : List Restriction) : (s.withRsl x).sru = s.sru := rfl
@[simp] theorem State.withRsl_ssq (x : List Restriction) : (s.withRsl x).ssq = s.ssq := rfl
@[simp] theorem State.withRsl_efn (x : List Restriction) : (s.withRsl x).efn = s.efn := rfl
@[simp] theorem State.withRsl_mcr (x : List Restriction) : (s.withRsl x).mcr = s.mcr := rfl
@[simp] theorem State.withRsl_env (x : List Restriction) : (s.withRsl x).env = s.env := rfl
@[simp] theorem State.withRsl_pending (x : List Restriction) : (s.withRsl x).pending = s.pending := rfl

@[simp] theorem State.withRtu_line (x : RouteUnit) : (s.withRtu x).line = s.line := rfl
@[simp] theorem State.withRtu_fcl (x : RouteUnit) : (s.withRtu x).fcl = s.fcl := rfl
@[simp] theorem State.withRtu_sgt (x : RouteUnit) : (s.withRtu x).sgt = s.sgt := rfl
@[simp] theorem State.withRtu_dci (x : RouteUnit) : (s.withRtu x).dci = s.dci := rfl
@[simp] theorem State.withRtu_tdu (x : RouteUnit) : (s.withRtu x).tdu = s.tdu := rfl
@[simp] theorem State.withRtu_rsl (x : RouteUnit) : (s.withRtu x).rsl = s.rsl := rfl
@[simp] theorem State.withRtu_rtu (x : RouteUnit) : (s.withRtu x).rtu = x := rfl
@[simp] theorem State.withRtu_tlk (x : RouteUnit) : (s.withRtu x).tlk = s.tlk := rfl
@[simp] theorem State.withRtu_sru (x : RouteUnit) : (s.withRtu x).sru = s.sru := rfl
@[simp] theorem State.withRtu_ssq (x : RouteUnit) : (s.withRtu x).ssq = s.ssq := rfl
@[simp] theorem State.withRtu_efn (x : RouteUnit) : (s.withRtu x).efn = s.efn := rfl
@[simp] theorem State.withRtu_mcr (x : RouteUnit) : (s.withRtu x).mcr = s.mcr := rfl
@[simp] theorem State.withRtu_env (x : RouteUnit) : (s.withRtu x).env = s.env := rfl
@[simp] theorem State.withRtu_pending (x : RouteUnit) : (s.withRtu x).pending = s.pending := rfl

@[simp] theorem State.withTlk_line (x : TrackLink) : (s.withTlk x).line = s.line := rfl
@[simp] theorem State.withTlk_fcl (x : TrackLink) : (s.withTlk x).fcl = s.fcl := rfl
@[simp] theorem State.withTlk_sgt (x : TrackLink) : (s.withTlk x).sgt = s.sgt := rfl
@[simp] theorem State.withTlk_dci (x : TrackLink) : (s.withTlk x).dci = s.dci := rfl
@[simp] theorem State.withTlk_tdu (x : TrackLink) : (s.withTlk x).tdu = s.tdu := rfl
@[simp] theorem State.withTlk_rsl (x : TrackLink) : (s.withTlk x).rsl = s.rsl := rfl
@[simp] theorem State.withTlk_rtu (x : TrackLink) : (s.withTlk x).rtu = s.rtu := rfl
@[simp] theorem State.withTlk_tlk (x : TrackLink) : (s.withTlk x).tlk = x := rfl
@[simp] theorem State.withTlk_sru (x : TrackLink) : (s.withTlk x).sru = s.sru := rfl
@[simp] theorem State.withTlk_ssq (x : TrackLink) : (s.withTlk x).ssq = s.ssq := rfl
@[simp] theorem State.withTlk_efn (x : TrackLink) : (s.withTlk x).efn = s.efn := rfl
@[simp] theorem State.withTlk_mcr (x : TrackLink) : (s.withTlk x).mcr = s.mcr := rfl
@[simp] theorem State.withTlk_env (x : TrackLink) : (s.withTlk x).env = s.env := rfl
@[simp] theorem State.withTlk_pending (x : TrackLink) : (s.withTlk x).pending = s.pending := rfl

@[simp] theorem State.withSru_line (x : StopUnit) : (s.withSru x).line = s.line := rfl
@[simp] theorem State.withSru_fcl (x : StopUnit) : (s.withSru x).fcl = s.fcl := rfl
@[simp] theorem State.withSru_sgt (x : StopUnit) : (s.withSru x).sgt = s.sgt := rfl
@[simp] theorem State.withSru_dci (x : StopUnit) : (s.withSru x).dci = s.dci := rfl
@[simp] theorem State.withSru_tdu (x : StopUnit) : (s.withSru x).tdu = s.tdu := rfl
@[simp] theorem State.withSru_rsl (x : StopUnit) : (s.withSru x).rsl = s.rsl := rfl
@[simp] theorem State.withSru_rtu (x : StopUnit) : (s.withSru x).rtu = s.rtu := rfl
@[simp] theorem State.withSru_tlk (x : StopUnit) : (s.withSru x).tlk = s.tlk := rfl
@[simp] theorem State.withSru_sru (x : StopUnit) : (s.withSru x).sru = x := rfl
@[simp] theorem State.withSru_ssq (x : StopUnit) : (s.withSru x).ssq = s.ssq := rfl
@[simp] theorem State.withSru_efn (x : StopUnit) : (s.withSru x).efn = s.efn := rfl
@[simp] theorem State.withSru_mcr (x : StopUnit) : (s.withSru x).mcr = s.mcr := rfl
@[simp] theorem State.withSru_env (x : StopUnit) : (s.withSru x).env = s.env := rfl
@[simp] theorem State.withSru_pending (x : StopUnit) : (s.withSru x).pending = s.pending := rfl

@[simp] theorem State.withSsq_line (x : Sounder) : (s.withSsq x).line = s.line := rfl
@[simp] theorem State.withSsq_fcl (x : Sounder) : (s.withSsq x).fcl = s.fcl := rfl
@[simp] theorem State.withSsq_sgt (x : Sounder) : (s.withSsq x).sgt = s.sgt := rfl
@[simp] theorem State.withSsq_dci (x : Sounder) : (s.withSsq x).dci = s.dci := rfl
@[simp] theorem State.withSsq_tdu (x : Sounder) : (s.withSsq x).tdu = s.tdu := rfl
@[simp] theorem State.withSsq_rsl (x : Sounder) : (s.withSsq x).rsl = s.rsl := rfl
@[simp] theorem State.withSsq_rtu (x : Sounder) : (s.withSsq x).rtu = s.rtu := rfl
@[simp] theorem State.withSsq_tlk (x : Sounder) : (s.withSsq x).tlk = s.tlk := rfl
@[simp] theorem State.withSsq_sru (x : Sounder) : (s.withSsq x).sru = s.sru := rfl
@[simp] theorem State.withSsq_ssq (x : Sounder) : (s.withSsq x).ssq = x := rfl
@[simp] theorem State.withSsq_efn (x : Sounder) : (s.withSsq x).efn = s.efn := rfl
@[simp] theorem State.withSsq_mcr (x : Sounder) : (s.withSsq x).mcr = s.mcr := rfl
@[simp] theorem State.withSsq_env (x : Sounder) : (s.withSsq x).env = s.env := rfl
@[simp] theorem State.withSsq_pending (x : Sounder) : (s.withSsq x).pending = s.pending := rfl

@[simp] theorem State.withEfn_line (x : Notifier) : (s.withEfn x).line = s.line := rfl
@[simp] theorem State.withEfn_fcl (x : Notifier) : (s.withEfn x).fcl = s.fcl := rfl
@[simp] theorem State.withEfn_sgt (x : Notifier) : (s.withEfn x).sgt = s.sgt := rfl
@[simp] theorem State.withEfn_dci (x : Notifier) : (s.withEfn x).dci = s.dci := rfl
@[simp] theorem State.withEfn_tdu (x : Notifier) : (s.withEfn x).tdu = s.tdu := rfl
@[simp] theorem State.withEfn_rsl (x : Notifier) : (s.withEfn x).rsl = s.rsl := rfl
@[simp] theorem State.withEfn_rtu (x : Notifier) : (s.withEfn x).rtu = s.rtu := rfl
@[simp] theorem State.withEfn_tlk (x : Notifier) : (s.withEfn x).tlk = s.tlk := rfl
@[simp] theorem State.withEfn_sru (x : Notifier) : (s.withEfn x).sru = s.sru := rfl
@[simp] theorem State.withEfn_ssq (x : Notifier) : (s.withEfn x).ssq = s.ssq := rfl
@[simp] theorem State.withEfn_efn (x : Notifier) : (s.withEfn x).efn = x := rfl
@[simp] theorem State.withEfn_mcr (x : Notifier) : (s.withEfn x).mcr = s.mcr := rfl
@[simp] theorem State.withEfn_env (x : Notifier) : (s.withEfn x).env = s.env := rfl
@[simp] theorem State.withEfn_pending (x : Notifier) : (s.withEfn x).pending = s.pending := rfl

@[simp] theorem State.withMcr_line (x : Control) : (s.withMcr x).line = s.line := rfl
@[simp] theorem State.withMcr_fcl (x : Control) : (s.withMcr x).fcl = s.fcl := rfl
@[simp] theorem State.withMcr_sgt (x : Control) : (s.withMcr x).sgt = s.sgt := rfl
@[simp] theorem State.withMcr_dci (x : Control) : (s.withMcr x).dci = s.dci := rfl
@[simp] theorem State.withMcr_tdu (x : Control) : (s.withMcr x).tdu = s.tdu := rfl
@[simp] theorem State.withMcr_rsl (x : Control) : (s.withMcr x).rsl = s.rsl := rfl
@[simp] theorem State.withMcr_rtu (x : Control) : (s.withMcr x).rtu = s.rtu := rfl
@[simp] theorem State.withMcr_tlk (x : Control) : (s.withMcr x).tlk = s.tlk := rfl
@[simp] theorem State.withMcr_sru (x : Control) : (s.withMcr x).sru = s.sru := rfl
@[simp] theorem State.withMcr_ssq (x : Control) : (s.withMcr x).ssq = s.ssq := rfl
@[simp] theorem State.withMcr_efn (x : Control) : (s.withMcr x).efn = s.efn := rfl
@[simp] theorem State.withMcr_mcr (x : Control) : (s.withMcr x).mcr = x := rfl
@[simp] theorem State.withMcr_env (x : Control) : (s.withMcr x).env = s.env := rfl
@[simp] theorem State.withMcr_pending (x : Control) : (s.withMcr x).pending = s.pending := rfl

@[simp] theorem State.withEnv_line (x : Environment) : (s.withEnv x).line = s.line := rfl
@[simp] theorem State.withEnv_fcl (x : Environment) : (s.withEnv x).fcl = s.fcl := rfl
@[simp] theorem State.withEnv_sgt (x : Environment) : (s.withEnv x).sgt = s.sgt := rfl
@[simp] theorem State.withEnv_dci (x : Environment) : (s.withEnv x).dci = s.dci := rfl
@[simp] theorem State.withEnv_tdu (x : Environment) : (s.withEnv x).tdu = s.tdu := rfl
@[simp] theorem State.withEnv_rsl (x : Environment) : (s.withEnv x).rsl = s.rsl := rfl
@[simp] theorem State.withEnv_rtu (x : Environment) : (s.withEnv x).rtu = s.rtu := rfl
@[simp] theorem State.withEnv_tlk (x : Environment) : (s.withEnv x).tlk = s.tlk := rfl
@[simp] theorem State.withEnv_sru (x : Environment) : (s.withEnv x).sru = s.sru := rfl
@[simp] theorem State.withEnv_ssq (x : Environment) : (s.withEnv x).ssq = s.ssq := rfl
@[simp] theorem State.withEnv_efn (x : Environment) : (s.withEnv x).efn = s.efn := rfl
@[simp] theorem State.withEnv_mcr (x : Environment) : (s.withEnv x).mcr = s.mcr := rfl
@[simp] theorem State.withEnv_env (x : Environment) : (s.withEnv x).env = x := rfl
@[simp] theorem State.withEnv_pending (x : Environment) : (s.withEnv x).pending = s.pending := rfl

@[simp] theorem State.withPending_line (x : List Instr) : (s.withPending x).line = s.line := rfl
@[simp] theorem State.withPending_fcl (x : List Instr) : (s.withPending x).fcl = s.fcl := rfl
@[simp] theorem State.withPending_sgt (x : List Instr) : (s.withPending x).sgt = s.sgt := rfl
@[simp] theorem State.withPending_dci (x : List Instr) : (s.withPending x).dci = s.dci := rfl
@[simp] theorem State.withPending_tdu (x : List Instr) : (s.withPending x).tdu = s.tdu := rfl
@[simp] theorem State.withPending_rsl (x : List Instr) : (s.withPending x).rsl = s.rsl := rfl
@[simp] theorem State.withPending_rtu (x : List Instr) : (s.withPending x).rtu = s.rtu := rfl
@[simp] theorem State.withPending_tlk (x : List Instr) : (s.withPending x).tlk = s.tlk := rfl
@[simp] theorem State.withPending_sru (x : List Instr) : (s.withPending x).sru = s.sru := rfl
@[simp] theorem State.withPending_ssq (x : List Instr) : (s.withPending x).ssq = s.ssq := rfl
@[simp] theorem State.withPending_efn (x : List Instr) : (s.withPending x).efn = s.efn := rfl
@[simp] theorem State.withPending_mcr (x : List Instr) : (s.withPending x).mcr = s.mcr := rfl
@[simp] theorem State.withPending_env (x : List Instr) : (s.withPending x).env = s.env := rfl
@[simp] theorem State.withPending_pending (x : List Instr) : (s.withPending x).pending = x := rfl

@[simp] theorem State.bumpFree_line : (s.bumpFree).line = s.line := rfl
@[simp] theorem State.bumpFree_fcl : (s.bumpFree).fcl = s.fcl := rfl
@[simp] theorem State.bumpFree_sgt : (s.bumpFree).sgt = s.sgt := rfl
@[simp] theorem State.bumpFree_dci : (s.bumpFree).dci = s.dci := rfl
@[simp] theorem State.bumpFree_tdu : (s.bumpFree).tdu = s.tdu := rfl
@[simp] theorem State.bumpFree_rsl : (s.bumpFree).rsl = s.rsl := rfl
@[simp] theorem State.bumpFree_rtu : (s.bumpFree).rtu = s.rtu := rfl
@[simp] theorem State.bumpFree_tlk : (s.bumpFree).tlk = s.tlk := rfl
@[simp] theorem State.bumpFree_sru : (s.bumpFree).sru = s.sru := rfl
@[simp] theorem State.bumpFree_ssq : (s.bumpFree).ssq = s.ssq := rfl
@[simp] theorem State.bumpFree_efn : (s.bumpFree).efn = s.efn := rfl
@[simp] theorem State.bumpFree_mcr : (s.bumpFree).mcr = s.mcr := rfl
@[simp] theorem State.bumpFree_env : (s.bumpFree).env = { s.env with free := s.env.free + 1 } := rfl
@[simp] theorem State.bumpFree_pending : (s.bumpFree).pending = s.pending := rfl

@[simp] theorem State.withMode_line (m : Mode) : (s.withMode m).line = s.line := rfl
@[simp] theorem State.withMode_fcl (m : Mode) : (s.withMode m).fcl = s.fcl := rfl
@[simp] theorem State.withMode_sgt (m : Mode) : (s.withMode m).sgt = s.sgt := rfl
@[simp] theorem State.withMode_dci (m : Mode) : (s.withMode m).dci = s.dci := rfl
@[simp] theorem State.withMode_tdu (m : Mode) : (s.withMode m).tdu = s.tdu := rfl
@[simp] theorem State.withMode_rsl (m : Mode) : (s.withMode m).rsl = s.rsl := rfl
@[simp] theorem State.withMode_rtu (m : Mode) : (s.withMode m).rtu = s.rtu := rfl
@[simp] theorem State.withMode_tlk (m : Mode) : (s.withMode m).tlk = s.tlk := rfl
@[simp] theorem State.withMode_sru (m : Mode) : (s.withMode m).sru = s.sru := rfl
@[simp] theorem State.withMode_ssq (m : Mode) : (s.withMode m).ssq = s.ssq := rfl
@[simp] theorem State.withMode_efn (m : Mode) : (s.withMode m).efn = s.efn := rfl
@[simp] theorem State.withMode_mcr (m : Mode) : (s.withMode m).mcr = { s.mcr with mode := m } := rfl
@[simp] theorem State.withMode_env (m : Mode) : (s.withMode m).env = s.env := rfl
@[simp] theorem State.withMode_pending (m : Mode) : (s.withMode m).pending = s.pending := rfl

@[simp] theorem State.withQueue_line (q : List Transaction) : (s.withQueue q).line = s.line := rfl
@[simp] theorem State.withQueue_fcl (q : List Transaction) : (s.withQueue q).fcl = s.fcl := rfl
@[simp] theorem State.withQueue_sgt (q : List Transaction) : (s.withQueue q).sgt = s.sgt := rfl
@[simp] theorem State.withQueue_dci (q : List Transaction) : (s.withQueue q).dci = s.dci := rfl
@[simp] theorem State.withQueue_tdu (q : List Transaction) : (s.withQueue q).tdu = s.tdu := rfl
@[simp] theorem State.withQueue_rsl (q : List Transaction) : (s.withQueue q).rsl = s.rsl := rfl
@[simp] theorem State.withQueue_rtu (q : List Transaction) : (s.withQueue q).rtu = { s.rtu with queue := q } := rfl
@[simp] theorem State.withQueue_tlk (q : List Transaction) : (s.withQueue q).tlk = s.tlk := rfl
@[simp] theorem State.withQueue_sru (q : List Transaction) : (s.withQueue q).sru = s.sru := rfl
@[simp] theorem State.withQueue_ssq (q : List Transaction) : (s.withQueue q).ssq = s.ssq := rfl
@[simp] theorem State.withQueue_efn (q : List Transaction) : (s.withQueue q).efn = s.efn := rfl
@[simp] theorem State.withQueue_mcr (q : List Transaction) : (s.withQueue q).mcr = s.mcr := rfl
@[simp] theorem State.withQueue_env (q : List Transaction) : (s.withQueue q).env = s.env := rfl
@[simp] theorem State.withQueue_pending (q : List Transaction) : (s.withQueue q).pending = s.pending := rfl

@[simp] theorem State.withAttempt_line (a : Option Nat) : (s.withAttempt a).line = s.line := rfl
@[simp] theorem State.withAttempt_fcl (a : Option Nat) : (s.withAttempt a).fcl = s.fcl := rfl
@[simp] theorem State.withAttempt_sgt (a : Option Nat) : (s.withAttempt a).sgt = s.sgt := rfl
@[simp] theorem State.withAttempt_dci (a : Option Nat) : (s.withAttempt a).dci = s.dci := rfl
@[simp] theorem State.withAttempt_tdu (a : Option Nat) : (s.withAttempt a).tdu = s.tdu := rfl
@[simp] theorem State.withAttempt_rsl (a : Option Nat) : (s.withAttempt a).rsl = s.rsl := rfl
@[simp] theorem State.withAttempt_rtu (a : Option Nat) : (s.withAttempt a).rtu = { s.rtu with attempt := a } := rfl
@[simp] theorem State.withAttempt_tlk (a : Option Nat) : (s.withAttempt a).tlk = s.tlk := rfl
@[simp] theorem State.withAttempt_sru (a : Option Nat) : (s.withAttempt a).sru = s.sru := rfl
@[simp] theorem State.withAttempt_ssq (a : Option Nat) : (s.withAttempt a).ssq = s.ssq := rfl
@[simp] theorem State.withAttempt_efn (a : Option Nat) : (s.withAttempt a).efn = s.efn := rfl
@[simp] theorem State.withAttempt_mcr (a : Option Nat) : (s.withAttempt a).mcr = s.mcr := rfl
@[simp] theorem State.withAttempt_env (a : Option Nat) : (s.withAttempt a).env = s.env := rfl
@[simp] theorem State.withAttempt_pending (a : Option Nat) : (s.withAttempt a).pending = s.pending := rfl

@[simp] theorem State.startAttemptTimer_line : s.startAttemptTimer.line = s.line := rfl
@[simp] theorem State.startAttemptTimer_fcl : s.startAttemptTimer.fcl = s.fcl := rfl
@[simp] theorem State.startAttemptTimer_sgt : s.startAttemptTimer.sgt = s.sgt := rfl
@[simp] theorem State.startAttemptTimer_dci : s.startAttemptTimer.dci = s.dci := rfl
@[simp] theorem State.startAttemptTimer_tdu : s.startAttemptTimer.tdu = s.tdu := rfl
@[simp] theorem State.startAttemptTimer_rsl : s.startAttemptTimer.rsl = s.rsl := rfl
@[simp] theorem State.startAttemptTimer_rtu : s.startAttemptTimer.rtu = { s.rtu with
      attempt := some s.rtu.items.confirmTimeout
      restartedAt := if s.rtu.attempt.isSome then some s.env.clock else none } := rfl
@[simp] theorem State.startAttemptTimer_tlk : s.startAttemptTimer.tlk = s.tlk := rfl
@[simp] theorem State.startAttemptTimer_sru : s.startAttemptTimer.sru = s.sru := rfl
@[simp] theorem State.startAttemptTimer_ssq : s.startAttemptTimer.ssq = s.ssq := rfl
@[simp] theorem State.startAttemptTimer_efn : s.startAttemptTimer.efn = s.efn := rfl
@[simp] theorem State.startAttemptTimer_mcr : s.startAttemptTimer.mcr = s.mcr := rfl
@[simp] theorem State.startAttemptTimer_env : s.startAttemptTimer.env = s.env := rfl
@[simp] theorem State.startAttemptTimer_pending : s.startAttemptTimer.pending = s.pending := rfl

@[simp] theorem State.enterStandby_line : s.enterStandby.line = s.line := rfl
@[simp] theorem State.enterStandby_fcl : s.enterStandby.fcl = s.fcl := rfl
@[simp] theorem State.enterStandby_sgt : s.enterStandby.sgt = s.sgt.cleared := rfl
@[simp] theorem State.enterStandby_dci : s.enterStandby.dci = s.dci.standby := rfl
@[simp] theorem State.enterStandby_tdu : s.enterStandby.tdu = s.tdu.standby := rfl
@[simp] theorem State.enterStandby_rsl : s.enterStandby.rsl = [] := rfl
@[simp] theorem State.enterStandby_rtu : s.enterStandby.rtu = s.rtu.cleared := rfl
@[simp] theorem State.enterStandby_tlk : s.enterStandby.tlk = s.tlk := rfl
@[simp] theorem State.enterStandby_sru : s.enterStandby.sru = s.sru.cleared := rfl
@[simp] theorem State.enterStandby_ssq : s.enterStandby.ssq = s.ssq.cleared := rfl
@[simp] theorem State.enterStandby_efn : s.enterStandby.efn = { s.efn with flags := 0 } := rfl
@[simp] theorem State.enterStandby_mcr : s.enterStandby.mcr = { s.mcr with mode := .standby } := rfl
@[simp] theorem State.enterStandby_env : s.enterStandby.env = s.env := rfl
@[simp] theorem State.enterStandby_pending : s.enterStandby.pending = s.pending := rfl

@[simp] theorem State.withMarks_line (m : Marks) : (s.withMarks m).line = s.line := rfl
@[simp] theorem State.withMarks_fcl (m : Marks) : (s.withMarks m).fcl = s.fcl := rfl
@[simp] theorem State.withMarks_sgt (m : Marks) : (s.withMarks m).sgt = s.sgt := rfl
@[simp] theorem State.withMarks_dci (m : Marks) : (s.withMarks m).dci = s.dci := rfl
@[simp] theorem State.withMarks_tdu (m : Marks) : (s.withMarks m).tdu = { s.tdu with marks := m } := rfl
@[simp] theorem State.withMarks_rsl (m : Marks) : (s.withMarks m).rsl = s.rsl := rfl
@[simp] theorem State.withMarks_rtu (m : Marks) : (s.withMarks m).rtu = s.rtu := rfl
@[simp] theorem State.withMarks_tlk (m : Marks) : (s.withMarks m).tlk = s.tlk := rfl
@[simp] theorem State.withMarks_sru (m : Marks) : (s.withMarks m).sru = s.sru := rfl
@[simp] theorem State.withMarks_ssq (m : Marks) : (s.withMarks m).ssq = s.ssq := rfl
@[simp] theorem State.withMarks_efn (m : Marks) : (s.withMarks m).efn = s.efn := rfl
@[simp] theorem State.withMarks_mcr (m : Marks) : (s.withMarks m).mcr = s.mcr := rfl
@[simp] theorem State.withMarks_env (m : Marks) : (s.withMarks m).env = s.env := rfl
@[simp] theorem State.withMarks_pending (m : Marks) : (s.withMarks m).pending = s.pending := rfl

@[simp] theorem State.withPort_line (p : Line) (x : LinePort) : (s.withPort p x).line = s.line.withPort p x := rfl
@[simp] theorem State.withPort_fcl (p : Line) (x : LinePort) : (s.withPort p x).fcl = s.fcl := rfl
@[simp] theorem State.withPort_sgt (p : Line) (x : LinePort) : (s.withPort p x).sgt = s.sgt := rfl
@[simp] theorem State.withPort_dci (p : Line) (x : LinePort) : (s.withPort p x).dci = s.dci := rfl
@[simp] theorem State.withPort_tdu (p : Line) (x : LinePort) : (s.withPort p x).tdu = s.tdu := rfl
@[simp] theorem State.withPort_rsl (p : Line) (x : LinePort) : (s.withPort p x).rsl = s.rsl := rfl
@[simp] theorem State.withPort_rtu (p : Line) (x : LinePort) : (s.withPort p x).rtu = s.rtu := rfl
@[simp] theorem State.withPort_tlk (p : Line) (x : LinePort) : (s.withPort p x).tlk = s.tlk := rfl
@[simp] theorem State.withPort_sru (p : Line) (x : LinePort) : (s.withPort p x).sru = s.sru := rfl
@[simp] theorem State.withPort_ssq (p : Line) (x : LinePort) : (s.withPort p x).ssq = s.ssq := rfl
@[simp] theorem State.withPort_efn (p : Line) (x : LinePort) : (s.withPort p x).efn = s.efn := rfl
@[simp] theorem State.withPort_mcr (p : Line) (x : LinePort) : (s.withPort p x).mcr = s.mcr := rfl
@[simp] theorem State.withPort_env (p : Line) (x : LinePort) : (s.withPort p x).env = s.env := rfl
@[simp] theorem State.withPort_pending (p : Line) (x : LinePort) : (s.withPort p x).pending = s.pending := rfl

@[simp] theorem State.withSlot_line (i : Nat) (x : Slot) : (s.withSlot i x).line = s.line := rfl
@[simp] theorem State.withSlot_fcl (i : Nat) (x : Slot) : (s.withSlot i x).fcl = s.fcl := rfl
@[simp] theorem State.withSlot_sgt (i : Nat) (x : Slot) : (s.withSlot i x).sgt = { s.sgt with slots := s.sgt.slots.set i x } := rfl
@[simp] theorem State.withSlot_dci (i : Nat) (x : Slot) : (s.withSlot i x).dci = s.dci := rfl
@[simp] theorem State.withSlot_tdu (i : Nat) (x : Slot) : (s.withSlot i x).tdu = s.tdu := rfl
@[simp] theorem State.withSlot_rsl (i : Nat) (x : Slot) : (s.withSlot i x).rsl = s.rsl := rfl
@[simp] theorem State.withSlot_rtu (i : Nat) (x : Slot) : (s.withSlot i x).rtu = s.rtu := rfl
@[simp] theorem State.withSlot_tlk (i : Nat) (x : Slot) : (s.withSlot i x).tlk = s.tlk := rfl
@[simp] theorem State.withSlot_sru (i : Nat) (x : Slot) : (s.withSlot i x).sru = s.sru := rfl
@[simp] theorem State.withSlot_ssq (i : Nat) (x : Slot) : (s.withSlot i x).ssq = s.ssq := rfl
@[simp] theorem State.withSlot_efn (i : Nat) (x : Slot) : (s.withSlot i x).efn = s.efn := rfl
@[simp] theorem State.withSlot_mcr (i : Nat) (x : Slot) : (s.withSlot i x).mcr = s.mcr := rfl
@[simp] theorem State.withSlot_env (i : Nat) (x : Slot) : (s.withSlot i x).env = s.env := rfl
@[simp] theorem State.withSlot_pending (i : Nat) (x : Slot) : (s.withSlot i x).pending = s.pending := rfl

/-! ### Ports -/

@[simp] theorem LineBlock.port_withPort (l : LineBlock) (p : Line) (x : LinePort) : (l.withPort p x).port p = x := by
  cases p <;> rfl

@[simp] theorem LineBlock.port_withPort_other (l : LineBlock) (p : Line) (x : LinePort) :
    (l.withPort p x).port (otherPort p) = l.port (otherPort p) := by
  cases p <;> rfl

@[simp] theorem LineBlock.withPort_txSeq (l : LineBlock) (p : Line) (x : LinePort) : (l.withPort p x).txSeq = l.txSeq := by
  cases p <;> rfl

@[simp] theorem State.port_withPort (p : Line) (x : LinePort) : (s.withPort p x).port p = x :=
  LineBlock.port_withPort s.line p x

@[simp] theorem State.port_withPort_other (p : Line) (x : LinePort) :
    (s.withPort p x).port (otherPort p) = s.port (otherPort p) :=
  LineBlock.port_withPort_other s.line p x

end Sys2Proof.Machine
end

