-- ==== Sys2Proof/Laws/Sending.lean ====
section
/-! SUPPORT. Setting a flag and sending an own frame change the ports' egress sides, the sequence
number and the event flags, and nothing else. -/

namespace Sys2Proof.Machine

variable {s t u : State}

/-! ### The frame relation -/

theorem State.sameButSent_refl (s : State) : s.sameButSent s := rfl

/-- What a state must agree on to be the same but for what sending changes. -/
theorem State.sameButSent_of (hfcl : t.fcl = s.fcl) (hsgt : t.sgt = s.sgt) (hdci : t.dci = s.dci)
    (htdu : t.tdu = s.tdu) (hrsl : t.rsl = s.rsl) (hrtu : t.rtu = s.rtu) (htlk : t.tlk = s.tlk) (hsru : t.sru = s.sru)
    (hssq : t.ssq = s.ssq) (hmcr : t.mcr = s.mcr) (henv : t.env = s.env) (hp : t.pending = s.pending)
    (hen : t.efn.enables = s.efn.enables) (hch : t.efn.channels = s.efn.channels) (hmap : t.efn.map = s.efn.map) :
    s.sameButSent t := by
  obtain ⟨_, _, _, _, _, _, _, _, _, _, ⟨_, _, _, _⟩, _, _, _⟩ := t
  simp only at *
  subst_vars
  rfl

theorem State.sameButSent.fcl (h : s.sameButSent t) : t.fcl = s.fcl := congrArg (fun x => x.fcl) h
theorem State.sameButSent.sgt (h : s.sameButSent t) : t.sgt = s.sgt := congrArg (fun x => x.sgt) h
theorem State.sameButSent.dci (h : s.sameButSent t) : t.dci = s.dci := congrArg (fun x => x.dci) h
theorem State.sameButSent.tdu (h : s.sameButSent t) : t.tdu = s.tdu := congrArg (fun x => x.tdu) h
theorem State.sameButSent.rsl (h : s.sameButSent t) : t.rsl = s.rsl := congrArg (fun x => x.rsl) h
theorem State.sameButSent.rtu (h : s.sameButSent t) : t.rtu = s.rtu := congrArg (fun x => x.rtu) h
theorem State.sameButSent.tlk (h : s.sameButSent t) : t.tlk = s.tlk := congrArg (fun x => x.tlk) h
theorem State.sameButSent.sru (h : s.sameButSent t) : t.sru = s.sru := congrArg (fun x => x.sru) h
theorem State.sameButSent.ssq (h : s.sameButSent t) : t.ssq = s.ssq := congrArg (fun x => x.ssq) h
theorem State.sameButSent.mcr (h : s.sameButSent t) : t.mcr = s.mcr := congrArg (fun x => x.mcr) h
theorem State.sameButSent.env (h : s.sameButSent t) : t.env = s.env := congrArg (fun x => x.env) h
theorem State.sameButSent.pending (h : s.sameButSent t) : t.pending = s.pending := congrArg (fun x => x.pending) h
theorem State.sameButSent.enables (h : s.sameButSent t) : t.efn.enables = s.efn.enables :=
  congrArg (fun x => x.efn.enables) h
theorem State.sameButSent.channels (h : s.sameButSent t) : t.efn.channels = s.efn.channels :=
  congrArg (fun x => x.efn.channels) h
theorem State.sameButSent.map (h : s.sameButSent t) : t.efn.map = s.efn.map := congrArg (fun x => x.efn.map) h

theorem State.sameButSent.trans (h : s.sameButSent t) (k : t.sameButSent u) : s.sameButSent u :=
  State.sameButSent_of (k.fcl.trans h.fcl) (k.sgt.trans h.sgt) (k.dci.trans h.dci) (k.tdu.trans h.tdu)
    (k.rsl.trans h.rsl) (k.rtu.trans h.rtu) (k.tlk.trans h.tlk) (k.sru.trans h.sru) (k.ssq.trans h.ssq)
    (k.mcr.trans h.mcr) (k.env.trans h.env) (k.pending.trans h.pending) (k.enables.trans h.enables)
    (k.channels.trans h.channels) (k.map.trans h.map)

/-! ### Presenting and flags -/

/-- Presenting an own frame changes the ports alone. -/
theorem State.present_eq (s : State) (k : Kind) (d : Byte) (i : Half) (p : List Byte) :
    (s.present k d i p).1 = s.withLine (s.present k d i p).1.line := by
  unfold State.present
  split <;> rfl

theorem State.present_sameButSent (s : State) (k : Kind) (d : Byte) (i : Half) (p : List Byte) :
    s.sameButSent (s.present k d i p).1 := by
  rw [State.present_eq]
  rfl

theorem State.setFlagTo_sameButSent (n : Nat) : ∀ (f : Flag) (s : State), s.sameButSent (State.setFlagTo n f s) := by
  induction n with
  | zero => intro f s; rfl
  | succ n ih =>
    intro f s
    have aux : ∀ (fd od : Bool) (x : State),
        x.sameButSent (if od then State.setFlagTo n .ownDrop (if fd then State.setFlagTo n .fwdDrop x else x)
          else (if fd then State.setFlagTo n .fwdDrop x else x)) := by
      intro fd od x
      cases fd <;> cases od
      · exact State.sameButSent_refl _
      · exact ih _ _
      · exact ih _ _
      · exact (ih _ _).trans (ih _ _)
    rw [State.setFlagTo]
    have h1 : s.sameButSent (s.withEfn (s.efn.set f)) := rfl
    split
    · exact h1.trans ((State.present_sameButSent _ .notify
        (BitVec.ofNat 8 ((s.efn.set f).channel (channelOf s.efn.map f.number)).dest)
        (BitVec.ofNat 16 (channelOf s.efn.map f.number))
        ((s.efn.set f).payload (channelOf s.efn.map f.number))).trans (aux _ _ _))
    · exact h1

/-- Setting a flag leaves all but the ports and the flags. -/
theorem State.setFlag_sameButSent (s : State) (f : Flag) : s.sameButSent (s.setFlag f) :=
  State.setFlagTo_sameButSent 4 f s

theorem State.setDrops_sameButSent (s : State) (fd od : Bool) : s.sameButSent (s.setDrops fd od) := by
  unfold State.setDrops
  cases fd <;> cases od
  · exact State.sameButSent_refl _
  · exact State.setFlag_sameButSent _ _
  · exact State.setFlag_sameButSent _ _
  · exact (State.setFlag_sameButSent _ _).trans (State.setFlag_sameButSent _ _)

/-- Sending an own frame leaves all but the ports and the flags. -/
theorem State.sendOwn_sameButSent (s : State) (k : Kind) (d : Byte) (i : Half) (p : List Byte) :
    s.sameButSent (s.sendOwn k d i p) :=
  (State.present_sameButSent s k d i p).trans (State.setDrops_sameButSent _ _ _)

theorem State.publish_sameButSent (s : State) (i : Half) (p : List Byte) : s.sameButSent (s.publish i p) :=
  State.sendOwn_sameButSent s _ _ _ _

theorem State.sendNotify_sameButSent (s : State) (c : Nat) : s.sameButSent (s.sendNotify c) :=
  (State.present_sameButSent s _ _ _ _).trans (State.setDrops_sameButSent _ _ _)

theorem State.notifyAll_sameButSent (cs : List Nat) : ∀ s : State, s.sameButSent (s.notifyAll cs) := by
  induction cs with
  | nil => intro s; rfl
  | cons c cs ih =>
    intro s
    refine State.sameButSent.trans ?_ (ih (if s.mayNotify c then s.sendNotify c else s))
    split
    · exact State.sendNotify_sameButSent s c
    · exact State.sameButSent_refl s

theorem State.judgeChannels_sameButSent (s : State) (before : Notifier) : s.sameButSent (s.judgeChannels before) :=
  State.notifyAll_sameButSent _ s

theorem State.reportChannels_sameButSent (s : State) : s.sameButSent s.reportChannels :=
  State.notifyAll_sameButSent _ s

/-- A RESPONSE leaves all but the ports and the flags. -/
theorem State.respond_sameButSent (s : State) (r : Request) (a : Answer) : s.sameButSent (s.respond r a) :=
  State.sendOwn_sameButSent s _ _ _ _

theorem State.sendStopDisplay_sameButSent (s : State) : s.sameButSent s.sendStopDisplay :=
  State.publish_sameButSent s _ _

theorem State.reportStops_sameButSent (s : State) (before : List StopEntry) : s.sameButSent (s.reportStops before) := by
  unfold State.reportStops
  split
  · exact State.sameButSent_refl s
  · exact State.sendStopDisplay_sameButSent s

/-! ### A frame that is sent -/

/-- Something in the list satisfies `q`, so the replacement takes its place. -/
theorem mem_replaceFirst {α : Type} (q : α → Bool) (x : α) (l : List α) (h : l.any q = true) : x ∈ replaceFirst q x l := by
  induction l with
  | nil => cases h
  | cons y ys ih =>
    unfold replaceFirst
    split
    · exact List.mem_cons_self ..
    · rename_i hq
      exact List.mem_cons_of_mem _ (ih (by simpa [hq] using h))

/-- The start of a transmission leaves the frames to send as they are. -/
theorem LinePort.startIfReady_toSend (p : LinePort) : p.startIfReady.toSend = p.toSend := by
  unfold LinePort.startIfReady
  split
  · simp [LinePort.toSend, *]
  · rfl

/-- An own frame presented where there is a place is among the frames to send (R13). -/
theorem LinePort.presentOwn_mem (p : LinePort) (f : Frame) (h : p.hasRoom) : ⟨f, .own⟩ ∈ (p.presentOwn f).1.toSend := by
  have hlt : p.egress.length < Config.egressPlaces := h.2
  unfold LinePort.presentOwn
  split
  · rename_i hd
    exact absurd (h.1.symm.trans hd) (by decide)
  · split
    · exact List.mem_append_right _ (mem_replaceFirst _ _ _ ‹_›)
    · rw [LinePort.append, LinePort.startIfReady_toSend]
      simp [LinePort.toSend]

/-- A frame published with a place free at both ports is among the frames that each has to send (R16, R75). -/
theorem State.present_mem (s : State) (own : Byte) (id : Half) (payload : List Byte) (h : s.mcr.address = some own)
    (ha : s.line.a.hasRoom) (hb : s.line.b.hasRoom) (p : Line) :
    ⟨Frame.make 63 own .process id s.line.txSeq payload, .own⟩ ∈ ((s.present .process 63 id payload).1.port p).toSend := by
  unfold State.present
  rw [h]
  cases p
  · exact LinePort.presentOwn_mem _ _ ha
  · exact LinePort.presentOwn_mem _ _ hb

/-! ### Fields after a flag is set -/

@[simp] theorem State.setFlag_fcl (s : State) (f : Flag) : (s.setFlag f).fcl = s.fcl :=
  (State.setFlag_sameButSent s f).fcl
@[simp] theorem State.setFlag_sgt (s : State) (f : Flag) : (s.setFlag f).sgt = s.sgt :=
  (State.setFlag_sameButSent s f).sgt
@[simp] theorem State.setFlag_dci (s : State) (f : Flag) : (s.setFlag f).dci = s.dci :=
  (State.setFlag_sameButSent s f).dci
@[simp] theorem State.setFlag_tdu (s : State) (f : Flag) : (s.setFlag f).tdu = s.tdu :=
  (State.setFlag_sameButSent s f).tdu
@[simp] theorem State.setFlag_rsl (s : State) (f : Flag) : (s.setFlag f).rsl = s.rsl :=
  (State.setFlag_sameButSent s f).rsl
@[simp] theorem State.setFlag_rtu (s : State) (f : Flag) : (s.setFlag f).rtu = s.rtu :=
  (State.setFlag_sameButSent s f).rtu
@[simp] theorem State.setFlag_tlk (s : State) (f : Flag) : (s.setFlag f).tlk = s.tlk :=
  (State.setFlag_sameButSent s f).tlk
@[simp] theorem State.setFlag_sru (s : State) (f : Flag) : (s.setFlag f).sru = s.sru :=
  (State.setFlag_sameButSent s f).sru
@[simp] theorem State.setFlag_ssq (s : State) (f : Flag) : (s.setFlag f).ssq = s.ssq :=
  (State.setFlag_sameButSent s f).ssq
@[simp] theorem State.setFlag_mcr (s : State) (f : Flag) : (s.setFlag f).mcr = s.mcr :=
  (State.setFlag_sameButSent s f).mcr
@[simp] theorem State.setFlag_env (s : State) (f : Flag) : (s.setFlag f).env = s.env :=
  (State.setFlag_sameButSent s f).env
@[simp] theorem State.setFlag_pending (s : State) (f : Flag) : (s.setFlag f).pending = s.pending :=
  (State.setFlag_sameButSent s f).pending

@[simp] theorem State.setDrops_fcl (s : State) (fd od : Bool) : (s.setDrops fd od).fcl = s.fcl :=
  (State.setDrops_sameButSent s fd od).fcl
@[simp] theorem State.setDrops_sgt (s : State) (fd od : Bool) : (s.setDrops fd od).sgt = s.sgt :=
  (State.setDrops_sameButSent s fd od).sgt
@[simp] theorem State.setDrops_dci (s : State) (fd od : Bool) : (s.setDrops fd od).dci = s.dci :=
  (State.setDrops_sameButSent s fd od).dci
@[simp] theorem State.setDrops_tdu (s : State) (fd od : Bool) : (s.setDrops fd od).tdu = s.tdu :=
  (State.setDrops_sameButSent s fd od).tdu
@[simp] theorem State.setDrops_rsl (s : State) (fd od : Bool) : (s.setDrops fd od).rsl = s.rsl :=
  (State.setDrops_sameButSent s fd od).rsl
@[simp] theorem State.setDrops_rtu (s : State) (fd od : Bool) : (s.setDrops fd od).rtu = s.rtu :=
  (State.setDrops_sameButSent s fd od).rtu
@[simp] theorem State.setDrops_tlk (s : State) (fd od : Bool) : (s.setDrops fd od).tlk = s.tlk :=
  (State.setDrops_sameButSent s fd od).tlk
@[simp] theorem State.setDrops_sru (s : State) (fd od : Bool) : (s.setDrops fd od).sru = s.sru :=
  (State.setDrops_sameButSent s fd od).sru
@[simp] theorem State.setDrops_ssq (s : State) (fd od : Bool) : (s.setDrops fd od).ssq = s.ssq :=
  (State.setDrops_sameButSent s fd od).ssq
@[simp] theorem State.setDrops_mcr (s : State) (fd od : Bool) : (s.setDrops fd od).mcr = s.mcr :=
  (State.setDrops_sameButSent s fd od).mcr
@[simp] theorem State.setDrops_env (s : State) (fd od : Bool) : (s.setDrops fd od).env = s.env :=
  (State.setDrops_sameButSent s fd od).env
@[simp] theorem State.setDrops_pending (s : State) (fd od : Bool) : (s.setDrops fd od).pending = s.pending :=
  (State.setDrops_sameButSent s fd od).pending

@[simp] theorem State.sendOwn_fcl (s : State) (k : Kind) (d : Byte) (i : Half) (p : List Byte) : (s.sendOwn k d i p).fcl = s.fcl :=
  (State.sendOwn_sameButSent s k d i p).fcl
@[simp] theorem State.sendOwn_sgt (s : State) (k : Kind) (d : Byte) (i : Half) (p : List Byte) : (s.sendOwn k d i p).sgt = s.sgt :=
  (State.sendOwn_sameButSent s k d i p).sgt
@[simp] theorem State.sendOwn_dci (s : State) (k : Kind) (d : Byte) (i : Half) (p : List Byte) : (s.sendOwn k d i p).dci = s.dci :=
  (State.sendOwn_sameButSent s k d i p).dci
@[simp] theorem State.sendOwn_tdu (s : State) (k : Kind) (d : Byte) (i : Half) (p : List Byte) : (s.sendOwn k d i p).tdu = s.tdu :=
  (State.sendOwn_sameButSent s k d i p).tdu
@[simp] theorem State.sendOwn_rsl (s : State) (k : Kind) (d : Byte) (i : Half) (p : List Byte) : (s.sendOwn k d i p).rsl = s.rsl :=
  (State.sendOwn_sameButSent s k d i p).rsl
@[simp] theorem State.sendOwn_rtu (s : State) (k : Kind) (d : Byte) (i : Half) (p : List Byte) : (s.sendOwn k d i p).rtu = s.rtu :=
  (State.sendOwn_sameButSent s k d i p).rtu
@[simp] theorem State.sendOwn_tlk (s : State) (k : Kind) (d : Byte) (i : Half) (p : List Byte) : (s.sendOwn k d i p).tlk = s.tlk :=
  (State.sendOwn_sameButSent s k d i p).tlk
@[simp] theorem State.sendOwn_sru (s : State) (k : Kind) (d : Byte) (i : Half) (p : List Byte) : (s.sendOwn k d i p).sru = s.sru :=
  (State.sendOwn_sameButSent s k d i p).sru
@[simp] theorem State.sendOwn_ssq (s : State) (k : Kind) (d : Byte) (i : Half) (p : List Byte) : (s.sendOwn k d i p).ssq = s.ssq :=
  (State.sendOwn_sameButSent s k d i p).ssq
@[simp] theorem State.sendOwn_mcr (s : State) (k : Kind) (d : Byte) (i : Half) (p : List Byte) : (s.sendOwn k d i p).mcr = s.mcr :=
  (State.sendOwn_sameButSent s k d i p).mcr
@[simp] theorem State.sendOwn_env (s : State) (k : Kind) (d : Byte) (i : Half) (p : List Byte) : (s.sendOwn k d i p).env = s.env :=
  (State.sendOwn_sameButSent s k d i p).env
@[simp] theorem State.sendOwn_pending (s : State) (k : Kind) (d : Byte) (i : Half) (p : List Byte) : (s.sendOwn k d i p).pending = s.pending :=
  (State.sendOwn_sameButSent s k d i p).pending

@[simp] theorem State.publish_fcl (s : State) (i : Half) (p : List Byte) : (s.publish i p).fcl = s.fcl :=
  (State.publish_sameButSent s i p).fcl
@[simp] theorem State.publish_sgt (s : State) (i : Half) (p : List Byte) : (s.publish i p).sgt = s.sgt :=
  (State.publish_sameButSent s i p).sgt
@[simp] theorem State.publish_dci (s : State) (i : Half) (p : List Byte) : (s.publish i p).dci = s.dci :=
  (State.publish_sameButSent s i p).dci
@[simp] theorem State.publish_tdu (s : State) (i : Half) (p : List Byte) : (s.publish i p).tdu = s.tdu :=
  (State.publish_sameButSent s i p).tdu
@[simp] theorem State.publish_rsl (s : State) (i : Half) (p : List Byte) : (s.publish i p).rsl = s.rsl :=
  (State.publish_sameButSent s i p).rsl
@[simp] theorem State.publish_rtu (s : State) (i : Half) (p : List Byte) : (s.publish i p).rtu = s.rtu :=
  (State.publish_sameButSent s i p).rtu
@[simp] theorem State.publish_tlk (s : State) (i : Half) (p : List Byte) : (s.publish i p).tlk = s.tlk :=
  (State.publish_sameButSent s i p).tlk
@[simp] theorem State.publish_sru (s : State) (i : Half) (p : List Byte) : (s.publish i p).sru = s.sru :=
  (State.publish_sameButSent s i p).sru
@[simp] theorem State.publish_ssq (s : State) (i : Half) (p : List Byte) : (s.publish i p).ssq = s.ssq :=
  (State.publish_sameButSent s i p).ssq
@[simp] theorem State.publish_mcr (s : State) (i : Half) (p : List Byte) : (s.publish i p).mcr = s.mcr :=
  (State.publish_sameButSent s i p).mcr
@[simp] theorem State.publish_env (s : State) (i : Half) (p : List Byte) : (s.publish i p).env = s.env :=
  (State.publish_sameButSent s i p).env
@[simp] theorem State.publish_pending (s : State) (i : Half) (p : List Byte) : (s.publish i p).pending = s.pending :=
  (State.publish_sameButSent s i p).pending

@[simp] theorem State.respond_fcl (s : State) (r : Request) (a : Answer) : (s.respond r a).fcl = s.fcl :=
  (State.respond_sameButSent s r a).fcl
@[simp] theorem State.respond_sgt (s : State) (r : Request) (a : Answer) : (s.respond r a).sgt = s.sgt :=
  (State.respond_sameButSent s r a).sgt
@[simp] theorem State.respond_dci (s : State) (r : Request) (a : Answer) : (s.respond r a).dci = s.dci :=
  (State.respond_sameButSent s r a).dci
@[simp] theorem State.respond_tdu (s : State) (r : Request) (a : Answer) : (s.respond r a).tdu = s.tdu :=
  (State.respond_sameButSent s r a).tdu
@[simp] theorem State.respond_rsl (s : State) (r : Request) (a : Answer) : (s.respond r a).rsl = s.rsl :=
  (State.respond_sameButSent s r a).rsl
@[simp] theorem State.respond_rtu (s : State) (r : Request) (a : Answer) : (s.respond r a).rtu = s.rtu :=
  (State.respond_sameButSent s r a).rtu
@[simp] theorem State.respond_tlk (s : State) (r : Request) (a : Answer) : (s.respond r a).tlk = s.tlk :=
  (State.respond_sameButSent s r a).tlk
@[simp] theorem State.respond_sru (s : State) (r : Request) (a : Answer) : (s.respond r a).sru = s.sru :=
  (State.respond_sameButSent s r a).sru
@[simp] theorem State.respond_ssq (s : State) (r : Request) (a : Answer) : (s.respond r a).ssq = s.ssq :=
  (State.respond_sameButSent s r a).ssq
@[simp] theorem State.respond_mcr (s : State) (r : Request) (a : Answer) : (s.respond r a).mcr = s.mcr :=
  (State.respond_sameButSent s r a).mcr
@[simp] theorem State.respond_env (s : State) (r : Request) (a : Answer) : (s.respond r a).env = s.env :=
  (State.respond_sameButSent s r a).env
@[simp] theorem State.respond_pending (s : State) (r : Request) (a : Answer) : (s.respond r a).pending = s.pending :=
  (State.respond_sameButSent s r a).pending

/-! ### A flag that is set -/

/-- A set request makes its flag set and leaves every flag that is set (R187), before any NOTIFY. -/
theorem Notifier.set_isSet (e : Notifier) (f : Flag) : (e.set f).isSet f = true := by
  cases f <;> simp [Notifier.set, Notifier.isSet, Flag.number]

end Sys2Proof.Machine
end

