-- ==== Sys2Proof/Laws/Restrictions.lean ====
section
/-! SUPPORT. What raises, lifts and the release test do to the restriction list (R84 to R88), and
that they change nothing else but what sending changes. -/

namespace Sys2Proof.Machine

/-- The list after a raise (R84, R85, R94). -/
theorem State.raise_rsl (s : State) (src : Source) (key : Half) (k : Restraint) :
    (s.raise src key k).rsl =
      if s.mcr.mode = .standby then s.rsl
      else
        match findRestriction s.rsl src key with
        | none => s.rsl ++ [⟨src, key, k, s.tdu.periodCount⟩]
        | some e =>
          if e.kind.raisedBy k = e.kind then s.rsl
          else replaceFirst (·.names src key) { e with kind := e.kind.raisedBy k } s.rsl := by
  unfold State.raise
  split
  · rfl
  · cases h : findRestriction s.rsl src key with
    | none => simp
    | some e =>
      dsimp only
      split <;> simp

/-- A raise changes the list and what sending changes. -/
theorem State.raise_sameButSent (s : State) (src : Source) (key : Half) (k : Restraint) :
    (s.withRsl (s.raise src key k).rsl).sameButSent (s.raise src key k) := by
  unfold State.raise
  split
  · rfl
  · split
    · simpa using State.setFlag_sameButSent _ _
    · split
      · rfl
      · simpa using State.setFlag_sameButSent _ _

/-- The list after a lift (R86, R87). -/
theorem State.lift_rsl (s : State) (src : Source) (key : Half) :
    (s.lift src key).rsl =
      match findRestriction s.rsl src key with
      | none => s.rsl
      | some e =>
        match e.kind with
        | .emergency true => s.rsl
        | .emergency false => replaceFirst (·.names src key) { e with kind := .emergency true } s.rsl
        | _ => s.rsl.eraseP (·.names src key) := by
  unfold State.lift
  cases h : findRestriction s.rsl src key with
  | none => rfl
  | some e => cases hk : e.kind with
    | cap v => simp [hk]
    | hold => simp [hk]
    | emergency l => cases l <;> simp [hk]

/-- A lift changes the list and what sending changes. -/
theorem State.lift_sameButSent (s : State) (src : Source) (key : Half) :
    (s.withRsl (s.lift src key).rsl).sameButSent (s.lift src key) := by
  unfold State.lift
  split
  · rfl
  · split
    · rfl
    · simpa using State.setFlag_sameButSent _ _
    · simpa using State.setFlag_sameButSent _ _

/-- The list after the release test (R88). -/
theorem State.releaseTest_rsl (s : State) :
    s.releaseTest.rsl = if s.releaseCondition then s.rsl.filter (·.kind != .emergency true) else s.rsl := by
  unfold State.releaseTest
  cases hc : s.releaseCondition
  · simp
  · by_cases hl : (s.rsl.filter (·.kind != .emergency true)).length < s.rsl.length
    · simp [hl]
    · have h := List.filter_sublist.eq_of_length_le (l₁ := s.rsl.filter (·.kind != .emergency true)) (Nat.le_of_not_lt hl)
      simp [h]

/-- The release test changes the list and what sending changes. -/
theorem State.releaseTest_sameButSent (s : State) : (s.withRsl s.releaseTest.rsl).sameButSent s.releaseTest := by
  unfold State.releaseTest
  dsimp only
  split
  · simpa using State.setFlag_sameButSent _ _
  · rfl

/-! ### Fields after a raise, a lift, a release test -/

@[simp] theorem State.raise_fcl (s : State) (src : Source) (key : Half) (k : Restraint) : (s.raise src key k).fcl = s.fcl :=
  (State.raise_sameButSent s src key k).fcl
@[simp] theorem State.raise_sgt (s : State) (src : Source) (key : Half) (k : Restraint) : (s.raise src key k).sgt = s.sgt :=
  (State.raise_sameButSent s src key k).sgt
@[simp] theorem State.raise_dci (s : State) (src : Source) (key : Half) (k : Restraint) : (s.raise src key k).dci = s.dci :=
  (State.raise_sameButSent s src key k).dci
@[simp] theorem State.raise_tdu (s : State) (src : Source) (key : Half) (k : Restraint) : (s.raise src key k).tdu = s.tdu :=
  (State.raise_sameButSent s src key k).tdu
@[simp] theorem State.raise_rtu (s : State) (src : Source) (key : Half) (k : Restraint) : (s.raise src key k).rtu = s.rtu :=
  (State.raise_sameButSent s src key k).rtu
@[simp] theorem State.raise_tlk (s : State) (src : Source) (key : Half) (k : Restraint) : (s.raise src key k).tlk = s.tlk :=
  (State.raise_sameButSent s src key k).tlk
@[simp] theorem State.raise_sru (s : State) (src : Source) (key : Half) (k : Restraint) : (s.raise src key k).sru = s.sru :=
  (State.raise_sameButSent s src key k).sru
@[simp] theorem State.raise_ssq (s : State) (src : Source) (key : Half) (k : Restraint) : (s.raise src key k).ssq = s.ssq :=
  (State.raise_sameButSent s src key k).ssq
@[simp] theorem State.raise_mcr (s : State) (src : Source) (key : Half) (k : Restraint) : (s.raise src key k).mcr = s.mcr :=
  (State.raise_sameButSent s src key k).mcr
@[simp] theorem State.raise_env (s : State) (src : Source) (key : Half) (k : Restraint) : (s.raise src key k).env = s.env :=
  (State.raise_sameButSent s src key k).env
@[simp] theorem State.raise_pending (s : State) (src : Source) (key : Half) (k : Restraint) : (s.raise src key k).pending = s.pending :=
  (State.raise_sameButSent s src key k).pending

@[simp] theorem State.lift_fcl (s : State) (src : Source) (key : Half) : (s.lift src key).fcl = s.fcl :=
  (State.lift_sameButSent s src key).fcl
@[simp] theorem State.lift_sgt (s : State) (src : Source) (key : Half) : (s.lift src key).sgt = s.sgt :=
  (State.lift_sameButSent s src key).sgt
@[simp] theorem State.lift_dci (s : State) (src : Source) (key : Half) : (s.lift src key).dci = s.dci :=
  (State.lift_sameButSent s src key).dci
@[simp] theorem State.lift_tdu (s : State) (src : Source) (key : Half) : (s.lift src key).tdu = s.tdu :=
  (State.lift_sameButSent s src key).tdu
@[simp] theorem State.lift_rtu (s : State) (src : Source) (key : Half) : (s.lift src key).rtu = s.rtu :=
  (State.lift_sameButSent s src key).rtu
@[simp] theorem State.lift_tlk (s : State) (src : Source) (key : Half) : (s.lift src key).tlk = s.tlk :=
  (State.lift_sameButSent s src key).tlk
@[simp] theorem State.lift_sru (s : State) (src : Source) (key : Half) : (s.lift src key).sru = s.sru :=
  (State.lift_sameButSent s src key).sru
@[simp] theorem State.lift_ssq (s : State) (src : Source) (key : Half) : (s.lift src key).ssq = s.ssq :=
  (State.lift_sameButSent s src key).ssq
@[simp] theorem State.lift_mcr (s : State) (src : Source) (key : Half) : (s.lift src key).mcr = s.mcr :=
  (State.lift_sameButSent s src key).mcr
@[simp] theorem State.lift_env (s : State) (src : Source) (key : Half) : (s.lift src key).env = s.env :=
  (State.lift_sameButSent s src key).env
@[simp] theorem State.lift_pending (s : State) (src : Source) (key : Half) : (s.lift src key).pending = s.pending :=
  (State.lift_sameButSent s src key).pending

@[simp] theorem State.releaseTest_fcl (s : State) : s.releaseTest.fcl = s.fcl :=
  (State.releaseTest_sameButSent s).fcl
@[simp] theorem State.releaseTest_sgt (s : State) : s.releaseTest.sgt = s.sgt :=
  (State.releaseTest_sameButSent s).sgt
@[simp] theorem State.releaseTest_dci (s : State) : s.releaseTest.dci = s.dci :=
  (State.releaseTest_sameButSent s).dci
@[simp] theorem State.releaseTest_tdu (s : State) : s.releaseTest.tdu = s.tdu :=
  (State.releaseTest_sameButSent s).tdu
@[simp] theorem State.releaseTest_rtu (s : State) : s.releaseTest.rtu = s.rtu :=
  (State.releaseTest_sameButSent s).rtu
@[simp] theorem State.releaseTest_tlk (s : State) : s.releaseTest.tlk = s.tlk :=
  (State.releaseTest_sameButSent s).tlk
@[simp] theorem State.releaseTest_sru (s : State) : s.releaseTest.sru = s.sru :=
  (State.releaseTest_sameButSent s).sru
@[simp] theorem State.releaseTest_ssq (s : State) : s.releaseTest.ssq = s.ssq :=
  (State.releaseTest_sameButSent s).ssq
@[simp] theorem State.releaseTest_mcr (s : State) : s.releaseTest.mcr = s.mcr :=
  (State.releaseTest_sameButSent s).mcr
@[simp] theorem State.releaseTest_env (s : State) : s.releaseTest.env = s.env :=
  (State.releaseTest_sameButSent s).env
@[simp] theorem State.releaseTest_pending (s : State) : s.releaseTest.pending = s.pending :=
  (State.releaseTest_sameButSent s).pending

end Sys2Proof.Machine
end

