-- ==== Sys2Proof/Laws/Operations.lean ====
section
/-! SUPPORT. What a sound request, the DOORS test, a change of mode, an arrival at the track link and the TDU's
own raises leave unchanged. -/

namespace Sys2Proof.Machine

/-! ### Sound requests (R164) -/

/-- A sound request changes the sequencer and what sending changes. -/
theorem State.soundRequest_sameButSent (s : State) (ch : Channel) (r : SoundRequest) :
    (s.withSsq (s.soundRequest ch r).ssq).sameButSent (s.soundRequest ch r) := by
  unfold State.soundRequest
  dsimp only
  repeat' split
  all_goals first
    | rfl
    | (rw [State.setFlag_ssq]; exact State.setFlag_sameButSent s .soundDrop)
    | simpa using State.setFlag_sameButSent _ _

/-! ### The load judgement (R171) -/

/-- A judged step changes the sequencer and what sending changes. -/
theorem State.judgeLoad_sameButSent (s : State) (ch : Channel) (load : Bool) :
    (s.withSsq (s.judgeLoad ch load).ssq).sameButSent (s.judgeLoad ch load) := by
  unfold State.judgeLoad
  dsimp only
  split
  · rfl
  · simpa using State.setFlag_sameButSent _ _

/-! ### Fields after them -/

@[simp] theorem State.soundRequest_fcl (s : State) (ch : Channel) (r : SoundRequest) : (s.soundRequest ch r).fcl = s.fcl :=
  (State.soundRequest_sameButSent s ch r).fcl
@[simp] theorem State.soundRequest_sgt (s : State) (ch : Channel) (r : SoundRequest) : (s.soundRequest ch r).sgt = s.sgt :=
  (State.soundRequest_sameButSent s ch r).sgt
@[simp] theorem State.soundRequest_dci (s : State) (ch : Channel) (r : SoundRequest) : (s.soundRequest ch r).dci = s.dci :=
  (State.soundRequest_sameButSent s ch r).dci
@[simp] theorem State.soundRequest_tdu (s : State) (ch : Channel) (r : SoundRequest) : (s.soundRequest ch r).tdu = s.tdu :=
  (State.soundRequest_sameButSent s ch r).tdu
@[simp] theorem State.soundRequest_rsl (s : State) (ch : Channel) (r : SoundRequest) : (s.soundRequest ch r).rsl = s.rsl :=
  (State.soundRequest_sameButSent s ch r).rsl
@[simp] theorem State.soundRequest_rtu (s : State) (ch : Channel) (r : SoundRequest) : (s.soundRequest ch r).rtu = s.rtu :=
  (State.soundRequest_sameButSent s ch r).rtu
@[simp] theorem State.soundRequest_tlk (s : State) (ch : Channel) (r : SoundRequest) : (s.soundRequest ch r).tlk = s.tlk :=
  (State.soundRequest_sameButSent s ch r).tlk
@[simp] theorem State.soundRequest_sru (s : State) (ch : Channel) (r : SoundRequest) : (s.soundRequest ch r).sru = s.sru :=
  (State.soundRequest_sameButSent s ch r).sru
@[simp] theorem State.soundRequest_mcr (s : State) (ch : Channel) (r : SoundRequest) : (s.soundRequest ch r).mcr = s.mcr :=
  (State.soundRequest_sameButSent s ch r).mcr
@[simp] theorem State.soundRequest_env (s : State) (ch : Channel) (r : SoundRequest) : (s.soundRequest ch r).env = s.env :=
  (State.soundRequest_sameButSent s ch r).env
@[simp] theorem State.soundRequest_pending (s : State) (ch : Channel) (r : SoundRequest) : (s.soundRequest ch r).pending = s.pending :=
  (State.soundRequest_sameButSent s ch r).pending

@[simp] theorem State.judgeLoad_fcl (s : State) (ch : Channel) (load : Bool) : (s.judgeLoad ch load).fcl = s.fcl :=
  (State.judgeLoad_sameButSent s ch load).fcl
@[simp] theorem State.judgeLoad_sgt (s : State) (ch : Channel) (load : Bool) : (s.judgeLoad ch load).sgt = s.sgt :=
  (State.judgeLoad_sameButSent s ch load).sgt
@[simp] theorem State.judgeLoad_dci (s : State) (ch : Channel) (load : Bool) : (s.judgeLoad ch load).dci = s.dci :=
  (State.judgeLoad_sameButSent s ch load).dci
@[simp] theorem State.judgeLoad_tdu (s : State) (ch : Channel) (load : Bool) : (s.judgeLoad ch load).tdu = s.tdu :=
  (State.judgeLoad_sameButSent s ch load).tdu
@[simp] theorem State.judgeLoad_rsl (s : State) (ch : Channel) (load : Bool) : (s.judgeLoad ch load).rsl = s.rsl :=
  (State.judgeLoad_sameButSent s ch load).rsl
@[simp] theorem State.judgeLoad_rtu (s : State) (ch : Channel) (load : Bool) : (s.judgeLoad ch load).rtu = s.rtu :=
  (State.judgeLoad_sameButSent s ch load).rtu
@[simp] theorem State.judgeLoad_tlk (s : State) (ch : Channel) (load : Bool) : (s.judgeLoad ch load).tlk = s.tlk :=
  (State.judgeLoad_sameButSent s ch load).tlk
@[simp] theorem State.judgeLoad_sru (s : State) (ch : Channel) (load : Bool) : (s.judgeLoad ch load).sru = s.sru :=
  (State.judgeLoad_sameButSent s ch load).sru
@[simp] theorem State.judgeLoad_mcr (s : State) (ch : Channel) (load : Bool) : (s.judgeLoad ch load).mcr = s.mcr :=
  (State.judgeLoad_sameButSent s ch load).mcr
@[simp] theorem State.judgeLoad_env (s : State) (ch : Channel) (load : Bool) : (s.judgeLoad ch load).env = s.env :=
  (State.judgeLoad_sameButSent s ch load).env
@[simp] theorem State.judgeLoad_pending (s : State) (ch : Channel) (load : Bool) : (s.judgeLoad ch load).pending = s.pending :=
  (State.judgeLoad_sameButSent s ch load).pending

/-! ### The DOORS test (R154) -/

@[simp] theorem State.doorsTest_fcl (s : State) : s.doorsTest.fcl = s.fcl := by
  unfold State.doorsTest; repeat' split
  all_goals simp
@[simp] theorem State.doorsTest_sgt (s : State) : s.doorsTest.sgt = s.sgt := by
  unfold State.doorsTest; repeat' split
  all_goals simp
@[simp] theorem State.doorsTest_dci (s : State) : s.doorsTest.dci = s.dci := by
  unfold State.doorsTest; repeat' split
  all_goals simp
@[simp] theorem State.doorsTest_tdu (s : State) : s.doorsTest.tdu = s.tdu := by
  unfold State.doorsTest; repeat' split
  all_goals simp
@[simp] theorem State.doorsTest_rtu (s : State) : s.doorsTest.rtu = s.rtu := by
  unfold State.doorsTest; repeat' split
  all_goals simp
@[simp] theorem State.doorsTest_tlk (s : State) : s.doorsTest.tlk = s.tlk := by
  unfold State.doorsTest; repeat' split
  all_goals simp
@[simp] theorem State.doorsTest_ssq (s : State) : s.doorsTest.ssq = s.ssq := by
  unfold State.doorsTest; repeat' split
  all_goals simp
@[simp] theorem State.doorsTest_mcr (s : State) : s.doorsTest.mcr = s.mcr := by
  unfold State.doorsTest; repeat' split
  all_goals simp
@[simp] theorem State.doorsTest_env (s : State) : s.doorsTest.env = s.env := by
  unfold State.doorsTest; repeat' split
  all_goals simp
@[simp] theorem State.doorsTest_pending (s : State) : s.doorsTest.pending = s.pending := by
  unfold State.doorsTest; repeat' split
  all_goals simp

/-- The DOORS test changes the mark alone in the stop request unit. -/
theorem State.doorsTest_sru (s : State) :
    s.doorsTest.sru = { s.sru with mark := if s.mcr.mode.active then s.sru.doorsCondition else s.sru.mark } := by
  unfold State.doorsTest
  cases ha : s.mcr.mode.active
  · rfl
  · cases hc : s.sru.doorsCondition <;> cases hm : s.sru.mark
    · simp only [Bool.not_true, Bool.false_eq_true, if_false, if_true]; rw [← hm]
    · simp
    · simp
    · simp only [Bool.not_true, Bool.false_eq_true, if_false, if_true]; rw [← hm]

/-! ### Deliveries to the TDU and the SSQ (R44, R64, R65, R169) -/

@[simp] theorem State.deadmanHeld_fcl (s : State) : s.deadmanHeld.fcl = s.fcl := by
  unfold State.deadmanHeld; repeat' split
  all_goals simp
@[simp] theorem State.deadmanHeld_sgt (s : State) : s.deadmanHeld.sgt = s.sgt := by
  unfold State.deadmanHeld; repeat' split
  all_goals simp
@[simp] theorem State.deadmanHeld_dci (s : State) : s.deadmanHeld.dci = s.dci := by
  unfold State.deadmanHeld; repeat' split
  all_goals simp
@[simp] theorem State.deadmanHeld_rtu (s : State) : s.deadmanHeld.rtu = s.rtu := by
  unfold State.deadmanHeld; repeat' split
  all_goals simp
@[simp] theorem State.deadmanHeld_tlk (s : State) : s.deadmanHeld.tlk = s.tlk := by
  unfold State.deadmanHeld; repeat' split
  all_goals simp
@[simp] theorem State.deadmanHeld_sru (s : State) : s.deadmanHeld.sru = s.sru := by
  unfold State.deadmanHeld; repeat' split
  all_goals simp
@[simp] theorem State.deadmanHeld_ssq (s : State) : s.deadmanHeld.ssq = s.ssq := by
  unfold State.deadmanHeld; repeat' split
  all_goals simp
@[simp] theorem State.deadmanHeld_mcr (s : State) : s.deadmanHeld.mcr = s.mcr := by
  unfold State.deadmanHeld; repeat' split
  all_goals simp
@[simp] theorem State.deadmanHeld_env (s : State) : s.deadmanHeld.env = s.env := by
  unfold State.deadmanHeld; repeat' split
  all_goals simp
@[simp] theorem State.deadmanHeld_pending (s : State) : s.deadmanHeld.pending = s.pending := by
  unfold State.deadmanHeld; repeat' split
  all_goals simp

@[simp] theorem State.emergencyHandle_fcl (s : State) (b : Bool) : (s.emergencyHandle b).fcl = s.fcl := by
  unfold State.emergencyHandle; repeat' split
  all_goals simp
@[simp] theorem State.emergencyHandle_sgt (s : State) (b : Bool) : (s.emergencyHandle b).sgt = s.sgt := by
  unfold State.emergencyHandle; repeat' split
  all_goals simp
@[simp] theorem State.emergencyHandle_dci (s : State) (b : Bool) : (s.emergencyHandle b).dci = s.dci := by
  unfold State.emergencyHandle; repeat' split
  all_goals simp
@[simp] theorem State.emergencyHandle_rtu (s : State) (b : Bool) : (s.emergencyHandle b).rtu = s.rtu := by
  unfold State.emergencyHandle; repeat' split
  all_goals simp
@[simp] theorem State.emergencyHandle_tlk (s : State) (b : Bool) : (s.emergencyHandle b).tlk = s.tlk := by
  unfold State.emergencyHandle; repeat' split
  all_goals simp
@[simp] theorem State.emergencyHandle_sru (s : State) (b : Bool) : (s.emergencyHandle b).sru = s.sru := by
  unfold State.emergencyHandle; repeat' split
  all_goals simp
@[simp] theorem State.emergencyHandle_ssq (s : State) (b : Bool) : (s.emergencyHandle b).ssq = s.ssq := by
  unfold State.emergencyHandle; repeat' split
  all_goals simp
@[simp] theorem State.emergencyHandle_mcr (s : State) (b : Bool) : (s.emergencyHandle b).mcr = s.mcr := by
  unfold State.emergencyHandle; repeat' split
  all_goals simp
@[simp] theorem State.emergencyHandle_env (s : State) (b : Bool) : (s.emergencyHandle b).env = s.env := by
  unfold State.emergencyHandle; repeat' split
  all_goals simp
@[simp] theorem State.emergencyHandle_pending (s : State) (b : Bool) : (s.emergencyHandle b).pending = s.pending := by
  unfold State.emergencyHandle; repeat' split
  all_goals simp

@[simp] theorem State.deliverTraction_fcl (s : State) (o : Option View) (n : View) : (s.deliverTraction o n).fcl = s.fcl := by
  unfold State.deliverTraction; dsimp only; repeat' split
  all_goals simp
@[simp] theorem State.deliverTraction_sgt (s : State) (o : Option View) (n : View) : (s.deliverTraction o n).sgt = s.sgt := by
  unfold State.deliverTraction; dsimp only; repeat' split
  all_goals simp
@[simp] theorem State.deliverTraction_dci (s : State) (o : Option View) (n : View) : (s.deliverTraction o n).dci = s.dci := by
  unfold State.deliverTraction; dsimp only; repeat' split
  all_goals simp
@[simp] theorem State.deliverTraction_rtu (s : State) (o : Option View) (n : View) : (s.deliverTraction o n).rtu = s.rtu := by
  unfold State.deliverTraction; dsimp only; repeat' split
  all_goals simp
@[simp] theorem State.deliverTraction_tlk (s : State) (o : Option View) (n : View) : (s.deliverTraction o n).tlk = s.tlk := by
  unfold State.deliverTraction; dsimp only; repeat' split
  all_goals simp
@[simp] theorem State.deliverTraction_sru (s : State) (o : Option View) (n : View) : (s.deliverTraction o n).sru = s.sru := by
  unfold State.deliverTraction; dsimp only; repeat' split
  all_goals simp
@[simp] theorem State.deliverTraction_ssq (s : State) (o : Option View) (n : View) : (s.deliverTraction o n).ssq = s.ssq := by
  unfold State.deliverTraction; dsimp only; repeat' split
  all_goals simp
@[simp] theorem State.deliverTraction_mcr (s : State) (o : Option View) (n : View) : (s.deliverTraction o n).mcr = s.mcr := by
  unfold State.deliverTraction; dsimp only; repeat' split
  all_goals simp
@[simp] theorem State.deliverTraction_env (s : State) (o : Option View) (n : View) : (s.deliverTraction o n).env = s.env := by
  unfold State.deliverTraction; dsimp only; repeat' split
  all_goals simp
@[simp] theorem State.deliverTraction_pending (s : State) (o : Option View) (n : View) : (s.deliverTraction o n).pending = s.pending := by
  unfold State.deliverTraction; dsimp only; repeat' split
  all_goals simp
@[simp] theorem State.deliverHorn_line (s : State) (o : Option View) (n : View) : (s.deliverHorn o n).line = s.line := by
  unfold State.deliverHorn State.hornRelease; dsimp only; repeat' split
  all_goals simp
@[simp] theorem State.deliverHorn_fcl (s : State) (o : Option View) (n : View) : (s.deliverHorn o n).fcl = s.fcl := by
  unfold State.deliverHorn State.hornRelease; dsimp only; repeat' split
  all_goals simp
@[simp] theorem State.deliverHorn_sgt (s : State) (o : Option View) (n : View) : (s.deliverHorn o n).sgt = s.sgt := by
  unfold State.deliverHorn State.hornRelease; dsimp only; repeat' split
  all_goals simp
@[simp] theorem State.deliverHorn_dci (s : State) (o : Option View) (n : View) : (s.deliverHorn o n).dci = s.dci := by
  unfold State.deliverHorn State.hornRelease; dsimp only; repeat' split
  all_goals simp
@[simp] theorem State.deliverHorn_tdu (s : State) (o : Option View) (n : View) : (s.deliverHorn o n).tdu = s.tdu := by
  unfold State.deliverHorn State.hornRelease; dsimp only; repeat' split
  all_goals simp
@[simp] theorem State.deliverHorn_rsl (s : State) (o : Option View) (n : View) : (s.deliverHorn o n).rsl = s.rsl := by
  unfold State.deliverHorn State.hornRelease; dsimp only; repeat' split
  all_goals simp
@[simp] theorem State.deliverHorn_rtu (s : State) (o : Option View) (n : View) : (s.deliverHorn o n).rtu = s.rtu := by
  unfold State.deliverHorn State.hornRelease; dsimp only; repeat' split
  all_goals simp
@[simp] theorem State.deliverHorn_tlk (s : State) (o : Option View) (n : View) : (s.deliverHorn o n).tlk = s.tlk := by
  unfold State.deliverHorn State.hornRelease; dsimp only; repeat' split
  all_goals simp
@[simp] theorem State.deliverHorn_sru (s : State) (o : Option View) (n : View) : (s.deliverHorn o n).sru = s.sru := by
  unfold State.deliverHorn State.hornRelease; dsimp only; repeat' split
  all_goals simp
@[simp] theorem State.deliverHorn_efn (s : State) (o : Option View) (n : View) : (s.deliverHorn o n).efn = s.efn := by
  unfold State.deliverHorn State.hornRelease; dsimp only; repeat' split
  all_goals simp
@[simp] theorem State.deliverHorn_mcr (s : State) (o : Option View) (n : View) : (s.deliverHorn o n).mcr = s.mcr := by
  unfold State.deliverHorn State.hornRelease; dsimp only; repeat' split
  all_goals simp
@[simp] theorem State.deliverHorn_env (s : State) (o : Option View) (n : View) : (s.deliverHorn o n).env = s.env := by
  unfold State.deliverHorn State.hornRelease; dsimp only; repeat' split
  all_goals simp
@[simp] theorem State.deliverHorn_pending (s : State) (o : Option View) (n : View) : (s.deliverHorn o n).pending = s.pending := by
  unfold State.deliverHorn State.hornRelease; dsimp only; repeat' split
  all_goals simp

/-! ### Changes of mode -/

@[simp] theorem State.changeMode_fcl (s : State) (m : Mode) : (s.changeMode m).fcl = s.fcl := by
  unfold State.changeMode State.deliverLevels; dsimp only; repeat' split
  all_goals simp [(State.reportChannels_sameButSent _).fcl]
@[simp] theorem State.changeMode_sgt (s : State) (m : Mode) : (s.changeMode m).sgt = s.sgt := by
  unfold State.changeMode State.deliverLevels; dsimp only; repeat' split
  all_goals simp [(State.reportChannels_sameButSent _).sgt]
@[simp] theorem State.changeMode_dci (s : State) (m : Mode) : (s.changeMode m).dci = s.dci := by
  unfold State.changeMode State.deliverLevels; dsimp only; repeat' split
  all_goals simp [(State.reportChannels_sameButSent _).dci]
@[simp] theorem State.changeMode_rtu (s : State) (m : Mode) : (s.changeMode m).rtu = s.rtu := by
  unfold State.changeMode State.deliverLevels; dsimp only; repeat' split
  all_goals simp [(State.reportChannels_sameButSent _).rtu]
@[simp] theorem State.changeMode_tlk (s : State) (m : Mode) : (s.changeMode m).tlk = s.tlk := by
  unfold State.changeMode State.deliverLevels; dsimp only; repeat' split
  all_goals simp [(State.reportChannels_sameButSent _).tlk]
@[simp] theorem State.changeMode_env (s : State) (m : Mode) : (s.changeMode m).env = s.env := by
  unfold State.changeMode State.deliverLevels; dsimp only; repeat' split
  all_goals simp [(State.reportChannels_sameButSent _).env]
@[simp] theorem State.changeMode_pending (s : State) (m : Mode) : (s.changeMode m).pending = s.pending := by
  unfold State.changeMode State.deliverLevels; dsimp only; repeat' split
  all_goals simp [(State.reportChannels_sameButSent _).pending]

/-- A change of mode changes the mode alone in the mode control. -/
@[simp] theorem State.changeMode_mcr (s : State) (m : Mode) : (s.changeMode m).mcr = { s.mcr with mode := m } := by
  unfold State.changeMode State.deliverLevels
  dsimp only
  repeat' split
  all_goals simp [(State.reportChannels_sameButSent _).mcr]

/-! ### Arrivals at the track link (R127, R129, R132, R133) -/

@[simp] theorem TrackLink.takeBack_state (t : TrackLink) : t.takeBack.state = t.state := rfl
@[simp] theorem TrackLink.takeBack_slot (t : TrackLink) : t.takeBack.slot = t.slot.or t.inFlight := rfl
@[simp] theorem TrackLink.takeBack_inFlight (t : TrackLink) : t.takeBack.inFlight = none := rfl
@[simp] theorem TrackLink.takeBack_slotStart (t : TrackLink) : t.takeBack.slotStart = none := rfl
@[simp] theorem TrackLink.takeBack_reception (t : TrackLink) : t.takeBack.reception = t.reception := rfl
@[simp] theorem TrackLink.follow_state (t : TrackLink) : t.follow.state = .receiving := rfl
@[simp] theorem TrackLink.follow_slot (t : TrackLink) : t.follow.slot = t.slot := rfl
@[simp] theorem TrackLink.follow_inFlight (t : TrackLink) : t.follow.inFlight = t.inFlight := rfl

/-- The start of an arrival changes the track link alone, but for a collision's flag and its frame. -/
theorem State.arrivalStart_cases (s : State) :
    (∃ t, s.arrivalStart = s.withTlk t ∧ t.state = .receiving ∧ t.reception.isSome = true) ∨
      (s.tlk.state = .transmitting ∧ s.tlk.startsWith s.env.clock = false ∧ ∃ r : Reception, r.lost = true ∧
        s.arrivalStart =
          (s.withTlk { s.tlk with collide := satInc s.tlk.collide, reception := some r }).setFlag .trackCollide) := by
  unfold State.arrivalStart
  dsimp only
  split
  · exact .inl ⟨_, rfl, rfl, rfl⟩
  · split <;> exact .inl ⟨_, rfl, by assumption, rfl⟩
  · split
    · exact .inl ⟨_, rfl, rfl, rfl⟩
    · rename_i h1 h2
      refine .inr ⟨h1, by simpa using h2, _, ?_, rfl⟩
      split <;> rfl

/-- It leaves every block alone but the ports, the track link and the event flags. -/
theorem State.arrivalStart_sameButSent (s : State) :
    (s.withTlk s.arrivalStart.tlk).sameButSent s.arrivalStart := by
  obtain ⟨t, h, -, -⟩ | ⟨-, -, r, -, h⟩ := s.arrivalStart_cases <;> rw [h]
  · rfl
  · rw [State.setFlag_tlk]; exact State.setFlag_sameButSent _ .trackCollide

/-! ### The TDU's own raises (R54, R60, R69) -/

/-- The mark after the speed is supervised says that v is unknown (R54). -/
@[simp] theorem State.superviseSpeed_tdu (s : State) :
    s.superviseSpeed.tdu = { s.tdu with marks := { s.tdu.marks with speedLost := s.tdu.speed.isNone } } := by
  unfold State.superviseSpeed State.withMarks
  split
  · rename_i h _; simp [h]
  · rename_i h _; simp [h]
  · have h : s.tdu.speed.isNone = s.tdu.marks.speedLost := by
      cases h1 : s.tdu.speed <;> cases h2 : s.tdu.marks.speedLost <;> simp_all
    rw [h]

/-- Supervising the speed changes the mark, the list and what sending changes. -/
theorem State.superviseSpeed_sameButSent (s : State) :
    ((s.withTdu s.superviseSpeed.tdu).withRsl s.superviseSpeed.rsl).sameButSent s.superviseSpeed := by
  unfold State.superviseSpeed State.withMarks
  split
  · simpa using (State.raise_sameButSent _ _ _ _).trans (State.setFlag_sameButSent _ _)
  · simpa using State.lift_sameButSent _ _ _
  · rfl

/-- The mark after the brake is judged says that a bound brake is not healthy (R60). -/
@[simp] theorem State.judgeBrake_tdu (s : State) :
    s.judgeBrake.tdu = { s.tdu with
      marks := { s.tdu.marks with brake := s.sgt.brakeSlot.any fun i => !s.brakeHealthy i } } := by
  unfold State.judgeBrake State.withMarks
  rcases s.sgt.brakeSlot.eq_none_or_eq_some with h | ⟨i, h⟩ <;> cases hm : s.tdu.marks.brake
  · simp only [h, Option.any_none, ← hm]; rw [if_neg (by simp [hm])]
  · simp [h]
  all_goals cases hh : s.brakeHealthy i <;> (simp [h, hh]; try simp [← hm])

/-- Judging the brake changes the mark, the list and what sending changes. -/
theorem State.judgeBrake_sameButSent (s : State) :
    ((s.withTdu s.judgeBrake.tdu).withRsl s.judgeBrake.rsl).sameButSent s.judgeBrake := by
  unfold State.judgeBrake State.withMarks
  dsimp only
  repeat' split
  all_goals first
    | rfl
    | simpa using (State.raise_sameButSent _ _ _ _).trans (State.setFlag_sameButSent _ _)
    | simpa using State.lift_sameButSent _ _ _

/-- The mark after the units are supervised says that no weight is available (R69). -/
@[simp] theorem State.superviseUnits_tdu (s : State) (w : Nat) :
    (s.superviseUnits w).tdu = { s.tdu with marks := { s.tdu.marks with unitsLost := decide (w = 0) } } := by
  unfold State.superviseUnits State.withMarks
  by_cases h : w = 0 <;> cases hm : s.tdu.marks.unitsLost <;> (simp [h]; try simp [← hm])

/-- Supervising the units changes the mark, the list and what sending changes. -/
theorem State.superviseUnits_sameButSent (s : State) (w : Nat) :
    ((s.withTdu (s.superviseUnits w).tdu).withRsl (s.superviseUnits w).rsl).sameButSent (s.superviseUnits w) := by
  unfold State.superviseUnits State.withMarks
  split
  · simpa using (State.raise_sameButSent _ _ _ _).trans (State.setFlag_sameButSent _ _)
  · simpa using State.lift_sameButSent _ _ _
  · rfl

end Sys2Proof.Machine
end

