-- ==== Sys2Proof/Laws/PerInstr.lean ====
section
/-! SUPPORT. Statements made for each command: the operand checks refuse a command only for a strap
reading that six inputs cannot give (R1). -/

namespace Sys2Proof.Laws.StrapsOnly

/-- A command is well formed, or it is POWER_ON with more than six bits of straps. -/
def Statement (i : Instr) : Prop := i.wellFormed = true ∨ ∃ n, 63 < n ∧ i = .powerOn n

theorem powerOn (straps : Nat) : Statement (.powerOn straps) := by
  by_cases h : straps < 64
  · exact .inl (decide_eq_true h)
  · exact .inr ⟨straps, by omega, rfl⟩

theorem idleMarkerArrival (p : Line) : Statement (.idleMarkerArrival p) := .inl rfl
theorem frameArrivalStart (p : Line) : Statement (.frameArrivalStart p) := .inl rfl
theorem frameArrivalEnd (p : Line) (bytes : List Byte) : Statement (.frameArrivalEnd p bytes) := .inl rfl
theorem frameHandling (p : Line) : Statement (.frameHandling p) := .inl rfl
theorem activityTimerExpiry (p : Line) : Statement (.activityTimerExpiry p) := .inl rfl
theorem idleTimerExpiry (p : Line) : Statement (.idleTimerExpiry p) := .inl rfl
theorem idleMarkerEnd (p : Line) : Statement (.idleMarkerEnd p) := .inl rfl
theorem transmissionEnd (p : Line) : Statement (.transmissionEnd p) := .inl rfl
theorem classifyFrame (p : Line) : Statement (.classifyFrame p) := .inl rfl
theorem ageTick : Statement .ageTick := .inl rfl
theorem scanTimerExpiry : Statement .scanTimerExpiry := .inl rfl
theorem scanArrivalEnd (scan : ScanArrival) : Statement (.scanArrivalEnd scan) := .inl rfl
theorem controlPeriod : Statement .controlPeriod := .inl rfl
theorem attemptTimerExpiry : Statement .attemptTimerExpiry := .inl rfl
theorem telegramArrivalStart : Statement .telegramArrivalStart := .inl rfl
theorem telegramArrivalEnd (bytes : List Byte) : Statement (.telegramArrivalEnd bytes) := .inl rfl
theorem requestTransmissionEnd : Statement .requestTransmissionEnd := .inl rfl
theorem soundStepBoundary (ch : Channel) (load : Bool) : Statement (.soundStepBoundary ch load) := .inl rfl
theorem directHornMinEnd : Statement .directHornMinEnd := .inl rfl
theorem directHornInterval (load : Bool) : Statement (.directHornInterval load) := .inl rfl
theorem startupCheckEnd (pass : Bool) : Statement (.startupCheckEnd pass) := .inl rfl
theorem readItem : Statement .readItem := .inl rfl
theorem writeItem : Statement .writeItem := .inl rfl
theorem loadEntry : Statement .loadEntry := .inl rfl
theorem readEntry : Statement .readEntry := .inl rfl
theorem commit : Statement .commit := .inl rfl
theorem readLoadSum : Statement .readLoadSum := .inl rfl
theorem readFlags : Statement .readFlags := .inl rfl
theorem setEnables : Statement .setEnables := .inl rfl
theorem readRestrictions : Statement .readRestrictions := .inl rfl
theorem readJunctions : Statement .readJunctions := .inl rfl
theorem readStops : Statement .readStops := .inl rfl
theorem readStep : Statement .readStep := .inl rfl
theorem holdSoft : Statement .holdSoft := .inl rfl
theorem holdHard : Statement .holdHard := .inl rfl
theorem release : Statement .release := .inl rfl
theorem stepEnter : Statement .stepEnter := .inl rfl
theorem stepOne : Statement .stepOne := .inl rfl
theorem stepExit : Statement .stepExit := .inl rfl
theorem enterService : Statement .enterService := .inl rfl
theorem restart : Statement .restart := .inl rfl
theorem setRoute : Statement .setRoute := .inl rfl
theorem unknownRequest : Statement .unknownRequest := .inl rfl

end Sys2Proof.Laws.StrapsOnly
end

