-- ==== Sys2Proof/Tests/Slice0.lean ====
section
/-! SUPPORT. Tests: the operand check, values that the spec works out, and for every statement with
hypotheses a state and operands that meet them, at the boundaries of its clauses. -/

namespace Sys2Proof.Tests

open Sys2Proof Sys2Proof.Machine

/-! ### Small states -/

/-- Node 5 in a mode, else as after power-on. -/
def inMode (m : Mode) : State := State.reset.withMcr ⟨m, some 5, 0, 0⟩

/-- Node 5 in a mode, moving at a speed. -/
def moving (m : Mode) (v : Nat) : State := (inMode m).withTdu { speed := some ⟨v, v⟩ }

/-- The held key on. -/
def keyed (s : State) : State := s.withDci { heldKey := true }

/-- A request of node 7 at the front of the queue. -/
def asking (s : State) (code : Byte) (payload : List Byte) : State := s.withFcl { requests := [⟨7, code, 0x33, payload⟩] }

/-- The request of `asking`. -/
def request (code : Byte) (payload : List Byte) : Request := ⟨7, code, 0x33, payload⟩

/-- The requester's side of `asking`, for a request of a row. -/
theorem asking_asked (s : State) (code : Byte) (payload : List Byte) (row : Row)
    (h1 : (request code payload).row = row) (h2 : s.mcr.mode ≠ .starting) (h3 : s.mcr.mode ≠ .failed) :
    (asking s code payload).asked (request code payload) row := ⟨rfl, h1, h2, h3⟩

/-- A port that is UP. -/
def upPort : LinePort := { link := .up }

/-- Port A's frame handed to the classifier, windows as given. -/
def classifying (f : Frame) (w : List Window) : State :=
  ((inMode .service).withPort .a { upPort with handed := [f] }).withFcl { windows := w }

/-- A PROCESS frame of node 9. -/
def processFrame (id : Half) (payload : List Byte) : Frame := Frame.make 63 9 .process id 0 payload

/-! ### The operand check -/

theorem test_straps_above_63_refused : (Instr.powerOn 64).wellFormed = false := by decide
theorem test_straps_63_well_formed : (Instr.powerOn 63).wellFormed = true := by decide
theorem test_no_word_spells_a_command : decodeTableWord 16 0 = none := rfl

/-! ### Values the spec works out -/

/-- A frame accepted under R7 with its check as R204 gives it. -/
theorem test_frame_check : frameCheck [0x3F, 5, 0, 1, 0, 7, 0] = 0xFFB3 := by decide
/-- CLEAR of junction 0A12h and its check byte (R209). -/
theorem test_clear_telegram : acceptTelegram [0x02, 0x0A, 0x12, 0x1A] = some (.clear 0x0A12) := by decide
theorem test_bad_telegram : acceptTelegram [0x02, 0x0A, 0x12, 0x1B] = none := by decide
theorem test_handle_top : (acceptScan [0, 0, 0, 1, 0x03, 0xFF, 0x03]).map (·.2) = some 1000 := by decide
theorem test_handle_bottom : (acceptScan [0, 0, 0, 1, 0x04, 0x00, 0x05]).map (·.2) = some (-1000) := by decide
/-- The power limb of the worked period: 450 at 200, 320 at 400, 374 at 317 (section 4.12). -/
theorem test_limb : evalLimb [⟨0, 450⟩, ⟨200, 450⟩, ⟨400, 320⟩, ⟨600, 240⟩, ⟨800, 180⟩, ⟨1000, 140⟩, ⟨1200, 120⟩,
    ⟨1500, 100⟩] 317 = 374 := by decide
/-- The worked period's jerk limit: from 120 towards -300 by 30 (section 4.12). -/
theorem test_jerk : limitJerk {} false 120 (-300) = 90 := by decide
/-- The worked period's odometer: 5 x 317 and a remainder of 4 make 176 mm and a remainder of 5 (section 4.12). -/
theorem test_odometer : odometerStep 4 317 = (176, 5) := by decide

/-- The state after a command. -/
def after (i : Instr) (s : State) : State :=
  match exec i s with
  | .next t => t
  | .fault _ => s
  | .refused _ => s

/-- The answer that waits at port A for node 7. -/
def answer (i : Instr) (s : State) : List (List Byte) :=
  ((after i (s.withPort .a upPort)).port .a).toSend.map (·.frame.payload)

/-- The worked period's limbs (section 4.12). -/
def workedLimb : List Breakpoint :=
  [⟨0, 450⟩, ⟨200, 450⟩, ⟨400, 320⟩, ⟨600, 240⟩, ⟨800, 180⟩, ⟨1000, 140⟩, ⟨1200, 120⟩, ⟨1500, 100⟩]

/-- A slot that holds a fresh value. -/
def freshSlot (value : List Byte) : Slot := { value := value, state := .fresh }

/-- The state before the worked period, but for the places of the slots (section 4.12). -/
def workedPeriod : State :=
  let s := (inMode .service).withTdu
    { curveActive := ⟨workedLimb, workedLimb, true⟩
      allocActive :=
        ⟨[⟨true, 4, 400, some 0, some 3⟩, ⟨true, 4, 400, some 1, some 4⟩, ⟨true, 2, 200, some 2, some 5⟩, {}], true⟩
      slips := [{}, ⟨75, 2⟩, {}, {}]
      eCmd := 120, acc9 := 4, held := .fwd, prevDesk := .fwd, lastTravel := some .fwd
      inputs := ⟨600, true, false, true, false⟩ }
  (s.withRsl [⟨.junction, 731, .cap 250, 0⟩]).withSgt
    { slots := [freshSlot (nat2 315), freshSlot (nat2 317), freshSlot (nat2 313), freshSlot (0 :: nat2 500),
        freshSlot (0 :: nat2 500), freshSlot (0 :: nat2 250)] }

/-- The first worked period: the command and what every unit is allocated (section 4.12). -/
theorem test_worked_period_command :
    (after .controlPeriod workedPeriod).tdu.record.map (fun r => [r.target1, r.target2, r.cmd]) = some [224, -300, 90] := by
  decide
theorem test_worked_period_allocation :
    (after .controlPeriod workedPeriod).tdu.record.map (fun r => r.units.map (·.allocated)) = some [36, 27, 18, 0] := by decide
theorem test_worked_period_cut_off :
    (after .controlPeriod workedPeriod).tdu.record.map (fun r => (r.deficit, r.mech)) = some (90, 0) := by decide
theorem test_worked_period_odometer : (after .controlPeriod workedPeriod).tdu.odometer = 176 := by decide
theorem test_step_one_keeps_odometer :
    (after .stepOne (asking (keyed (workedPeriod.withMcr ⟨.step, some 5, 0, 0⟩)) 13 [4])).tdu.odometer = 0 := by decide

/-! ### One effect of each command, from its rule -/

theorem test_power_on_starts : (after (.powerOn 62) State.reset).mcr = ⟨.starting, some 62, 250, 0⟩ := by decide
theorem test_power_on_63_fails : (after (.powerOn 63) State.reset).mcr.mode = .failed := by decide
theorem test_marker_brings_up : ((after (.idleMarkerArrival .b) State.reset).port .b).link = .up := by decide
theorem test_frame_start_restarts : ((after (.frameArrivalStart .a) State.reset).port .a).activityLeft = 20 := by decide
theorem test_third_frame_overruns :
    ((after (.frameArrivalEnd .a [3]) (State.reset.withPort .a { ingress := [[1], [2]] })).port .a).counters.rxOverrun = 1 := by
  decide
theorem test_handling_forwards :
    ((after (.frameHandling .a) (((inMode .service).withPort .a { ingress := [(processFrame 1 []).encode] }).withPort .b
      upPort)).port .b).toSend = [⟨processFrame 1 [], .forward⟩] := by decide
theorem test_activity_expiry_downs :
    ((after (.activityTimerExpiry .a) ((inMode .service).withPort .a upPort)).port .a).link = .down := by decide
theorem test_idle_expiry_sends_marker : ((after (.idleTimerExpiry .a) State.reset).port .a).marker = true := by decide
theorem test_marker_end : ((after (.idleMarkerEnd .a) (State.reset.withPort .a { marker := true })).port .a).marker = false := by
  decide
theorem test_transmission_end_counts :
    ((after (.transmissionEnd .a) (State.reset.withPort .a
      { link := .up, inFlight := some ⟨processFrame 1 [], .forward⟩ })).port .a).counters.forwarded = 1 := by decide
theorem test_classify_stores :
    ((after (.classifyFrame .a) (classifying (processFrame 0x402 [1, 2]) [⟨true, 0x400, 0xFFE0, .consume, 0, 30⟩])).sgt.slot 2).value =
      [1, 2] := by decide
theorem test_age_tick_marks_stale :
    (after .ageTick ((inMode .service).withSgt { slots := [⟨[1], none, .fresh, 29, 30, 1⟩] })).sgt.lastStale = some 0 := by
  decide
theorem test_scan_opens_exchange : (after .scanTimerExpiry (inMode .service)).dci.exchangeOpen = true := by decide
theorem test_fifth_good_scan_recovers :
    (after (.scanArrivalEnd ⟨[0, 0, 0, 1, 0, 0, 1], false⟩) ((inMode .service).withDci { exchangeOpen := true, goodRun := 4 })).dci.state =
      .ok := by decide
theorem test_attempt_expiry_repeats :
    (after .attemptTimerExpiry ((inMode .service).withRtu
      { queue := [⟨9, none, some .l, .table, .requesting, 1, some 42, 0, 0, 0, 0⟩], attempt := some 0, seq := 42 })).rtu.seq =
      43 := by decide
theorem test_arrival_start_receives : (after .telegramArrivalStart (inMode .service)).tlk.state = .receiving := by decide
theorem test_eighth_bad_telegram_faults :
    (after (.telegramArrivalEnd [1, 1]) ((inMode .service).withTlk
      { state := .receiving, reception := some ⟨false, false, 1⟩, run := 7 })).tlk.condition = .fault := by decide
theorem test_transmission_starts_timer :
    (after .requestTransmissionEnd (((inMode .service).withRtu
      { queue := [⟨9, none, some .l, .table, .requesting, 0, some 42, 0, 0, 0, 0⟩] }).withTlk
      { state := .transmitting, inFlight := some ⟨0, 9, .l, 42, 1⟩ })).rtu.attempt = some 300 := by decide
theorem test_sound_step_advances :
    (after (.soundStepBoundary .chime true) ((inMode .service).withSsq
      { chime := { playing := some ⟨⟨2, .stops, 0⟩, false, 1, 3⟩ } })).ssq.chime.playing =
      some ⟨⟨2, .stops, 0⟩, false, 1, 4⟩ := by decide
theorem test_direct_horn_ends :
    (after .directHornMinEnd ((inMode .service).withSsq { direct := some ⟨0, false, 0, 50⟩ })).ssq.direct = none := by decide
theorem test_direct_horn_open :
    (after (.directHornInterval false) ((inMode .service).withSsq { direct := some ⟨0, true, 300, 0⟩ })).efn.isSet
      .soundOpenHorn = true := by decide
theorem test_check_without_banks_configures : (after (.startupCheckEnd true) (inMode .starting)).mcr.mode = .configure := by decide
theorem test_read_mode_item : answer .readItem (asking (inMode .configure) 1 [9, 0]) = [[0, 2, 0xFF, 0xFF]] := by decide
theorem test_write_clamps_jerk :
    answer .writeItem (asking (inMode .configure) 2 [3, 5, 0, 0, 0, 70]) = [[1, 0, 0, 0, 100]] := by decide
theorem test_load_active_is_live : answer .loadEntry (asking (inMode .configure) 3 [1, 0, 0, 3, 0, 1, 0, 1]) = [[6]] := by decide
theorem test_read_entry : answer .readEntry (asking (inMode .configure) 4 [1, 1, 1, 7]) = [[0, 1, 7, 0, 0, 0, 0, 0]] := by decide
theorem test_commit_invalid : answer .commit (asking (inMode .configure) 5 [1]) = [[4]] := by decide
theorem test_load_sum_clears :
    (after .readLoadSum (asking ((inMode .configure).withMcr ⟨.configure, some 5, 0, 99⟩) 6 [])).mcr.loadSum = 0 := by decide
theorem test_read_flags_clears :
    (after .readFlags (asking ((inMode .configure).withEfn { flags := 0x10001 }) 7 [0])).efn.flags = 0x10000 := by decide
theorem test_set_enables :
    (after .setEnables (asking (inMode .configure) 8 [1, 0x12, 0x34])).efn.enables = 0x12340000 := by decide
theorem test_read_restrictions :
    answer .readRestrictions (asking (inMode .configure) 9 [0]) =
      [[0, 1, 0, 1, 9, 0, 0, 1, 0xFF, 0xFF, 0, 0, 0, 0, 0xFF]] := by decide
theorem test_read_junctions_empty : answer .readJunctions (asking (inMode .configure) 10 [0]) = [[0, 0, 0, 0, 0, 0xFF, 0xFF]] := by decide
theorem test_read_stops_empty : answer .readStops (asking (inMode .configure) 11 [0]) = [[0, 0, 0, 0, 0, 0]] := by decide
theorem test_read_step_5_out_of_range : answer .readStep (asking (inMode .configure) 12 [5]) = [[5]] := by decide
theorem test_hold_soft_pends : (after .holdSoft (asking (keyed (moving .service 4)) 13 [0])).mcr.mode = .holdPending := by decide
theorem test_hold_hard_in_motion : answer .holdHard (asking (keyed (moving .service 4)) 13 [1]) = [[3]] := by decide
theorem test_release : (after .release (asking (keyed (inMode .hold)) 13 [2])).mcr.mode = .service := by decide
theorem test_step_enter : (after .stepEnter (asking (keyed (inMode .hold)) 13 [3])).mcr.mode = .step := by decide
theorem test_step_exit : (after .stepExit (asking (keyed (inMode .step)) 13 [5])).mcr.mode = .hold := by decide
theorem test_enter_service_invalid : answer .enterService (asking (keyed (inMode .configure)) 13 [6]) = [[4]] := by decide
theorem test_restart : (after .restart (asking (keyed (inMode .failed)) 13 [7])).mcr.mode = .starting := by decide
theorem test_set_route_clamps : (after .setRoute (asking (inMode .configure) 14 [3, 232])).rtu.routeNumber = 999 := by decide
theorem test_unknown_request : answer .unknownRequest (asking (inMode .configure) 99 []) = [[4]] := by decide

/-! ### Witnesses: the machine, the ports -/

theorem witness_StepRunsFrontCommand : (State.reset.withPending [.ageTick]).pending = .ageTick :: [] := rfl

theorem witness_IdleStep_attempt_runs : (inMode .holdPending).pending = [] ∧ (inMode .holdPending).mcr.mode = .holdPending := by
  decide
theorem witness_IdleStep_attempt_frozen :
    (inMode .hold).pending = [] ∧ (inMode .hold).mcr.mode ≠ .service ∧ (inMode .hold).mcr.mode ≠ .holdPending := by decide

theorem witness_PowerOnSetsStart_address : (1 ≤ 1 ∧ 1 ≤ 62) ∧ (1 ≤ 62 ∧ 62 ≤ 62) := by decide
theorem witness_PowerOnSetsStart_none : (0 = 0 ∨ 0 = 63) ∧ (63 = 0 ∨ 63 = 63) := by decide

/-- A frame at port A, and a port B with `n` forwarded entries waiting. -/
def handling (bytes : List Byte) (n : Nat) : State :=
  ((inMode .service).withPort .a { ingress := [bytes] }).withPort .b
    { upPort with egress := List.replicate n ⟨processFrame 1 [], .forward⟩ }

/-- A MANAGE frame of node 9. -/
def manageFrame (dest : Byte) : Frame := Frame.make dest 9 .manage 0x0901 0 [0]

theorem witness_FramesAreForwarded_bad :
    ((handling [1, 2] 0).port .a).ingress = [1, 2] :: [] ∧ acceptFrame [1, 2] = none := by decide
/-- A frame for another node, for the part, and for all; the last place of port B's queue is free. -/
theorem witness_FramesAreForwarded_good : ∀ dest ∈ ([7, 5, 63] : List Byte),
    ((handling (manageFrame dest).encode 7).port .a).ingress = (manageFrame dest).encode :: [] ∧
      acceptFrame (manageFrame dest).encode = some (manageFrame dest) ∧
      (handling (manageFrame dest).encode 7).mcr.address = some 5 ∧ (manageFrame dest).src ≠ 5 ∧
      ((handling (manageFrame dest).encode 7).port (otherPort .a)).hasRoom := by decide

theorem witness_LoopTestDropsOwnFrames_own :
    let f := Frame.make 63 5 .process 1 0 []
    ((handling f.encode 0).port .a).ingress = f.encode :: [] ∧ acceptFrame f.encode = some f ∧
      (handling f.encode 0).mcr.address = some f.src := by decide
theorem witness_LoopTestDropsOwnFrames_other :
    let f := Frame.make 63 6 .process 1 0 []
    ((handling f.encode 0).port .a).ingress = f.encode :: [] ∧ acceptFrame f.encode = some f ∧
      (handling f.encode 0).mcr.address ≠ some f.src := by decide
theorem witness_LoopTestDropsOwnFrames_unaddressed :
    let f := Frame.make 63 6 .process 1 0 []
    let s := State.reset.withPort .a { ingress := [f.encode] }
    (s.port .a).ingress = f.encode :: [] ∧ acceptFrame f.encode = some f ∧ s.mcr.address ≠ some f.src := by decide

/-- An own entry of a signal id. -/
def ownEntry (id : Half) : Entry := ⟨Frame.make 63 5 .process id 0 [], .own⟩

/-- A forwarded entry. -/
def fwdEntry : Entry := ⟨processFrame 1 [], .forward⟩

theorem witness_EgressQueues_forward_down : ({} : LinePort).link = .down := rfl
theorem witness_EgressQueues_forward_room : ({ upPort with egress := List.replicate 7 fwdEntry } : LinePort).hasRoom := by decide
theorem witness_EgressQueues_forward_full :
    let x : LinePort := { upPort with egress := List.replicate 8 fwdEntry }
    x.link = .up ∧ 8 ≤ x.egress.length := by decide
theorem witness_EgressQueues_own_replaces :
    let x : LinePort := { upPort with egress := [fwdEntry, ownEntry 7, fwdEntry] }
    x.link = .up ∧ x.egress = [fwdEntry] ++ ownEntry 7 :: [fwdEntry] ∧
      (ownEntry 7).replacedBy (Frame.make 63 5 .process 7 1 [1]) = true ∧
      ∀ y ∈ [fwdEntry], y.replacedBy (Frame.make 63 5 .process 7 1 [1]) = false := by decide
theorem witness_EgressQueues_own_room :
    let x : LinePort := { upPort with egress := List.replicate 7 (ownEntry 7) }
    x.link = .up ∧ (∀ y ∈ x.egress, y.replacedBy (Frame.make 63 5 .process 8 1 []) = false) ∧ x.egress.length < 8 := by decide
theorem witness_EgressQueues_own_displaces :
    let x : LinePort := { upPort with egress := List.replicate 7 (ownEntry 7) ++ [fwdEntry] }
    x.link = .up ∧ (∀ y ∈ x.egress, y.replacedBy (Frame.make 63 5 .process 8 1 []) = false) ∧ 8 ≤ x.egress.length ∧
      x.egress = List.replicate 7 (ownEntry 7) ++ fwdEntry :: [] ∧ fwdEntry.origin = .forward ∧
      ∀ y ∈ List.replicate 7 (ownEntry 7), y.origin = .own := by decide
theorem witness_EgressQueues_own_dropped :
    let x : LinePort := { upPort with egress := List.replicate 8 (ownEntry 7) }
    x.link = .up ∧ (∀ y ∈ x.egress, y.replacedBy (Frame.make 63 5 .process 8 1 []) = false) ∧ 8 ≤ x.egress.length ∧
      ∀ y ∈ x.egress, y.origin = .own := by decide
theorem witness_EgressQueues_route_nowhere :
    ((0 : Byte) = 0 ∨ (0 : Byte) = 5) ∧ (0 : Byte) ≠ 63 ∧ ((5 : Byte) = 0 ∨ (5 : Byte) = 5) ∧ (5 : Byte) ≠ 63 := by decide
/-- Heard at A alone, at B alone, at both, at neither. -/
theorem witness_EgressQueues_route_seen :
    let l : LineBlock := { a := { seen := [1, 3] }, b := { seen := [62, 3] } }
    (1 ∈ l.a.seen ∧ 1 ∉ l.b.seen) ∧ (62 ∉ l.a.seen ∧ 62 ∈ l.b.seen) ∧ (3 ∈ l.a.seen ↔ 3 ∈ l.b.seen) ∧
      (4 ∈ l.a.seen ↔ 4 ∈ l.b.seen) ∧ ∀ d ∈ ([1, 62, 3, 4] : List Byte), d ≠ 63 ∧ d ≠ 0 ∧ d ≠ 5 := by decide

theorem witness_ActivityExpiryFlushes_down : (State.reset.port .a).link = .down := rfl
theorem witness_ActivityExpiryFlushes_up : ((State.reset.withPort .a upPort).port .a).link = .up := rfl

theorem witness_TransmissionsFollow_idle : (State.reset.port .a).idleLeft.isSome = true := rfl
theorem witness_TransmissionsFollow_marker :
    let s := State.reset.withPort .a { upPort with egress := [fwdEntry, ownEntry 1], marker := true }
    (s.port .a).link = .up ∧ (s.port .a).inFlight = none ∧ (s.port .a).egress = fwdEntry :: [ownEntry 1] := by decide
theorem witness_TransmissionsFollow_last :
    let s := State.reset.withPort .a { upPort with inFlight := some fwdEntry }
    (s.port .a).inFlight = some fwdEntry ∧ (s.port .a).egress = [] := by decide
theorem witness_TransmissionsFollow_next :
    let s := State.reset.withPort .a { upPort with inFlight := some (ownEntry 1), egress := [fwdEntry] }
    (s.port .a).inFlight = some (ownEntry 1) ∧ (s.port .a).egress = fwdEntry :: [] ∧ (s.port .a).link = .up ∧
      (s.port .a).marker = false := by decide

theorem witness_FrameLayoutRoundTrips_written : (manageFrame 62).WellFormed := by decide
theorem witness_FrameLayoutRoundTrips_longest : (Frame.make 1 62 .response 0xFFFF 255 (List.replicate 32 1)).WellFormed := by
  decide
theorem witness_FrameLayoutRoundTrips_read : acceptFrame (manageFrame 62).encode = some (manageFrame 62) := by decide

/-- A part with no address; another port that is DOWN; one that is UP and full. -/
theorem witness_FramesAreForwarded_ports :
    let f := manageFrame 7
    let silent := State.reset.withPort .a { ingress := [f.encode] }
    let cut := (inMode .service).withPort .a { ingress := [f.encode] }
    let full := handling f.encode 8
    acceptFrame f.encode = some f ∧ (silent.port .a).ingress = f.encode :: [] ∧ silent.mcr.address = none ∧
      (cut.port .a).ingress = f.encode :: [] ∧ (cut.port (otherPort .a)).link = .down ∧
      (full.port .a).ingress = f.encode :: [] ∧ (full.port (otherPort .a)).link = .up ∧
      8 ≤ (full.port (otherPort .a)).egress.length := by decide

/-! ### Witnesses: classifier, signal table, desk -/

/-- A window that stores ids 0400h to 041Fh from a slot base on. -/
def window (action : WindowAction) (base : Nat) : Window := ⟨true, 0x400, 0xFFE0, action, base, 30⟩

/-- The hypotheses that the clauses of `WindowsDecideFrames` share, for a window. -/
def windowShared (f : Frame) (w : Window) : Prop :=
  let s := classifying f [w]
  (s.port .a).handed = f :: [] ∧ f.kind = .process ∧ s.mcr.mode ≠ .standby ∧ s.mcr.mode ≠ .failed ∧
    s.fcl.windows.find? (fun w => w.enabled && (f.id &&& w.idMask == w.idBase &&& w.idMask)) = some w

theorem witness_WindowsDecideFrames_ignore :
    windowShared (processFrame 0x400 []) (window .ignore 0) ∧ (window .ignore 0).action = .ignore :=
  ⟨⟨rfl, rfl, by decide, by decide, by decide⟩, rfl⟩
/-- The first slot index past the table. -/
theorem witness_WindowsDecideFrames_range :
    windowShared (processFrame 0x401 []) (window .consume 127) ∧ (window .consume 127).action = .consume ∧
      128 ≤ (window .consume 127).slotBase + ((0x401 : Half) &&& ~~~ (window .consume 127).idMask).toNat :=
  ⟨⟨rfl, rfl, by decide, by decide, by decide⟩, rfl, by decide⟩
/-- The last slot of the table. -/
theorem witness_WindowsDecideFrames_consume :
    windowShared (processFrame 0x400 [1]) (window .consume 127) ∧ (window .consume 127).action = .consume ∧
      127 = (window .consume 127).slotBase + ((0x400 : Half) &&& ~~~ (window .consume 127).idMask).toNat ∧
      (classifying (processFrame 0x400 [1]) [window .consume 127]).requiredLength 127 ≤ min 8 1 :=
  ⟨⟨rfl, rfl, by decide, by decide, by decide⟩, rfl, by decide, by decide⟩
theorem witness_WindowsDecideFrames_no_hit :
    let f := processFrame 0x420 []
    let s := classifying f [window .consume 0]
    (s.port .a).handed = f :: [] ∧ f.kind = .process ∧ s.mcr.mode ≠ .standby ∧ s.mcr.mode ≠ .failed ∧
      s.fcl.windows.find? (fun w => w.enabled && (f.id &&& w.idMask == w.idBase &&& w.idMask)) = none :=
  ⟨rfl, rfl, by decide, by decide, by decide⟩

theorem witness_RequestsQueueUp_room :
    let s := (classifying (manageFrame 5) []).withFcl { requests := List.replicate 3 (request 1 [0, 0]) }
    (s.port .a).handed = manageFrame 5 :: [] ∧ (manageFrame 5).kind = .manage ∧ s.fcl.requests.length < 4 := by decide
theorem witness_RequestsQueueUp_full :
    let s := (classifying (manageFrame 5) []).withFcl { requests := List.replicate 4 (request 1 [0, 0]) }
    (s.port .a).handed = manageFrame 5 :: [] ∧ (manageFrame 5).kind = .manage ∧ 4 ≤ s.fcl.requests.length := by decide
theorem witness_RequestsQueueUp_other :
    let f := Frame.make 5 9 .notify 0 0 []
    ((classifying f []).port .a).handed = f :: [] ∧ (f.kind = .response ∨ f.kind = .notify) := by decide

theorem witness_AgeTick_step : (inMode .step).mcr.mode = .step := rfl
/-- A NEVER slot, a STALE one, and FRESH ones one tick short of their limit and at it. -/
theorem witness_AgeTick_slots :
    let s := (inMode .service).withSgt
      { slots := [{}, ⟨[], none, .stale, 255, 30, 0⟩, ⟨[], none, .fresh, 28, 30, 0⟩, ⟨[], none, .fresh, 29, 30, 0⟩] }
    s.mcr.mode ≠ .step ∧ s.sgt.slots[0]? = some ({} : Slot) ∧ s.sgt.slots[1]? = some ⟨[], none, .stale, 255, 30, 0⟩ ∧
      s.sgt.slots[2]? = some ⟨[], none, .fresh, 28, 30, 0⟩ ∧ s.sgt.slots[3]? = some ⟨[], none, .fresh, 29, 30, 0⟩ ∧
      ∃ x ∈ s.sgt.slots, x.state = .fresh ∧ x.limit ≤ min 255 (x.age + 1) := by decide
theorem witness_AgeTick_none_stale :
    let s := (inMode .service).withSgt { slots := [⟨[], none, .fresh, 28, 30, 0⟩] }
    s.mcr.mode ≠ .step ∧ ∀ x ∈ s.sgt.slots, x.state = .fresh → min 255 (x.age + 1) < x.limit := by decide

theorem witness_LayoutsAreReadAndWritten : (255 < 256) ∧
    (PointDir.r = .l ∧ (2 : Byte) = 0 ∨ PointDir.r = .s ∧ (2 : Byte) = 1 ∨ PointDir.r = .r ∧ (2 : Byte) = 2) ∧
    (ConfirmState.refused = .setLocked ∧ (2 : Byte) = 0 ∨ ConfirmState.refused = .setMoving ∧ (2 : Byte) = 1 ∨
      ConfirmState.refused = .refused ∧ (2 : Byte) = 2) := by decide
/-- REQUEST of tram 2207 for junction 0703h, direction L, sequence 42, route 12, by R209. -/
theorem test_request_bytes :
    (⟨2207, 0x0703, .l, 42, 12⟩ : PointRequest).encode = [0x04, 0x08, 0x9F, 0x07, 0x03, 0x00, 0x2A, 0x00, 0x0C, 0xB1] := by
  decide

/-- An open exchange in a desk state. -/
def scanning (m : Mode) (d : DeskState) (bad good : Nat) : State :=
  (inMode m).withDci { exchangeOpen := true, state := d, badRun := bad, goodRun := good, heldKey := true }

/-- A scan late for its exchange, with the next one open, and one with none open. -/
theorem witness_ScansAreJudged_discarded :
    ((scanning .service .ok 2 0).dci.exchangeOpen = true ∧ (true = true ∨ (scanning .service .ok 2 0).dci.exchangeOpen = false)) ∧
      (false = true ∨ (inMode .service).dci.exchangeOpen = false) := by decide
/-- An expiry closes the exchange as missing, and the scan that answers it is then counted nowhere, while the next
exchange stays open for its own scan (R36, R37). -/
theorem test_late_scan_is_discarded :
    let s := after .scanTimerExpiry (scanning .service .ok 0 0)
    let t := after (.scanArrivalEnd ⟨[], true⟩) s
    s.dci.badScans = 1 ∧ s.dci.badRun = 1 ∧ t.dci.badScans = 1 ∧ t.dci.badRun = 1 ∧ t.dci.exchangeOpen = true ∧
      (after (.scanArrivalEnd ⟨[], false⟩) t).dci.badRun = 2 := by decide
theorem witness_ScansAreJudged_bad_second :
    let s := scanning .service .ok 1 0
    s.dci.exchangeOpen = true ∧ acceptScan [] = none ∧ s.dci.state = .ok ∧ s.dci.badRun < 2 := by decide
theorem witness_ScansAreJudged_bad_third :
    let s := scanning .service .ok 2 0
    s.dci.exchangeOpen = true ∧ acceptScan [0, 0, 0, 0, 0, 0, 1] = none ∧ s.dci.state = .ok ∧ s.dci.badRun = 2 ∧
      s.dci.heldKey = true := by decide
theorem witness_ScansAreJudged_bad_lost :
    let s := scanning .service .lost 0 4
    s.dci.exchangeOpen = true ∧ acceptScan [] = none ∧ s.dci.state = .lost := by decide
theorem witness_ScansAreJudged_good :
    let s := scanning .service .ok 2 0
    s.dci.exchangeOpen = true ∧ acceptScan [0, 0, 0, 1, 0x03, 0xFF, 0x03] = some (1, 1000) ∧ s.mcr.mode ≠ .standby ∧
      s.dci.state = .ok := by decide
theorem witness_ScansAreJudged_good_fourth :
    let s := scanning .service .lost 0 3
    s.dci.exchangeOpen = true ∧ acceptScan [0, 0, 0, 1, 0x04, 0x00, 0x05] = some (1, -1000) ∧ s.mcr.mode ≠ .standby ∧
      s.dci.state = .lost ∧ s.dci.goodRun < 4 := by decide
theorem witness_ScansAreJudged_good_fifth :
    let s := scanning .service .lost 0 4
    s.dci.exchangeOpen = true ∧ acceptScan [0, 0, 0, 1, 0x04, 0x00, 0x05] = some (1, -1000) ∧ s.mcr.mode ≠ .standby ∧
      s.dci.state = .lost ∧ s.dci.goodRun = 4 := by decide

theorem witness_ScanExpiry_test :
    let s := (inMode .service).withDci { state := .ok, image := 0x8001 }
    s.dci.exchangeOpen = false ∧ s.dci.state = .ok ∧ s.dci.image.getLsbD 15 = true := by decide
theorem witness_ScanExpiry_standby :
    let s := (inMode .standby).withDci { state := .ok, image := 0x7FFF }
    s.dci.exchangeOpen = false ∧ s.dci.state = .ok ∧ s.dci.image.getLsbD 15 = false ∧
      (s.mcr.mode = .standby ∨ s.mcr.mode = .failed) := by decide
theorem witness_ScanExpiry_lost :
    let s := inMode .failed
    s.dci.exchangeOpen = false ∧ s.dci.state = .lost ∧ (s.mcr.mode = .standby ∨ s.mcr.mode = .failed) := by decide

theorem witness_WindowsDecideFrames_discarded : ∀ m ∈ [Mode.standby, .failed],
    let s := (classifying (processFrame 0x400 []) []).withMcr ⟨m, some 5, 0, 0⟩
    (s.port .a).handed = processFrame 0x400 [] :: [] ∧ (processFrame 0x400 []).kind = .process ∧
      (s.mcr.mode = .standby ∨ s.mcr.mode = .failed) := by decide
/-- The brake slot, FRESH or STALE, updated with no byte, and with nine bytes. -/
theorem witness_WindowsDecideFrames_lengths : ∀ x ∈ [SlotState.fresh, .stale], ∀ payload ∈ [[], List.replicate 9 0],
    let f := processFrame 0x400 payload
    let s := (classifying f [window .consume 0]).withSgt { slots := [⟨[1], none, x, 0, 30, 1⟩], brakeSlot := some 0 }
    (s.port .a).handed = f :: [] ∧ f.kind = .process ∧ s.mcr.mode ≠ .standby ∧ s.mcr.mode ≠ .failed ∧
      s.fcl.windows.find? (fun w => w.enabled && (f.id &&& w.idMask == w.idBase &&& w.idMask)) =
        some (window .consume 0) ∧ 0 = 0 + (f.id &&& ~~~ (window .consume 0).idMask).toNat ∧ (s.sgt.slot 0).state = x ∧
      (min 8 f.payload.length < s.requiredLength 0 ∨ 8 < f.payload.length) := by decide

/-- Two slots at their limit, the higher of which is the last. -/
theorem witness_AgeTick_highest :
    let s := (inMode .service).withSgt { slots := [freshSlot [], ⟨[], none, .fresh, 29, 30, 0⟩, ⟨[], none, .fresh, 29, 30, 0⟩] }
    s.mcr.mode ≠ .step ∧ s.sgt.slots[2]? = some ⟨[], none, .fresh, 29, 30, 0⟩ ∧
      ∀ (j : Nat) (y : Slot), 2 < j → s.sgt.slots[j]? = some y → y.state = .fresh → min 255 (y.age + 1) < y.limit := by
  refine ⟨by decide, rfl, fun j y hj h => ?_⟩
  obtain ⟨hl, -⟩ := List.getElem?_eq_some_iff.mp h
  exact absurd hl (Nat.not_lt.mpr hj)

theorem witness_ScansAreJudged_bad_third_key_off :
    let s := (inMode .service).withDci { exchangeOpen := true, state := .ok, badRun := 2 }
    s.dci.exchangeOpen = true ∧ acceptScan [] = none ∧ s.dci.state = .ok ∧ s.dci.badRun = 2 ∧ s.mcr.mode ≠ .holdPending := by
  decide
/-- What was last delivered agrees with the image and the handle that stand, and the key stays on. -/
theorem witness_ScansAreJudged_delivers :
    let s := scanning .service .ok 0 0
    s.dci.exchangeOpen = true ∧ acceptScan [0, 0, 0, 1, 0x03, 0xFF, 0x03] = some (1, 1000) ∧ s.dci.state = .ok ∧
      s.mcr.mode.active = true ∧ (1 : Word).getLsbD 0 = true ∧
      s.tdu.inputs = ⟨s.dci.handle, s.dci.image.getLsbD 1, s.dci.image.getLsbD 2, s.dci.image.getLsbD 3,
        s.dci.image.getLsbD 4⟩ ∧ s.ssq.hornLevel = s.dci.image.getLsbD 5 := by decide
/-- The key turned off, in motion and in the two modes that do not test it. -/
theorem witness_ScansAreJudged_key_off :
    acceptScan [0, 0, 0, 0, 0, 0, 0] = some (0, 0) ∧ ¬ (moving .service 4).still ∧ (moving .configure 0).mcr.mode = .configure ∧
      (moving .step 0).mcr.mode = .step :=
  ⟨by decide, fun ⟨_, h, hv⟩ => by cases h; exact absurd hv (by decide), rfl, rfl⟩
/-- Each button pressed alone, from HORN to STOP_CANCEL. -/
theorem witness_ScansAreJudged_presses : ∀ b ∈ List.range' 5 10,
    let s := (inMode .service).withDci { exchangeOpen := true, state := .ok, heldKey := true, image := 1 }
    let w := s.dci.image ||| BitVec.twoPow 32 b
    s.dci.exchangeOpen = true ∧ s.dci.state = .ok ∧ s.mcr.mode.active = true ∧ s.mcr.mode ≠ .holdPending ∧
      s.dci.heldKey = s.dci.image.getLsbD 0 ∧ s.dci.image.getLsbD b = false ∧
      acceptScan (word4 w ++ half2 0 ++ [sum8 (word4 w ++ half2 0)]) = some (w, s.dci.handle) := by decide

/-- The first, the second and the third missing scan of a run, with the key on and off, and one in LOST. -/
theorem witness_ScanExpiry_missing :
    (∀ bad ∈ [0, 1, 2], (scanning .service .ok bad 0).dci.exchangeOpen = true ∧ (scanning .service .ok bad 0).dci.state = .ok ∧
      (scanning .service .ok bad 0).dci.heldKey = true ∧ (bad < 2 ∨ bad = 2)) ∧
      (scanning .service .ok 2 0).mcr.mode ≠ .holdPending ∧ (scanning .service .lost 0 4).dci.state = .lost := by decide

/-! ### Witnesses: traction -/

theorem witness_ControlPeriod_idle : ∀ m ∈ [Mode.starting, .failed, .standby],
    (inMode m).mcr.mode = .starting ∨ (inMode m).mcr.mode = .failed ∨ (inMode m).mcr.mode = .standby := by decide
theorem witness_ControlPeriod_kept : ∀ m ∈ [Mode.configure, .hold, .step],
    (inMode m).mcr.mode = .configure ∨ (inMode m).mcr.mode = .hold ∨ (inMode m).mcr.mode = .step := by decide
theorem witness_ControlPeriod_step : (inMode .step).mcr.mode = .step := rfl
/-- Room at both ports and no notify channel enabled, with an EMERGENCY in the list and without. -/
theorem witness_ControlPeriod_sends : ∀ l ∈ [[modeHoldAtPowerOn], [modeHoldAtPowerOn, ⟨.handle, 0, .emergency false, 0⟩]],
    let s := ((inMode .hold).withLine ⟨upPort, { upPort with egress := List.replicate 7 ⟨processFrame 1 [], .forward⟩ }, 0⟩).withRsl l
    s.mcr.address = some 5 ∧ s.line.a.hasRoom ∧ s.line.b.hasRoom ∧ (∀ c ∈ s.efn.channels, c.enable = false) ∧
      (s.rsl = [modeHoldAtPowerOn] ∨ ∃ e ∈ s.rsl, e.source ≠ .speedLost ∧ e.kind = .emergency false) := by decide
/-- The hold setpoint by its bytes: NEUTRAL, no shares, EMERG_BRAKE 800, EMERGENCY and HOLD (R52, R205). -/
theorem test_hold_setpoint :
    answer .controlPeriod ((inMode .step).withRsl [modeHoldAtPowerOn, ⟨.handle, 0, .emergency false, 0⟩]) =
      [[2, 0, 0, 0, 0, 0, 0, 0, 0, 0x03, 0x20, 3, 0, 0]] := by decide

/-- The worked period meets the hypothesis, and its speed of 317 is above its cap of 250; the state
after power-on in SERVICE holds MODE/HOLD and knows no speed. -/
theorem witness_NoPowerUnderRestriction :
    (workedPeriod.mcr.mode = .service ∨ workedPeriod.mcr.mode = .holdPending) ∧
      ((after .controlPeriod workedPeriod).tdu.record.any fun r => r.speed.any fun x => decide (r.cap ≤ x.v)) = true := by
  decide
theorem witness_NoPowerUnderRestriction_hold :
    ((inMode .holdPending).mcr.mode = .service ∨ (inMode .holdPending).mcr.mode = .holdPending) ∧
      ((after .controlPeriod (inMode .holdPending)).tdu.record.any fun r =>
        r.hold && r.speed.isNone && decide (r.held = .neutral)) = true := by decide

theorem witness_SpeedAndOdometer_unknown :
    (inMode .service).tdu.units.filterMap (inMode .service).axleSpeed = [] ∧ (inMode .service).tdu.speed = none := by decide
theorem witness_SpeedAndOdometer_known :
    workedPeriod.tdu.units.filterMap workedPeriod.axleSpeed = [315, 317, 313] ∧
      (moving .service 1500).tdu.speed = some ⟨1500, 1500⟩ := by decide

/-- The worked limb, at its first and last breakpoint and between two. -/
theorem witness_LimbInterpolates :
    workedLimb.length = 8 ∧ 1500 ≤ 1500 ∧ (∀ b ∈ workedLimb, b.effort ≤ 1000) ∧
      workedLimb.Pairwise (fun a b => a.speed < b.speed) ∧
      (workedLimb.head? = some ⟨0, 450⟩ ∧ 0 ≤ (⟨0, 450⟩ : Breakpoint).speed) ∧
      (workedLimb.getLast? = some ⟨1500, 100⟩ ∧ (⟨1500, 100⟩ : Breakpoint).speed ≤ 1500) ∧
      workedLimb[1]? = some ⟨200, 450⟩ ∧ workedLimb[2]? = some ⟨400, 320⟩ ∧ 200 ≤ 200 ∧ 399 < 400 := by decide

/-- The band above a cap of 250: at 280 it brakes, at 279 and at 250 it withholds, at 249 it lets through. -/
theorem witness_EffortIsCutAndLimited_bands :
    let i : TractionItems := {}
    let y : Summary := ⟨250, false, false⟩
    y.emergency = false ∧ y.hold = false ∧ y.cap + i.overspeedBand ≤ 280 ∧ 279 < y.cap + i.overspeedBand ∧ y.cap ≤ 250 ∧
      249 < y.cap := by decide
theorem witness_EffortIsCutAndLimited_restraints :
    (⟨250, true, true⟩ : Summary).emergency = true ∧ (⟨250, true, false⟩ : Summary).emergency = false ∧
      (⟨250, true, false⟩ : Summary).hold = true := by decide
theorem witness_EffortIsCutAndLimited_reached :
    let i : TractionItems := {}
    ((150 : Int) - 120).natAbs ≤ i.jerk / 50 ∧ ¬ ((0 : Int) < 120 ∧ (150 : Int) < 0) ∧ ¬ ((120 : Int) < 0 ∧ (0 : Int) < 150) := by
  decide
theorem witness_EffortIsCutAndLimited_signs : (0 : Int) < 1 ∧ (-1 : Int) < 0 := by decide

/-- A unit with a weight, available or not. -/
def unit (weight : Nat) (ready : Bool) : UnitView := ⟨⟨true, weight, 400, none, none⟩, none, ready, 500⟩

/-- Weights 4, 4, 2 and a unit that is absent: 97 is shared 40, 38, 19 (R70). -/
theorem test_base_shares :
    baseShares 97 [unit 4 true, unit 4 true, unit 2 true, ⟨{}, none, false, 0⟩] = [40, 38, 19, 0] := by decide
/-- A first unit not available, then the first that is, then another. -/
theorem witness_BaseSharesSumToCommand :
    let us := [unit 4 false, unit 4 true, unit 15 true]
    0 < totalWeight us ∧ us[0]? = some (unit 4 false) ∧ (unit 4 false).available = false ∧ us[1]? = some (unit 4 true) ∧
      (unit 4 true).available = true ∧ us[2]? = some (unit 15 true) ∧ (unit 15 true).available = true := by decide
theorem witness_BaseSharesSumToCommand_first :
    let us := [unit 4 false, unit 4 true, unit 15 true]
    ∀ (j : Nat) (v : UnitView), j < 1 → us[j]? = some v → v.available = false := by
  intro us j v hj h
  obtain rfl : j = 0 := by omega
  cases h
  rfl

theorem witness_DemandIsDelivered :
    let us := [unit 4 true, unit 4 true, unit 2 false, unit 0 true]
    let slips : List UnitSlip := [{}, ⟨75, 2⟩, ⟨25, 9⟩, {}]
    us.length = 4 ∧ slips.length = 4 ∧ (∀ x ∈ slips, x.factor ≤ 100) ∧ us[2]? = some (unit 2 false) ∧
      ((allocateUnits {} none (-100) false us slips).map (·.1))[2]? =
        some ⟨false, 0, false, 25, 0, 0⟩ ∧ (unit 2 false).available = false ∧ (-100 : Int) < 0 := by decide

theorem witness_VigilanceTrips_standstill : (moving .service 3).tdu.speed = some ⟨3, 3⟩ ∧ 3 ≤ 3 := by decide
/-- One period before VIGIL_LIMIT, just above standstill. -/
theorem witness_VigilanceTrips_limit :
    let s := (inMode .service).withTdu { speed := some ⟨4, 4⟩, vigil := 4980 }
    s.tdu.speed = some ⟨4, 4⟩ ∧ 3 < 4 ∧ s.tdu.inputs.deadman = false ∧ s.tdu.vigil < s.tdu.items.vigilLimit ∧
      s.tdu.vigil + 20 = s.tdu.items.vigilLimit ∧ s.mcr.mode ≠ .standby := by decide
/-- One period before VIGIL_WARN, and at VIGIL_LIMIT. -/
theorem witness_VigilanceTrips_warn_and_after :
    let s (vigil : Nat) := (inMode .holdPending).withTdu { speed := some ⟨4, 4⟩, vigil := vigil }
    (s 2480).tdu.vigil + 20 = (s 2480).tdu.items.vigilWarn ∧ (s 2480).tdu.vigil < (s 2480).tdu.items.vigilLimit ∧
      (s 5000).tdu.items.vigilLimit ≤ (s 5000).tdu.vigil ∧ (s 5000).tdu.inputs.deadman = false ∧
      (s 5000).tdu.speed = some ⟨4, 4⟩ := by decide
/-- A computed period with the key on. -/
theorem witness_VigilanceTrips_period :
    (keyed (inMode .service)).mcr.mode = .service ∧ (keyed (inMode .service)).dci.heldKey = true := by decide
/-- The warning and the trip (R63): the indication with the chime asked for, then VIGIL as EMERGENCY. -/
theorem test_vigilance_warns_and_trips :
    let s (vigil : Nat) := ((inMode .service).withTdu { speed := some ⟨4, 4⟩, vigil := vigil }).withSsq
      { patterns := List.replicate 16 { valid := true } }
    (s 2480).supervise.tdu.vigilOn = true ∧ (s 2480).supervise.ssq.chime.requests = [⟨3, .vigil, 2⟩] ∧
      (s 4980).supervise.rsl = [⟨.mode, 0, .hold, 0⟩, ⟨.vigil, 0, .emergency false, 0⟩] ∧
      (s 4980).supervise.ssq.horn.requests = [⟨5, .vigil, 2⟩] := by decide
theorem witness_VigilanceTrips_unknown : (inMode .service).tdu.speed = none := rfl
theorem witness_VigilanceTrips_held :
    let s := (inMode .service).withTdu { speed := some ⟨4, 4⟩, inputs := { deadman := true } }
    s.tdu.speed = some ⟨4, 4⟩ ∧ 3 < 4 ∧ s.tdu.inputs.deadman = true := by decide

/-- A HOLD and an EMERGENCY of sources that the period does not lift, with the key on. -/
theorem witness_NoPowerUnderRestriction_entries :
    let s := (keyed (inMode .service)).withRsl [modeHoldAtPowerOn, ⟨.vigil, 0, .emergency false, 0⟩]
    s.mcr.mode = .service ∧ s.dci.heldKey = true ∧
      (∀ e ∈ s.rsl, e.source ≠ .speedLost ∧ e.source ≠ .brake) ∧ (∃ e ∈ s.rsl, e.kind = .hold) ∧
      ∃ e ∈ s.rsl, e.kind = .emergency false := by decide

/-! ### Witnesses: restrictions -/

/-- A state with a restriction list. -/
def restricted (m : Mode) (l : List Restriction) : State := (inMode m).withRsl l

theorem witness_RaiseFollowsTable_standby : (restricted .standby []).mcr.mode = .standby := rfl
theorem witness_RaiseFollowsTable_new :
    (restricted .service []).mcr.mode ≠ .standby ∧ findRestriction (restricted .service []).rsl .desk 0 = none := by decide
/-- An entry behind another: an emergency, a hold and a cap, each raised again. -/
theorem witness_RaiseFollowsTable_again : ∀ k ∈ [Restraint.emergency true, .hold, .cap 200],
    let e : Restriction := ⟨.junction, 9, k, 7⟩
    let s := restricted .service [modeHoldAtPowerOn, e]
    s.mcr.mode ≠ .standby ∧ s.rsl = [modeHoldAtPowerOn] ++ e :: [] ∧ e.source = .junction ∧ e.key = 9 ∧
      ∀ y ∈ [modeHoldAtPowerOn], ¬ (y.source = .junction ∧ y.key = 9) := by decide
theorem witness_RaiseFollowsTable_kinds :
    (∀ m, Restraint.hold ≠ .emergency m) ∧ (∀ l, Restraint.cap 200 ≠ .emergency l) ∧ Restraint.cap 200 ≠ .cap 150 :=
  ⟨by simp, by simp, by decide⟩

theorem witness_LiftsAndRelease_absent : findRestriction (restricted .service []).rsl .desk 0 = none := by decide
theorem witness_LiftsAndRelease_present : ∀ k ∈ [Restraint.emergency true, .emergency false, .hold, .cap 200],
    let e : Restriction := ⟨.junction, 9, k, 7⟩
    let s := restricted .service [modeHoldAtPowerOn, e]
    s.rsl = [modeHoldAtPowerOn] ++ e :: [] ∧ e.source = .junction ∧ e.key = 9 ∧
      ∀ y ∈ [modeHoldAtPowerOn], ¬ (y.source = .junction ∧ y.key = 9) := by decide
/-- Standstill at its highest speed, the handle at its highest count. -/
theorem witness_LiftsAndRelease_released :
    let s := (restricted .service [⟨.vigil, 0, .emergency true, 0⟩]).withTdu
      { speed := some ⟨3, 0⟩, inputs := { handle := -900, deadman := true } }
    s.tdu.speed = some ⟨3, 0⟩ ∧ 3 ≤ 3 ∧ s.tdu.inputs.handle ≤ -900 ∧ s.tdu.inputs.deadman = true ∧
      ∃ e ∈ s.rsl, e.kind = .emergency true := by decide
theorem witness_LiftsAndRelease_kept :
    (inMode .service).tdu.speed = none ∧ ((moving .service 4).tdu.speed = some ⟨4, 4⟩ ∧ 3 < 4) ∧
      -900 < ((inMode .service).withTdu { inputs := { handle := -899 } }).tdu.inputs.handle ∧
      (inMode .service).tdu.inputs.deadman = false := by decide

theorem witness_RaiseFollowsTable_new_kind : Restraint.emergency false ≠ .emergency true ∧ Restraint.hold ≠ .emergency true := by
  decide
/-- An emergency that stands with no lift requested, raised again as an emergency. -/
theorem witness_RaiseFollowsTable_emergency :
    let e : Restriction := ⟨.vigil, 0, .emergency false, 7⟩
    let s := restricted .service [e]
    s.mcr.mode ≠ .standby ∧ s.rsl = [] ++ e :: [] ∧ e.source = .vigil ∧ e.key = 0 ∧ e.kind = .emergency false := by decide

/-! ### Witnesses: junctions, track link -/

/-- A transaction of a junction in a state. -/
def transaction (j : Half) (st : TxState) : Transaction := ⟨j, none, some .l, .table, st, 1, some 42, 0, 0, 0, 200⟩

/-- A queue of four junctions. -/
def fourJunctions : State :=
  ((inMode .service).withRtu { queue := [transaction 1 .requesting, transaction 2 .announced, transaction 3 .announced,
    transaction 4 .announced] }).withRsl
    [⟨.junction, 1, .cap 200, 0⟩, ⟨.junction, 2, .cap 200, 0⟩, ⟨.junction, 3, .cap 200, 0⟩, ⟨.junction, 4, .cap 200, 0⟩,
      ⟨.desk, 0, .hold, 0⟩]

/-- JunctionsMirrored, in a form that `decide` settles. -/
theorem mirrored_of (s : State) (h1 : ∀ t ∈ s.rtu.queue, mirrored s.rsl s.rtu.items t)
    (h2 : ∀ e ∈ s.rsl, e.source = .junction →
      (∃ t ∈ s.rtu.queue, t.junction = e.key) ∧ (match e.kind with | .emergency _ => false | _ => true) = true) :
    s.JunctionsMirrored :=
  ⟨h1, fun e he hs => ⟨(h2 e he hs).1, fun l hl => by simpa [hl] using (h2 e he hs).2⟩⟩

theorem fourJunctions_mirrored : fourJunctions.JunctionsMirrored := mirrored_of fourJunctions (by decide) (by decide)

theorem witness_AtMostThirteenRestrictions :
    fourJunctions.Fits ∧ fourJunctions.Distinct ∧ fourJunctions.KeysZero ∧ fourJunctions.JunctionsMirrored :=
  ⟨by decide, by decide, by decide, fourJunctions_mirrored⟩

theorem witness_ArrivalsAreJudged_start :
    (inMode .service).tlk.state = .listen ∧ ((inMode .service).withTlk { state := .transmitting }).tlk.state = .transmitting := by
  decide
/-- The run before the eighth bad telegram, and before an earlier one. -/
theorem witness_ArrivalsAreJudged_end : ∀ run ∈ [6, 7],
    let s := (keyed (inMode .service)).withTlk { state := .receiving, reception := some ⟨false, false, 1⟩, run := run }
    s.tlk.state = .receiving ∧ s.tlk.reception = some ⟨false, false, 1⟩ ∧ s.tlk.abandoned = 0 ∧ s.dci.heldKey = true ∧
      acceptTelegram [0x02, 0x0A, 0x12, 0x1A] = some (.clear 0x0A12) ∧ acceptTelegram [1, 1] = none ∧
      (s.tlk.run = 7 ∨ s.tlk.run < 7) := by decide

theorem witness_ReportStartsAttemptTimer :
    fourJunctions.rtu.queue = transaction 1 .requesting :: fourJunctions.rtu.queue.tail ∧
      fourJunctions.mcr.mode.routing = true ∧ (transaction 1 .requesting).state = .requesting ∧
      (transaction 1 .requesting).lastSeq = some 42 := by decide
theorem witness_ReportStartsAttemptTimer_ignored :
    ∀ h rest, fourJunctions.rtu.queue = h :: rest → ¬ (h.state = .requesting ∧ h.lastSeq = some 43) := by
  intro h rest e
  cases e
  decide

theorem witness_RequestsAreSent :
    let s := (inMode .service).withTlk { state := .transmitting, inFlight := some ⟨0, 9, .l, 42, 1⟩, slot := some ⟨0, 8, .r, 43, 1⟩ }
    s.tlk.state = .transmitting ∧ s.tlk.inFlight = some ⟨0, 9, .l, 42, 1⟩ ∧ s.tlk.reception = none ∧
      s.tlk.slot = some ⟨0, 8, .r, 43, 1⟩ := by decide
theorem witness_RequestsAreSent_empty_slot :
    let s := (inMode .service).withTlk { state := .transmitting, inFlight := some ⟨0, 9, .l, 42, 1⟩ }
    s.tlk.state = .transmitting ∧ s.tlk.inFlight = some ⟨0, 9, .l, 42, 1⟩ ∧ s.tlk.reception = none ∧ s.tlk.slot = none := by
  decide
theorem witness_RequestsAreSent_lost_arrival :
    let s := (inMode .service).withTlk
      { state := .transmitting, inFlight := some ⟨0, 9, .l, 42, 1⟩, reception := some ⟨true, false, 1⟩ }
    s.tlk.state = .transmitting ∧ s.tlk.inFlight = some ⟨0, 9, .l, 42, 1⟩ ∧ s.tlk.reception.isSome = true := by decide
theorem witness_RequestsAreRetried_not_running :
    (inMode .service).rtu.attempt = none ∧ (inMode .hold).mcr.mode ≠ .service ∧ (inMode .hold).mcr.mode ≠ .holdPending := by
  decide
/-- With SHORT_RETRIES 2, the second attempt is repeated and the third is the last. -/
theorem witness_RequestsAreRetried : ∀ attempts ∈ [1, 2],
    let h : Transaction := { transaction 9 .requesting with attempts := attempts }
    let s := (inMode .service).withRtu { queue := [h], attempt := some 0 }
    s.rtu.attempt = some 0 ∧ (s.mcr.mode = .service ∨ s.mcr.mode = .holdPending) ∧ s.rtu.queue = h :: [] ∧
      s.rtu.restartedAt ≠ some s.env.clock ∧ h.dir = some .l ∧ (h.attempts + 1 ≤ s.rtu.items.shortRetries ∨ s.rtu.items.shortRetries < h.attempts + 1) := by decide

/-- A head REQUESTING whose attempt timer has run down, its attempts used as given. -/
def expiring (attempts : Nat) : State :=
  (inMode .service).withRtu { queue := [{ transaction 9 .requesting with attempts := attempts }], attempt := some 0 }

/-- A CONFIRM for `expiring` with SET_MOVING. -/
def movingConfirm : Telegram := .confirm 9 0 42 .l .setMoving

/-- A CONFIRM and the expiry together, with a resend to follow and with none (R114). -/
theorem witness_ReportStartsAttemptTimer_together : ∀ attempts ∈ [1, 2],
    let s := expiring attempts
    let h : Transaction := { transaction 9 .requesting with attempts := attempts }
    s.mcr.mode = .service ∧ s.rtu.queue = h :: [] ∧ h.state = .requesting ∧ h.lastSeq = some 42 ∧ s.rtu.attempt ≠ none ∧
      movingConfirm = .confirm h.junction s.rtu.items.tramNumber 42 .l .setMoving ∧ h.dir = some .l ∧
      s.rtu.restartedAt ≠ some s.env.clock ∧ h.dir ≠ none ∧ (42 : Byte) ≠ s.rtu.seq + 1 ∧
      (h.attempts + 1 ≤ s.rtu.items.shortRetries ∨ s.rtu.items.shortRetries < h.attempts + 1) := by decide
/-- The timer just restarted, which an expiry finds at the same reading of the clock (R114). -/
theorem witness_RequestsAreRetried_restarted :
    let s := (expiring 1).deliverTelegram movingConfirm
    s.rtu.restartedAt = some s.env.clock ∧ s.rtu.attempt = some 300 := by decide
/-- SET_MOVING taken first: the expiry does not occur, and one of a later moment does (R114). -/
theorem test_set_moving_before_expiry :
    let s := (expiring 1).deliverTelegram movingConfirm
    after .attemptTimerExpiry s = s ∧ (after .attemptTimerExpiry s.tick).rtu.seq = 1 := by decide
/-- The expiry taken first: a resend, for which the CONFIRM is late (R114). -/
theorem test_expiry_before_set_moving :
    let t := (after .attemptTimerExpiry (expiring 1)).deliverTelegram movingConfirm
    t.efn.isSet .lateConfirm = true ∧ t.rtu.attempt = none ∧ t.rtu.seq = 1 := by decide

/-- A route entry for junctions 0700h to 070Fh on route 12 (section 6.11). -/
def routeEntry : RouteEntry := ⟨true, 0x700, 0xFFF0, 12, some .l, 200, 20, 30, true, 5⟩

theorem witness_ApproachResolvesRoute_entry :
    let r : RouteUnit := { active := [{}, routeEntry], routeNumber := 12 }
    r.active[1]? = some routeEntry ∧ routeEntry.covers 0x703 r.routeNumber = true := by decide
theorem witness_ApproachResolvesRoute_first :
    let r : RouteUnit := { active := [{}, routeEntry], routeNumber := 12 }
    ∀ (k : Nat) (x : RouteEntry), k < 1 → r.active[k]? = some x → x.covers 0x703 r.routeNumber = false := by
  intro r k x hk h
  obtain rfl : k = 0 := by omega
  cases h
  rfl
theorem witness_ApproachResolvesRoute_none :
    let r : RouteUnit := { active := [{}, routeEntry], routeNumber := 12 }
    ∀ e ∈ r.active, e.covers 0x710 r.routeNumber = false := by decide

/-- A transmission whose slot started at an earlier reading of the clock, and one with a reception. -/
theorem witness_ArrivalsAreJudged_collision :
    let s := ((inMode .service).withTlk { state := .transmitting, slotStart := some 0 }).withEnv { clock := 1 }
    let u := (inMode .service).withTlk { state := .transmitting, slotStart := some 0, reception := some ⟨true, false, 1⟩ }
    s.tlk.state = .transmitting ∧ s.tlk.slotStart ≠ some s.env.clock ∧ u.tlk.state = .transmitting ∧ u.tlk.reception ≠ none := by
  decide

/-- A REQUEST in flight and another in the slot. -/
def slotted : State := (inMode .service).withTlk
  { state := .transmitting, inFlight := some ⟨0, 9, .l, 42, 1⟩, slot := some ⟨0, 8, .r, 43, 1⟩ }

theorem witness_ArrivalsAreJudged_together :
    slotted.tlk.state = .transmitting ∧ slotted.tlk.inFlight = some ⟨0, 9, .l, 42, 1⟩ ∧
      slotted.tlk.slot = some ⟨0, 8, .r, 43, 1⟩ ∧ slotted.tlk.reception = none := by decide
/-- An arrival that starts with the transmission's end is received, and the REQUEST waits (R133). -/
theorem test_arrival_with_transmission_end :
    let t := after .telegramArrivalStart (after .requestTransmissionEnd slotted)
    t.tlk.state = .receiving ∧ t.tlk.slot = some ⟨0, 8, .r, 43, 1⟩ ∧ t.tlk.collide = 0 := by decide

/-- A reception in RECEIVING that a further arrival joins, one with an earlier end to come, and an abandoned arrival. -/
theorem witness_ArrivalsAreJudged_merged :
    let s := (inMode .service).withTlk { state := .receiving, reception := some ⟨false, true, 2⟩ }
    s.tlk.reception = some ⟨false, true, 2⟩ ∧ s.tlk.state = .receiving ∧ s.tlk.abandoned = 0 ∧ 1 < 2 ∧
      0 < ((inMode .service).withTlk { abandoned := 1 }).tlk.abandoned := by decide
/-- The end of a merged reception, its bytes good, at the run before the eighth and an earlier one. -/
theorem witness_ArrivalsAreJudged_merged_end : ∀ run ∈ [6, 7], ∀ c ∈ [LinkCondition.ok, .fault],
    let s := (inMode .service).withTlk { state := .receiving, reception := some ⟨false, true, 1⟩, run := run, condition := c }
    s.tlk.state = .receiving ∧ s.tlk.reception = some ⟨false, true, 1⟩ ∧ s.tlk.abandoned = 0 ∧ s.tlk.condition = c ∧
      (s.tlk.run < 7 ∨ s.tlk.run = 7) := by decide
/-- The end of a lost reception, during the transmission and after it, the slot empty or not. -/
theorem witness_ArrivalsAreJudged_lost : ∀ st ∈ [Transceiver.transmitting, .receiving],
    ∀ slot ∈ [none, some ⟨0, 8, .r, 43, 1⟩],
      let s := (inMode .service).withTlk { state := st, reception := some ⟨true, false, 1⟩, slot := slot }
      s.tlk.reception = some ⟨true, false, 1⟩ ∧ s.tlk.abandoned = 0 ∧ s.tlk.state = st ∧ s.tlk.slot = slot := by decide

/-- The end of a lone arrival: the slot empty or not, the condition OK or FAULT. -/
theorem witness_ArrivalsAreJudged_good : ∀ slot ∈ [none, some ⟨0, 8, .r, 43, 1⟩], ∀ c ∈ [LinkCondition.ok, .fault],
    let s := (keyed (inMode .service)).withTlk
      { state := .receiving, reception := some ⟨false, false, 1⟩, slot := slot, condition := c }
    s.tlk.state = .receiving ∧ s.tlk.reception = some ⟨false, false, 1⟩ ∧ s.tlk.abandoned = 0 ∧ s.tlk.slot = slot ∧
      s.tlk.condition = c ∧ s.mcr.mode ≠ .holdPending ∧ s.dci.heldKey = true := by decide

/-- A CONFIRM in a mode that does not route, for another tram, with no junction queued. -/
theorem witness_ReportStartsAttemptTimer_tests :
    (inMode .configure).mcr.mode.routing = false ∧ (1 : Half) ≠ fourJunctions.rtu.items.tramNumber ∧
      (inMode .service).rtu.queue = [] ∧ (0 : Half) = fourJunctions.rtu.items.tramNumber := by decide
/-- Another junction, another sequence number, another state, another direction than the head's. -/
theorem witness_ReportStartsAttemptTimer_confirm :
    let h := transaction 1 .requesting
    h.junction ≠ 2 ∧ h.junction = 1 ∧ h.lastSeq ≠ some 43 ∧ h.lastSeq = some 42 ∧ h.state = .requesting ∧
      h.dir = some .l ∧ h.dir ≠ some .r ∧ (transaction 1 .unconfirmed).state ≠ .requesting := by decide
theorem witness_ReportStartsAttemptTimer_fault :
    fourJunctions.mcr.mode.routing = true ∧ fourJunctions.Distinct ∧
      ∃ x ∈ fourJunctions.rtu.queue, x.state = .announced ∨ x.state = .requesting := by decide

theorem witness_RequestsAreSent_hand_over :
    ({} : TrackLink).state = .listen ∧ ({ state := .receiving } : TrackLink).state ≠ .listen := by decide

/-- A head in a state, with a direction. -/
def headed (st : TxState) : State := (inMode .hold).withRtu { queue := [transaction 9 st] }

/-- The head's states in which a button acts, and those in which it does not; its direction is L. -/
theorem witness_RequestsAreSent_buttons :
    (∀ st ∈ [TxState.requesting, .unconfirmed, .awaitDriver, .confirmed], (headed st).mcr.mode.routing = true ∧
      (headed st).rtu.queue = transaction 9 st :: [] ∧ (transaction 9 st).dir ≠ some .r) ∧
      (∀ st ∈ [TxState.announced, .proceed, .notRequired, .confirmed], (headed st).mcr.mode.routing = true ∧
        (headed st).rtu.queue = transaction 9 st :: [] ∧ (transaction 9 st).dir = some .l) ∧
      (inMode .configure).mcr.mode.routing = false ∧ (inMode .service).rtu.queue = [] := by decide
theorem witness_RequestsAreSent_proceed :
    let s := (inMode .service).withRtu { queue := [transaction 1 .requesting, transaction 2 .unconfirmed] }
    s.mcr.mode.routing = true ∧ s.rtu.queue = [transaction 1 .requesting] ++ transaction 2 .unconfirmed :: [] ∧
      (∀ y ∈ [transaction 1 .requesting], y.state ≠ .unconfirmed ∧ y.junction ≠ 2) ∧
      ∀ y ∈ fourJunctions.rtu.queue, y.state ≠ .unconfirmed := by decide

/-- An APPROACH for a queued junction, for a fifth one, for one with room at the head and behind one. -/
theorem witness_ApproachResolvesRoute_approach :
    fourJunctions.mcr.mode.routing = true ∧
      fourJunctions.rtu.queue = [transaction 1 .requesting] ++ transaction 2 .announced :: fourJunctions.rtu.queue.drop 2 ∧
      (∀ y ∈ [transaction 1 .requesting], y.junction ≠ 2) ∧ (∀ y ∈ fourJunctions.rtu.queue, y.junction ≠ 9) ∧
      4 ≤ fourJunctions.rtu.queue.length ∧
      (∀ y ∈ (headed .requesting).rtu.queue, y.junction ≠ 0x703) ∧ (headed .requesting).rtu.queue.length < 4 ∧
      (inMode .service).rtu.queue.length < 4 ∧ (headed .requesting).rtu.queue ≠ [] ∧
      (({ active := [routeEntry], routeNumber := 12 } : RouteUnit).newTransaction 0x703 40).state = .announced ∧
      (({ active := [routeEntry], routeNumber := 12 } : RouteUnit).newTransaction 0x710 40).state ≠ .announced := by decide
/-- CLEAR of the head, of the second and of a junction that is not queued. -/
theorem witness_ApproachResolvesRoute_clear :
    (fourJunctions.rtu.queue.map (·.junction)).Nodup ∧ (∀ y ∈ fourJunctions.rtu.queue, y.junction ≠ 9) ∧
      fourJunctions.rtu.queue = [] ++ transaction 1 .requesting :: fourJunctions.rtu.queue.tail ∧
      fourJunctions.rtu.queue.tail.head?.map (·.state) = some .announced ∧
      fourJunctions.rtu.queue = [transaction 1 .requesting] ++ transaction 2 .announced :: fourJunctions.rtu.queue.drop 2 := by
  decide

/-- Four junctions, of which one metre passes the first and takes the second to its deadline. -/
def approaching : State :=
  ((inMode .service).withRtu { queue := [{ transaction 1 .requesting with remaining := -9000, clearance := 10 },
    { transaction 2 .announced with remaining := 21000, confirm := 20 },
    { transaction 3 .announced with remaining := 21001, confirm := 20 },
    { transaction 4 .awaitDriver with remaining := 500, confirm := 20, source := .manual, clearance := 1 }] }).withRsl
      fourJunctions.rsl

theorem witness_ApproachResolvesRoute_distance :
    approaching.mcr.mode.routing = true ∧ approaching.Distinct ∧ approaching.JunctionsMirrored ∧
      max (-2147483648) ((-9000 : Int) - (1000 : Nat)) ≤ -((10 : Nat) : Int) * 1000 ∧
      max (-2147483648) ((21000 : Int) - (1000 : Nat)) ≤ ((20 : Nat) : Int) * 1000 ∧
      ¬ (max (-2147483648) ((21001 : Int) - (1000 : Nat)) ≤ ((20 : Nat) : Int) * 1000) :=
  ⟨by decide, by decide, mirrored_of approaching (by decide) (by decide), by decide, by decide, by decide⟩
theorem witness_ApproachResolvesRoute_reversal :
    fourJunctions.mcr.mode.routing = true ∧ fourJunctions.Distinct ∧ fourJunctions.JunctionsMirrored ∧
      fourJunctions.rtu.queue ≠ [] := ⟨by decide, by decide, fourJunctions_mirrored, by decide⟩

/-! ### Witnesses: stops, doors, sound -/

/-- Inputs 0 (released), 1 (active, disarmed) and 31 (active, armed), all enabled. -/
def buttons : State := (inMode .hold).withSru
  { sources := List.replicate 32 ⟨true, .normal⟩, armed := 0xFFFFFFFD, list := [⟨1, .normal, 0⟩] }

theorem witness_ButtonsRegisterOnce :
    buttons.mcr.mode.active = true ∧ buttons.sru.door ≠ .released ∧ buttons.sru.sources.length = 32 ∧
      buttons.sru.sources[31]? = some ⟨true, .normal⟩ ∧ (0x80000002 : Word).getLsbD 31 = true ∧
      buttons.sru.armed.getLsbD 31 = true ∧ buttons.sru.armed.getLsbD 1 = false := by decide

theorem witness_DoorReleaseRefused_mode :
    (moving .hold 0).mcr.mode ≠ .service ∧ (moving .hold 0).mcr.mode ≠ .holdPending := by decide
theorem witness_DoorReleaseRefused_unknown : (inMode .service).tdu.speed = none := rfl
theorem witness_DoorReleaseRefused_motion : (moving .service 4).tdu.speed = some ⟨4, 4⟩ ∧ 3 < 4 := by decide

/-- A scan in SERVICE at the highest standstill speed whose presses are DOOR_REL_L. -/
def releasing : State := ((((moving .service 3).withRsl []).withDci
  { exchangeOpen := true, state := .ok, heldKey := true, image := 1 }).withSru { view := some ⟨true, true⟩ }).withPending
    [.scanArrivalEnd ⟨[0, 0, 0x08, 1, 0, 0, 9], false⟩]

theorem releasing_held : releasing.DoorsHeld := by
  refine ⟨?_, by decide, by decide⟩
  intro e he
  cases he

/-- The release puts DOORS into the list as HOLD. -/
theorem test_release_holds_tram :
    standsAs (after (.scanArrivalEnd ⟨[0, 0, 0x08, 1, 0, 0, 9], false⟩) (releasing.withPending [])).rsl .doors .hold := by decide
theorem witness_DoorsReleaseOnlyAtStandstill :
    ∃ t, releasing.DoorsHeld ∧ step releasing = .next t ∧ releasing.sru.door ≠ .released ∧ t.sru.door = .released :=
  ⟨after (.scanArrivalEnd ⟨[0, 0, 0x08, 1, 0, 0, 9], false⟩) (releasing.withPending []), releasing_held, rfl, by decide, by decide⟩

/-- A chime at a step with a request of a priority queued. -/
def sounding (priority step : Nat) : State := (inMode .service).withSsq
  { chime := { playing := some ⟨⟨2, .stops, 0⟩, false, 1, step⟩, queue := [⟨4, .doors, priority⟩] } }

theorem witness_SoundsAdvance_outranked :
    ((sounding 1 3).ssq.channel .chime).playing = some ⟨⟨2, .stops, 0⟩, false, 1, 3⟩ ∧
      ((sounding 1 3).ssq.channel .chime).queue = ⟨4, .doors, 1⟩ :: [] ∧ 0 < 1 := by decide
theorem witness_SoundsAdvance_step :
    ((sounding 0 14).ssq.channel .chime).playing = some ⟨⟨2, .stops, 0⟩, false, 1, 14⟩ ∧
      (∀ r ∈ ((sounding 0 14).ssq.channel .chime).queue, r.priority ≤ 0) ∧ 14 < 15 := by decide
theorem witness_SoundsAdvance_horn :
    let s := (inMode .service).withSsq { horn := { playing := some ⟨⟨2, .driver, 0⟩, false, 1, 0⟩ } }
    (s.ssq.channel .horn).playing = some ⟨⟨2, .driver, 0⟩, false, 1, 0⟩ ∧ s.ssq.direct = none := by decide
theorem witness_SoundsAdvance_direct_held :
    let s := (inMode .service).withSsq { direct := some ⟨0, true, 0, 50⟩ }
    s.ssq.direct = some ⟨0, true, 0, 50⟩ ∧ (⟨0, true, 0, 50⟩ : DirectHorn).held = true := by decide
theorem witness_SoundsAdvance_direct_released :
    let s := (inMode .service).withSsq { direct := some ⟨0, false, 0, 50⟩ }
    s.ssq.direct = some ⟨0, false, 0, 50⟩ ∧ (⟨0, false, 0, 50⟩ : DirectHorn).held = false ∧ s.ssq.horn.playing = none ∧
      s.ssq.horn.queue = [] ∧ s.mcr.mode ≠ .holdPending := by decide

/-- A direct horn that ends, by its release and by its 300 ms, over a suspended pattern and over a queued request. -/
theorem witness_SoundsAdvance_direct_resumes : ∀ x ∈ [none, some (⟨⟨2, .vigil, 2⟩, false, 1, 9⟩ : Playing)],
    let d : DirectHorn := ⟨0, false, 0, 50⟩
    let s := (inMode .service).withSsq { horn := { playing := x, queue := [⟨4, .vigil, 2⟩] }, direct := some d }
    s.ssq.direct = some d ∧ d.minLeft = 0 ∧ d.held = false ∧ s.ssq.horn.playing = x ∧ s.ssq.horn.queue = ⟨4, .vigil, 2⟩ :: [] ∧
      ({ d with minLeft := 1 } : DirectHorn).minLeft ≠ 0 := by decide

/-- A release with the doors closed, and with the other side released. -/
theorem witness_ButtonsRegisterOnce_release : ∀ d ∈ [DoorState.closedLocked, .released],
    let s := (moving .holdPending 3).withSru { door := d, sides := ⟨false, decide (d = .released)⟩ }
    (s.mcr.mode = .service ∨ s.mcr.mode = .holdPending) ∧ s.sru.door = d ∧ s.tdu.speed = some ⟨3, 3⟩ ∧ 3 ≤ 3 := by decide
theorem witness_ButtonsRegisterOnce_close :
    (∀ d ∈ [DoorState.closedLocked, .released, .closing], ((inMode .service).withSru { door := d }).sru.door = d) ∧
      (inMode .service).sru.list = [] ∧ buttons.sru.list ≠ [] := by decide

/-- Pattern 2 valid, and pattern 4 with a second segment of some repeats. -/
def patterned (repeats2 : Nat) (chime : SoundChannel) : State := (inMode .service).withSsq
  { patterns := [{}, {}, ⟨true, 1, 1, 0, 0, 1⟩, {}, ⟨true, 1, 2, 1, repeats2, 1⟩], chime := chime }

theorem witness_SoundsAdvance_request_modes :
    (inMode .hold).mcr.mode.sounding = false ∧ (patterned 0 {}).mcr.mode.sounding = true ∧
      ((patterned 0 {}).ssq.pattern 0).valid = false ∧ ((patterned 0 {}).ssq.pattern 2).valid = true ∧
      (patterned 0 {}).ssq.idle .chime = true := by decide
/-- Requests of priorities 3, 2 and 1 behind a playing one, with a place free and with none. -/
theorem witness_SoundsAdvance_request_queue :
    let c : SoundChannel := { playing := some ⟨⟨2, .stops, 3⟩, false, 1, 0⟩
                              queue := [⟨4, .doors, 3⟩, ⟨4, .stops, 2⟩, ⟨2, .doors, 1⟩] }
    let full : SoundChannel := { c with queue := c.queue ++ [⟨4, .route, 1⟩] }
    (∃ x ∈ c.requests, x.pattern = 2 ∧ x.source = .stops) ∧ (∀ x ∈ c.requests, ¬ (x.pattern = 2 ∧ x.source = .route)) ∧
      c.playing ≠ none ∧ c.queue.length < 4 ∧ (∀ x ∈ full.requests, ¬ (x.pattern = 2 ∧ x.source = .route)) ∧
      4 ≤ full.queue.length ∧ (∀ x ∈ full.queue, 1 ≤ x.priority) ∧ ∃ x ∈ full.queue, x.priority < 2 := by decide
/-- Step 15 with repeats left and with the last, in segment 1 and 2, with and without a request queued. -/
theorem witness_SoundsAdvance_step_15 : ∀ second ∈ [false, true], ∀ left ∈ [1, 2], ∀ repeats2 ∈ [0, 1, 15],
    ∀ q ∈ ([[], [⟨2, .doors, 0⟩]] : List (List SoundRequest)),
      let s := patterned repeats2 { playing := some ⟨⟨4, .stops, 0⟩, second, left, 15⟩, queue := q }
      (s.ssq.channel .chime).playing = some ⟨⟨4, .stops, 0⟩, second, left, 15⟩ ∧
        (∀ r ∈ (s.ssq.channel .chime).queue, r.priority ≤ 0) ∧ (s.ssq.pattern 4).repeats2 = repeats2 := by decide

/-! ### Witnesses: management -/

theorem witness_RequestsPassTests_starting :
    let s := asking (inMode .starting) 2 [9, 0, 0, 0, 0, 0]
    s.fcl.requests.head? = some (request 2 [9, 0, 0, 0, 0, 0]) ∧ s.mcr.mode = .starting ∧
      (request 2 [9, 0, 0, 0, 0, 0]).row ≠ .readItem ∧ (request 2 [9, 0, 0, 0, 0, 0]).row = .writeItem := by decide
theorem witness_RequestsPassTests_failed :
    let s := asking (inMode .failed) 1 [9, 0]
    s.fcl.requests.head? = some (request 1 [9, 0]) ∧ s.mcr.mode = .failed ∧ (request 1 [9, 0]).row = .readItem := by decide
/-- A MODE request byte of 8, the first that is unknown. -/
theorem witness_RequestsPassTests_unknown :
    let s := asking (inMode .configure) 13 [8]
    s.fcl.requests.head? = some (request 13 [8]) ∧ s.mcr.mode ≠ .starting ∧ s.mcr.mode ≠ .failed ∧
      (request 13 [8]).row = .unknown := by decide

theorem witness_ResponseGoesToRequester :
    let s := (inMode .service).withLine ⟨upPort, { upPort with egress := List.replicate 7 fwdEntry }, 255⟩
    s.mcr.address = some 5 ∧ (request 1 []).requester ≠ 0 ∧ (request 1 []).requester ≠ 5 ∧ (request 1 []).requester ≠ 63 ∧
      s.line.a.hasRoom ∧ s.line.b.hasRoom ∧ (request 1 []).requester ∉ s.line.a.seen ∧
      (request 1 []).requester ∉ s.line.b.seen := by decide

theorem witness_ReadsAnswer_readItem :
    (asking (inMode .configure) 1 [9, 1]).asked (request 1 [9, 1]) .readItem ∧
      Item.ofNumber ((request 1 [9, 1]).half 0).toNat = some .nodeAddress :=
  ⟨asking_asked _ _ _ _ (by decide) (by decide) (by decide), by decide⟩
/-- The number after the last item. -/
theorem witness_ReadsAnswer_readItem_bad :
    (asking (inMode .configure) 1 [9, 2]).asked (request 1 [9, 2]) .readItem ∧
      Item.ofNumber ((request 1 [9, 2]).half 0).toNat = none :=
  ⟨asking_asked _ _ _ _ (by decide) (by decide) (by decide), by decide⟩
/-- The last entry of the route table, the one after it, and a table code that names none. -/
theorem witness_ReadsAnswer_readEntry :
    (asking (inMode .configure) 4 [3, 1, 47]).asked (request 4 [3, 1, 47]) .readEntry ∧
      TableName.ofCode ((request 4 [3, 1, 47]).byte 0) = some .route ∧
      readBank .route ((request 4 [3, 1, 47]).byte 1) = some .shadow ∧
      readIndex .route ((request 4 [3, 1, 47]).payload.drop 2) = some ⟨.power, 47⟩ :=
  ⟨asking_asked _ _ _ _ (by decide) (by decide) (by decide), by decide, by decide, by decide⟩
theorem witness_ReadsAnswer_readEntry_range :
    (asking (inMode .configure) 4 [3, 1, 48]).asked (request 4 [3, 1, 48]) .readEntry ∧
      TableName.ofCode ((request 4 [3, 1, 48]).byte 0) = some .route ∧
      readIndex .route ((request 4 [3, 1, 48]).payload.drop 2) = none :=
  ⟨asking_asked _ _ _ _ (by decide) (by decide) (by decide), by decide, by decide⟩
theorem witness_ReadsAnswer_readEntry_bad :
    (asking (inMode .configure) 4 [6, 1]).asked (request 4 [6, 1]) .readEntry ∧
      TableName.ofCode ((request 4 [6, 1]).byte 0) = none :=
  ⟨asking_asked _ _ _ _ (by decide) (by decide) (by decide), by decide⟩
theorem witness_ReadsAnswer_restrictions :
    (asking (inMode .configure) 9 [255]).asked (request 9 [255]) .readRestrictions :=
  asking_asked _ _ _ _ (by decide) (by decide) (by decide)
theorem witness_ReadsAnswer_junctions : (asking fourJunctions 10 [3]).asked (request 10 [3]) .readJunctions :=
  asking_asked _ _ _ _ (by decide) (by decide) (by decide)
theorem witness_ReadsAnswer_stops : (asking buttons 11 [0]).asked (request 11 [0]) .readStops :=
  asking_asked _ _ _ _ (by decide) (by decide) (by decide)
theorem witness_ReadsAnswer_step :
    (asking (inMode .configure) 12 [4]).asked (request 12 [4]) .readStep ∧ ((request 12 [4]).byte 0).toNat ≤ 4 ∧
      (asking (inMode .configure) 12 [5]).asked (request 12 [5]) .readStep ∧ 4 < ((request 12 [5]).byte 0).toNat :=
  ⟨asking_asked _ _ _ _ (by decide) (by decide) (by decide), by decide,
    asking_asked _ _ _ _ (by decide) (by decide) (by decide), by decide⟩

theorem witness_WritesFollowTheirClass_readOnly :
    (asking (inMode .configure) 2 [9, 1, 0, 0, 0, 1]).asked (request 2 [9, 1, 0, 0, 0, 1]) .writeItem ∧
      Item.ofNumber ((request 2 [9, 1, 0, 0, 0, 1]).half 0).toNat = some .nodeAddress ∧
      Item.nodeAddress.writeClass = .readOnly :=
  ⟨asking_asked _ _ _ _ (by decide) (by decide) (by decide), by decide, rfl⟩
theorem witness_WritesFollowTheirClass_mode :
    (asking (inMode .service) 2 [3, 5, 0, 0, 0, 70]).asked (request 2 [3, 5, 0, 0, 0, 70]) .writeItem ∧
      Item.ofNumber ((request 2 [3, 5, 0, 0, 0, 70]).half 0).toNat = some (.traction .jerk) ∧
      (Item.traction .jerk).writeClass = .heldConfiguration ∧ (inMode .service).mcr.mode ≠ .configure ∧
      (inMode .service).mcr.mode ≠ .hold :=
  ⟨asking_asked _ _ _ _ (by decide) (by decide) (by decide), by decide, rfl, by decide, by decide⟩
theorem witness_WritesFollowTheirClass_cleared :
    (asking (inMode .service) 2 [5, 5, 0, 0, 0, 1]).asked (request 2 [5, 5, 0, 0, 0, 1]) .writeItem ∧
      Item.ofNumber ((request 2 [5, 5, 0, 0, 0, 1]).half 0).toNat = some (.track .rollover) ∧
      (Item.track .rollover).writeClass = .clearOnWrite :=
  ⟨asking_asked _ _ _ _ (by decide) (by decide) (by decide), by decide, rfl⟩
/-- One below the range of JERK, and its lowest value. -/
theorem witness_WritesFollowTheirClass_fitted :
    (asking (inMode .hold) 2 [3, 5, 0, 0, 0, 99]).asked (request 2 [3, 5, 0, 0, 0, 99]) .writeItem ∧
      (asking (inMode .hold) 2 [3, 5, 0, 0, 0, 100]).asked (request 2 [3, 5, 0, 0, 0, 100]) .writeItem ∧
      Item.ofNumber ((request 2 [3, 5, 0, 0, 0, 100]).half 0).toNat = some (.traction .jerk) ∧
      ((inMode .hold).mcr.mode = .configure ∨ (inMode .hold).mcr.mode = .hold) :=
  ⟨asking_asked _ _ _ _ (by decide) (by decide) (by decide), asking_asked _ _ _ _ (by decide) (by decide) (by decide),
    by decide, by decide⟩

theorem reset_shaped : State.reset.Shaped :=
  ⟨rfl, rfl, ⟨rfl, rfl⟩, ⟨rfl, rfl⟩, rfl, rfl, rfl, rfl, rfl, rfl, rfl, rfl⟩

theorem witness_WrittenItemsReadBack :
    State.reset.Shaped ∧ State.reset.tdu.items.InRange ∧ Item.ofNumber 0x0305 = some (.traction .jerk) ∧
      (Item.traction .jerk).writeClass = .heldConfiguration ∧ Item.ofNumber 0x0808 = some .notifyMap ∧
      Item.notifyMap.writeClass = .notification := ⟨reset_shaped, by decide, by decide, rfl, by decide, rfl⟩

/-- A curve entry at the top of its ranges, with the SHADOW bank, the ACTIVE bank, and one past the range. -/
def curveLoad (bank effortLow : Byte) : List Byte := [1, bank, 1, 7, 0x05, 0xDC, 0x03, effortLow]

theorem witness_LoadsAreDecided_shadow :
    (asking (inMode .service) 3 (curveLoad 1 0xE8)).asked (request 3 (curveLoad 1 0xE8)) .loadEntry ∧
      TableName.ofCode ((request 3 (curveLoad 1 0xE8)).byte 0) = some .curve ∧
      readIndex .curve (((request 3 (curveLoad 1 0xE8)).payload.drop 2).take 2) = some ⟨.brake, 7⟩ ∧
      (request 3 (curveLoad 1 0xE8)).byte 1 = 1 ∧
      readLoaded .curve (((request 3 (curveLoad 1 0xE8)).payload.drop 2).drop 2) = some (.breakpoint ⟨1500, 1000⟩) :=
  ⟨asking_asked _ _ _ _ (by decide) (by decide) (by decide), by decide, by decide, by decide, by decide⟩
theorem witness_LoadsAreDecided_active :
    (asking (inMode .service) 3 (curveLoad 0 0xE8)).asked (request 3 (curveLoad 0 0xE8)) .loadEntry ∧
      (request 3 (curveLoad 0 0xE8)).byte 1 = 0 ∧
      readLoaded .curve (((request 3 (curveLoad 0 0xE8)).payload.drop 2).drop 2) = some (.breakpoint ⟨1500, 1000⟩) :=
  ⟨asking_asked _ _ _ _ (by decide) (by decide) (by decide), by decide, by decide⟩
theorem witness_LoadsAreDecided_range :
    (asking (inMode .service) 3 (curveLoad 0 0xE9)).asked (request 3 (curveLoad 0 0xE9)) .loadEntry ∧
      readIndex .curve (((request 3 (curveLoad 0 0xE9)).payload.drop 2).take 2) = some ⟨.brake, 7⟩ ∧
      readLoaded .curve (((request 3 (curveLoad 0 0xE9)).payload.drop 2).drop 2) = none :=
  ⟨asking_asked _ _ _ _ (by decide) (by decide) (by decide), by decide, by decide⟩
theorem witness_LoadsAreDecided_source :
    (asking (inMode .service) 3 [4, 7, 31, 1, 1]).asked (request 3 [4, 7, 31, 1, 1]) .loadEntry ∧
      TableName.ofCode ((request 3 [4, 7, 31, 1, 1]).byte 0) = some .stopSource ∧
      readIndex .stopSource (((request 3 [4, 7, 31, 1, 1]).payload.drop 2).take 1) = some ⟨.power, 31⟩ ∧
      readLoaded .stopSource (((request 3 [4, 7, 31, 1, 1]).payload.drop 2).drop 1) = some (.source ⟨true, .assist⟩) :=
  ⟨asking_asked _ _ _ _ (by decide) (by decide) (by decide), by decide, by decide, by decide⟩

theorem witness_LoadedEntriesReadBack :
    State.reset.Shaped ∧ (∃ u, State.reset.load .curve 1 ((curveLoad 1 0xE8).drop 2) = (u, .done)) ∧
      readBank .curve 1 = some .shadow ∧
      readIndex .curve (((curveLoad 1 0xE8).drop 2).take TableName.curve.indexBytes) = some ⟨.brake, 7⟩ :=
  ⟨reset_shaped, ⟨(State.reset.load .curve 1 ((curveLoad 1 0xE8).drop 2)).1, Prod.ext rfl (by decide)⟩, by decide, by decide⟩

/-- A SHADOW curve and a SHADOW allocation that a commit takes. -/
def ready (s : State) : State := s.withTdu
  { s.tdu with curveShadow := ⟨workedLimb, workedLimb, false⟩, allocShadow := ⟨[⟨true, 1, 0, none, none⟩, {}, {}, {}], false⟩ }

theorem witness_Commit_curve :
    (asking (ready (inMode .hold)) 5 [1]).asked (request 5 [1]) .commit ∧ (request 5 [1]).byte 0 = 1 ∧
      (ready (inMode .hold)).mcr.mode = .hold ∧ (ready (inMode .hold)).tdu.curveShadow.ready = true :=
  ⟨asking_asked _ _ _ _ (by decide) (by decide) (by decide), by decide, by decide, by decide⟩
theorem witness_Commit_allocation :
    (asking (ready (inMode .configure)) 5 [2]).asked (request 5 [2]) .commit ∧ (request 5 [2]).byte 0 = 2 ∧
      (ready (inMode .configure)).mcr.mode = .configure ∧ (ready (inMode .configure)).tdu.allocShadow.ready = true :=
  ⟨asking_asked _ _ _ _ (by decide) (by decide) (by decide), by decide, by decide, by decide⟩
theorem witness_Commit_busy :
    (asking (moving .service 4) 5 [1]).asked (request 5 [1]) .commit ∧ (moving .service 4).mcr.mode = .service ∧
      (moving .service 4).tdu.speed = some ⟨4, 4⟩ ∧ (asking (inMode .step) 5 [2]).asked (request 5 [2]) .commit ∧
      (inMode .step).mcr.mode = .step :=
  ⟨asking_asked _ _ _ _ (by decide) (by decide) (by decide), rfl, rfl,
    asking_asked _ _ _ _ (by decide) (by decide) (by decide), rfl⟩
theorem witness_Commit_motion : ∀ x, (moving .service 4).tdu.speed = some x → 3 < x.v := by
  intro x h
  cases h
  decide
/-- Standstill in SERVICE takes a commit; a SHADOW bank as at power-on is not ready, one that a load has filled is. -/
theorem witness_Commit_conditions :
    (moving .service 3).mcr.mode = .service ∧ (moving .service 3).still ∧
      ¬ (State.reset.tdu.curveShadow.power.Pairwise (·.speed < ·.speed)) ∧
      (¬ ∃ u ∈ State.reset.tdu.allocShadow.units, u.present = true ∧ 0 < u.weight) ∧
      (ready State.reset).tdu.curveShadow.power.Pairwise (·.speed < ·.speed) ∧
      (∃ u ∈ (ready State.reset).tdu.allocShadow.units, u.present = true ∧ 0 < u.weight) ∧
      (∀ b ∈ ([0, 4, 5, 6] : List Byte), (request 5 [b]).row = .commit ∧ b ≠ 1 ∧ b ≠ 2 ∧ b ≠ 3) :=
  ⟨rfl, ⟨_, rfl, by decide⟩, by decide, by decide, by decide, by decide, by decide⟩
theorem witness_Commit_route :
    (asking (inMode .service) 5 [3]).asked (request 5 [3]) .commit ∧ (request 5 [3]).byte 0 = 3 ∧
      (inMode .service).rtu.queue = [] ∧ (asking fourJunctions 5 [3]).asked (request 5 [3]) .commit ∧
      fourJunctions.rtu.queue ≠ [] :=
  ⟨asking_asked _ _ _ _ (by decide) (by decide) (by decide), by decide, rfl,
    asking_asked _ _ _ _ (by decide) (by decide) (by decide), by decide⟩
theorem witness_Commit_load_sum : (asking (inMode .service) 6 []).asked (request 6 []) .readLoadSum :=
  asking_asked _ _ _ _ (by decide) (by decide) (by decide)

theorem witness_FlagGroups_read :
    (asking (inMode .service) 7 [3]).asked (request 7 [3]) .readFlags ∧ ((request 7 [3]).byte 0).toNat ≤ 3 ∧
      (asking (inMode .service) 7 [4]).asked (request 7 [4]) .readFlags ∧ 3 < ((request 7 [4]).byte 0).toNat :=
  ⟨asking_asked _ _ _ _ (by decide) (by decide) (by decide), by decide,
    asking_asked _ _ _ _ (by decide) (by decide) (by decide), by decide⟩
theorem witness_FlagGroups_enables :
    (asking (inMode .service) 8 [3, 0xFF, 0xFF]).asked (request 8 [3, 0xFF, 0xFF]) .setEnables ∧
      ((request 8 [3, 0xFF, 0xFF]).byte 0).toNat ≤ 3 ∧
      (asking (inMode .service) 8 [4, 0, 0]).asked (request 8 [4, 0, 0]) .setEnables ∧
      3 < ((request 8 [4, 0, 0]).byte 0).toNat :=
  ⟨asking_asked _ _ _ _ (by decide) (by decide) (by decide), by decide,
    asking_asked _ _ _ _ (by decide) (by decide) (by decide), by decide⟩

theorem witness_RaisedChannelNotifies :
    let s := ((inMode .configure).withEfn { enables := 0x10000, channels := [{}, ⟨true, 63⟩, {}, {}] }).withLine
      ⟨upPort, upPort, 0⟩
    channelOf s.efn.map Flag.deskLost.number = 1 ∧ s.mcr.address = some 5 ∧ s.efn.raised 1 = false ∧
      s.efn.enables.getLsbD Flag.deskLost.number = true ∧ (s.efn.channel 1).enable = true ∧ s.mcr.mode = .configure ∧
      (s.efn.channel 1).dest = 63 ∧ (5 : Byte) ≠ 63 ∧ s.line.a.hasRoom ∧ s.line.b.hasRoom := by decide

/-- In STARTING the mode item and another, in FAILED and elsewhere one of a wrong length, and no request. -/
theorem witness_RequestsPassTests_rows :
    (request 1 [9, 0]).row = .readItem ∧ (request 1 [9, 0]).half 0 = 0x0900 ∧ (request 1 [9, 1]).half 0 ≠ 0x0900 ∧
      (asking (inMode .starting) 1 [9, 0]).fcl.requests.head? = some (request 1 [9, 0]) ∧
      (inMode .starting).mcr.mode = .starting ∧ (request 1 [9]).row = .unknown ∧ (request 1 [9]).row ≠ .restart ∧
      Row.setRoute ≠ (request 1 [9, 0]).row ∧ (inMode .service).fcl.requests = [] := by decide

/-- Ports that have heard the requester as given. -/
def heard (a b : List Byte) : State :=
  (inMode .service).withLine ⟨{ upPort with seen := a }, { upPort with seen := b }, 255⟩

/-- Node 7 heard at A alone, at B alone and at both. -/
theorem witness_ResponseGoesToRequester_heard :
    (7 ∈ ((heard [7] []).port .a).seen ∧ 7 ∉ ((heard [7] []).port (otherPort .a)).seen ∧ ((heard [7] []).port .a).hasRoom) ∧
      (7 ∈ ((heard [] [7]).port .b).seen ∧ 7 ∉ ((heard [] [7]).port (otherPort .b)).seen ∧ ((heard [] [7]).port .b).hasRoom) ∧
      (7 ∈ (heard [7] [7]).line.a.seen ↔ 7 ∈ (heard [7] [7]).line.b.seen) ∧ (heard [7] [7]).line.a.hasRoom ∧
      (heard [7] [7]).line.b.hasRoom ∧ (heard [] []).mcr.address = some 5 := by decide

theorem test_no_match_policy_clamped :
    answer .writeItem (asking (inMode .configure) 2 [4, 6, 0, 0, 0, 1]) = [[1, 0, 0, 0, 1]] := by decide

/-- An unknown number; PASS, MANUAL and a value that is neither for NO_MATCH_POLICY; the bounds of a binding and a pattern
item; and a notification item outside CONFIGURE and HOLD. -/
theorem witness_WritesFollowTheirClass_items :
    Item.ofNumber ((request 2 [9, 2, 0, 0, 0, 0]).half 0).toNat = none ∧
      (∀ v ∈ ([[0, 0, 0, 0], [0, 0, 0, 1], [0, 0, 0, 2], [0xFF, 0xFF, 0xFF, 0xFF]] : List (List Byte)),
        (request 2 ([4, 6] ++ v)).row = .writeItem ∧
          Item.ofNumber ((request 2 ([4, 6] ++ v)).half 0).toNat = some (.route .noMatch)) ∧
      (Item.route .noMatch).writeClass = .heldConfiguration ∧ (inMode .hold).mcr.mode = .hold ∧
      (∀ i ∈ [Item.notifyMap, .notifyEnable 3, .notifyDest 0], i.writeClass = .notification) ∧
      (asking (inMode .service) 2 [8, 8, 0, 0, 0, 2]).fcl.requests.head? = some (request 2 [8, 8, 0, 0, 0, 2]) ∧
      Item.ofNumber ((request 2 [8, 8, 0, 0, 0, 2]).half 0).toNat = some .notifyMap ∧
      (request 2 [8, 8, 0, 0, 0, 2]).row = .writeItem := by decide

/-- A window load, by its bytes: the last window, with a slot base. -/
def windowLoad (slotBase : Byte) : List Byte := [0, 1, 15, 1, 4, 0, 0xFF, 0xE0, 0, slotBase, 255]

/-- A window load in and outside the modes that take it, the slot base at its bound and above; a bank that is none. -/
theorem witness_LoadsAreDecided_window :
    (request 3 (windowLoad 127)).row = .loadEntry ∧ TableName.ofCode ((request 3 (windowLoad 127)).byte 0) = some .window ∧
      (inMode .service).mcr.mode ≠ .configure ∧ (inMode .service).mcr.mode ≠ .hold ∧ (inMode .hold).mcr.mode = .hold ∧
      readIndex .window (((windowLoad 127).drop 2).take 1) = some ⟨.power, 15⟩ ∧
      readLoaded .window (((windowLoad 127).drop 2).drop 1) = some (.window ⟨true, 0x400, 0xFFE0, .consume, 127, 255⟩) ∧
      readLoaded .window (((windowLoad 128).drop 2).drop 1) = none ∧
      (request 3 (curveLoad 2 0)).row = .loadEntry ∧ (request 3 (curveLoad 2 0)).byte 1 ≠ 0 ∧
      (request 3 (curveLoad 2 0)).byte 1 ≠ 1 := by decide
/-- A pattern that plays and one that does not. -/
theorem witness_LoadsAreDecided_pattern :
    (∃ ch x, ((sounding 0 3).ssq.channel ch).playing = some x ∧ x.request.pattern = 2) ∧
      ∀ ch x, ((sounding 0 3).ssq.channel ch).playing = some x → x.request.pattern ≠ 4 := by
  refine ⟨⟨.chime, _, rfl, rfl⟩, fun ch x h => ?_⟩
  cases ch <;> cases h
  decide

/-- The destination heard at A alone, at B alone, at both and at neither. -/
theorem witness_RaisedChannelNotifies_heard :
    let s (l : LineBlock) := ((inMode .holdPending).withEfn
      { enables := 0x10000, channels := [{}, ⟨true, 7⟩, {}, {}] }).withLine l
    (∀ l ∈ [(heard [7] []).line, (heard [] [7]).line, (heard [7] [7]).line, (heard [] []).line],
      (s l).mcr.address = some 5 ∧ (s l).efn.raised 1 = false ∧ (s l).efn.enables.getLsbD Flag.deskLost.number = true ∧
        ((s l).efn.channel 1).enable = true ∧ (s l).mcr.mode = .holdPending ∧ BitVec.ofNat 8 ((s l).efn.channel 1).dest = 7 ∧
        channelOf (s l).efn.map Flag.deskLost.number = 1 ∧ (s l).line.a.hasRoom ∧ (s l).line.b.hasRoom) ∧
      (7 : Byte) ≠ 63 ∧ (7 : Byte) ≠ 0 ∧ (7 : Byte) ≠ 5 := by decide

/-- Every channel on and sent to a destination, the enable of LATE_CONFIRM on, both ports UP. -/
def notifying (m : Mode) (map : MapMode) (flags : BitVec 64) (dest : Nat) : State :=
  ((inMode m).withEfn { flags := flags, enables := 0x400000000, channels := List.replicate 4 ⟨true, dest⟩, map := map }).withLine
    ⟨upPort, upPort, 0⟩

/-- The worked sequence of section 10.7: flag 34 stands at position 2 of channel 2 in BLOCK, at position 8 in
INTERLEAVE. -/
theorem test_notify_payload :
    let payloads (map : MapMode) := (((notifying .service map 0 63).setFlag .lateConfirm).port .a).toSend.map fun e =>
      (e.frame.id, e.frame.payload)
    payloads .block = [(2, [0, 0, 4])] ∧ payloads .interleave = [(2, [1, 1, 0])] := by decide
/-- Section 10.7: RELEASE from HOLD reports the channel that was raised during the hold, besides its answer. -/
theorem test_release_reports :
    (answer .release (asking (notifying .hold .block 0x400000000 63) 13 [2])) = [[0, 0, 4], [0]] := by decide

/-- A channel of each map, raised and quiet. -/
theorem witness_RaisedChannelNotifies_raised : ∀ map ∈ [MapMode.block, .interleave],
    map.ChannelIs Flag.lateConfirm.number 2 ∧ (notifying .service map 0x400000000 63).efn.raised 2 = true ∧
      (notifying .service map 0 63).efn.raised 2 = false ∧ 2 < 4 := by decide
/-- A flag whose enable is off, a channel that is off, a mode that does not report, a part with no address. -/
theorem witness_RaisedChannelNotifies_quiet :
    (notifying .service .block 0 63).efn.enables.getLsbD Flag.jqFull.number = false ∧
      ((inMode .service).efn.channel 2).enable = false ∧ (inMode .hold).mcr.mode.sounding = false ∧
      State.reset.mcr.address = none := by decide
/-- A destination of 0 and of the own address, OWN_DROP in the same channel, which INTERLEAVE gives it. -/
theorem witness_RaisedChannelNotifies_unsendable : ∀ dest ∈ [0, 5],
    let s := notifying .service .interleave 0 dest
    s.mcr.address = some 5 ∧ s.efn.raised 2 = false ∧ s.efn.enables.getLsbD Flag.lateConfirm.number = true ∧
      (s.efn.channel 2).enable = true ∧ (BitVec.ofNat 8 (s.efn.channel 2).dest = (0 : Byte) ∨
        BitVec.ofNat 8 (s.efn.channel 2).dest = (5 : Byte)) ∧ s.efn.map.ChannelIs 2 2 := by decide
/-- A raised channel that is off, in a mode that reports, and one in a mode that does not. -/
theorem witness_RaisedChannelNotifies_enabled :
    let s (m : Mode) := (notifying m .block 0x400000000 63).withEfn
      { flags := 0x400000000, enables := 0x400000000, channels := List.replicate 4 ⟨false, 63⟩ }
    (s .service).Shaped ∧ (s .service).mcr.address = some 5 ∧ (s .service).efn.raised 2 = true ∧
      ((s .service).efn.channel 2).dest = 63 ∧ (s .service).line.a.hasRoom ∧ (s .service).line.b.hasRoom ∧
      ((s .service).efn.channel 2).enable = false ∧ (s .service).mcr.mode.sounding = true ∧
      (s .hold).mcr.mode.sounding = false :=
  ⟨⟨rfl, rfl, ⟨rfl, rfl⟩, ⟨rfl, rfl⟩, rfl, rfl, rfl, rfl, rfl, rfl, rfl, rfl⟩, by decide⟩
/-- A mode that reports entered with a channel raised: at the end of the check, and by RELEASE. -/
theorem witness_RaisedChannelNotifies_entered :
    let s := notifying .starting .block 0x400000000 63
    let u := asking (notifying .hold .block 0x400000000 63) 13 [2]
    (∀ x ∈ [s, u], x.mcr.address = some 5 ∧ x.mcr.mode.sounding = false ∧ x.line.a.link = .up ∧
      x.line.a.egress.length ≤ 4 ∧ x.line.b.link = .up ∧ x.line.b.egress.length ≤ 4 ∧
      (∀ c ∈ x.efn.channels, c.dest = 63) ∧ x.efn.raised 2 = true ∧ (x.efn.channel 2).enable = true) ∧
      Mode.service.sounding = true ∧ s.mcr.mode = .starting ∧ u.mcr.mode = .hold ∧
      u.asked (request 13 [2]) .release := by
  refine ⟨?_, rfl, rfl, rfl, asking_asked _ 13 [2] .release (by decide) (by decide) (by decide)⟩
  intro x hx
  simp only [List.mem_cons, List.not_mem_nil, or_false] at hx
  obtain rfl | rfl := hx <;> exact ⟨rfl, rfl, rfl, by decide, rfl, by decide, by decide, by decide, rfl⟩
/-- Changes of mode that report nothing: to one that does not report, and between two that do. -/
theorem witness_RaisedChannelNotifies_no_report :
    Mode.hold.sounding = false ∧ (releasing.withPending []).mcr.mode.sounding = true ∧ releasing.DoorsHeld :=
  ⟨rfl, by decide, releasing_held⟩

/-! ### Witnesses: modes -/

/-- Standby entry clears the record of the DESK raise (R94) and nothing else of the desk chain interface (R46). -/
theorem test_standby_clears_desk_record :
    (((moving .service 3).withDci { raised := some .hold, badScans := 3, goodRun := 2 }).standbyTest).dci =
      { badScans := 3, goodRun := 2 } := by decide
/-- The scan of a recovery that turns the key off at standstill, and so enters STANDBY. -/
theorem test_recovery_into_standby :
    let s := (moving .service 0).withDci { raised := some .emergency, goodRun := 4, heldKey := true, exchangeOpen := true }
    let t := after (.scanArrivalEnd ⟨[0, 0, 0, 0, 0, 0, 0], false⟩) s
    s.dci.state = .lost ∧ (acceptScan [0, 0, 0, 0, 0, 0, 0]).isSome = true ∧ t.mcr.mode = .standby ∧ t.dci.state = .ok ∧
      t.dci.raised = none := by decide

/-- SERVICE with the key on, an empty list, and the doors known to be closed and locked. -/
def serving (m : Mode) (v : Nat) : State :=
  ((keyed (moving m v)).withRsl []).withSru { view := some ⟨true, true⟩ }

theorem serving_doors (v : Nat) : (serving .service v).DoorsHeld ∧ (serving .holdPending v).DoorsHeld := by
  refine ⟨⟨?_, fun _ => rfl, ?_⟩, ⟨?_, fun _ => rfl, ?_⟩⟩
  · intro e he
    cases he
  · intro h
    cases h
  · intro e he
    cases he
  · intro h
    cases h

theorem witness_Holds_soft :
    (serving .service 4).dci.heldKey = true ∧ (asking (serving .service 4) 13 [0]).asked (request 13 [0]) .holdSoft ∧
      (asking (serving .service 4) 13 [0]).DoorsHeld ∧ (serving .service 4).mcr.mode = .service ∧
      (serving .service 4).tdu.speed = some ⟨4, 4⟩ ∧ 3 < 4 :=
  ⟨rfl, asking_asked _ _ _ _ (by decide) (by decide) (by decide), (serving_doors 4).1, rfl, rfl, by decide⟩
theorem witness_Holds_hard :
    (serving .holdPending 3).dci.heldKey = true ∧ (asking (serving .holdPending 3) 13 [1]).asked (request 13 [1]) .holdHard ∧
      (serving .holdPending 3).mcr.mode = .holdPending ∧ (∃ x, (serving .holdPending 3).tdu.speed = some x ∧ x.v ≤ 3) ∧
      (asking (serving .service 4) 13 [1]).asked (request 13 [1]) .holdHard :=
  ⟨rfl, asking_asked _ _ _ _ (by decide) (by decide) (by decide), rfl, ⟨_, rfl, by decide⟩,
    asking_asked _ _ _ _ (by decide) (by decide) (by decide)⟩

theorem modeHold_alone (m : Mode) (h : m ≠ .standby) : (keyed (inMode m)).Distinct ∧ (keyed (inMode m)).ModeHeld := by
  refine ⟨by cases m <;> decide, ⟨?_, fun _ => ⟨_, List.mem_cons_self .., rfl, rfl⟩, fun e => absurd e h⟩⟩
  intro e he hs
  obtain rfl : e = modeHoldAtPowerOn := by simpa [keyed, inMode, State.withDci, State.withMcr, State.reset] using he
  rfl

theorem witness_Holds_release :
    (keyed (inMode .hold)).dci.heldKey = true ∧ (asking (keyed (inMode .hold)) 13 [2]).asked (request 13 [2]) .release ∧
      (inMode .hold).mcr.mode = .hold ∧ (keyed (inMode .hold)).Distinct ∧ (keyed (inMode .hold)).ModeHeld ∧
      (asking (serving .holdPending 4) 13 [2]).asked (request 13 [2]) .release ∧ (serving .holdPending 4).DoorsHeld :=
  ⟨rfl, asking_asked _ _ _ _ (by decide) (by decide) (by decide), rfl, (modeHold_alone .hold (by decide)).1,
    (modeHold_alone .hold (by decide)).2, asking_asked _ _ _ _ (by decide) (by decide) (by decide), (serving_doors 4).2⟩

theorem witness_StepsComputeOnce :
    (asking (keyed (inMode .hold)) 13 [3]).asked (request 13 [3]) .stepEnter ∧
      (asking (keyed (inMode .step)) 13 [4]).asked (request 13 [4]) .stepOne ∧
      (asking (keyed (inMode .step)) 13 [5]).asked (request 13 [5]) .stepExit ∧
      (keyed (inMode .hold)).dci.heldKey = true ∧ (keyed (inMode .step)).dci.heldKey = true :=
  ⟨asking_asked _ _ _ _ (by decide) (by decide) (by decide), asking_asked _ _ _ _ (by decide) (by decide) (by decide),
    asking_asked _ _ _ _ (by decide) (by decide) (by decide), rfl, rfl⟩

/-- A state with both ACTIVE banks valid. -/
def committed (s : State) : State := s.withTdu
  { s.tdu with curveActive := ⟨workedLimb, workedLimb, true⟩, allocActive := ⟨[⟨true, 1, 0, none, none⟩, {}, {}, {}], true⟩ }

theorem witness_ServiceIsEntered_enter :
    let s := committed (keyed (inMode .configure))
    s.dci.heldKey = true ∧ s.Distinct ∧ s.ModeHeld ∧ (asking s 13 [6]).asked (request 13 [6]) .enterService ∧
      s.mcr.mode = .configure ∧ s.tdu.curveActive.valid = true ∧ s.tdu.allocActive.valid = true ∧
      (inMode .configure).tdu.curveActive.valid = false :=
  ⟨rfl, (modeHold_alone .configure (by decide)).1, (modeHold_alone .configure (by decide)).2,
    asking_asked _ _ _ _ (by decide) (by decide) (by decide), rfl, rfl, rfl, rfl⟩
theorem witness_ServiceIsEntered_check :
    let s := committed (keyed (inMode .starting))
    s.dci.heldKey = true ∧ s.Distinct ∧ s.ModeHeld ∧ s.mcr.mode = .starting ∧ s.tdu.curveActive.valid = true ∧
      s.tdu.allocActive.valid = true ∧ (inMode .starting).tdu.allocActive.valid = false :=
  ⟨rfl, (modeHold_alone .starting (by decide)).1, (modeHold_alone .starting (by decide)).2, rfl, rfl, rfl, rfl⟩

theorem witness_RestartKeepsConfiguration_modes : ∀ m ∈ [Mode.configure, .hold, .step, .failed],
    (asking (inMode m) 13 [7]).fcl.requests.head? = some (request 13 [7]) ∧ (request 13 [7]).row = .restart ∧
      ((inMode m).mcr.mode = .configure ∨ (inMode m).mcr.mode = .hold ∨ (inMode m).mcr.mode = .step ∨
        (inMode m).mcr.mode = .failed) := by decide
theorem witness_RestartKeepsConfiguration_standstill :
    (asking (moving .service 3) 13 [7]).fcl.requests.head? = some (request 13 [7]) ∧
      (moving .service 3).mcr.mode = .service ∧ ∃ x, (moving .service 3).tdu.speed = some x ∧ x.v ≤ 3 :=
  ⟨rfl, rfl, _, rfl, by decide⟩

/-- A hold that is complete at once. -/
theorem witness_Holds_soft_complete :
    let s := serving .service 3
    s.dci.heldKey = true ∧ (asking s 13 [0]).asked (request 13 [0]) .holdSoft ∧ s.mcr.mode = .service ∧ s.still ∧
      s.rtu.queue = [] ∧ s.ssq.allIdle = true :=
  ⟨rfl, asking_asked _ _ _ _ (by decide) (by decide) (by decide), rfl, ⟨_, rfl, by decide⟩, rfl, by decide⟩
/-- One that waits for the queue alone, and one that waits for standstill. -/
theorem witness_Holds_soft_pending :
    fourJunctions.rtu.queue ≠ [] ∧ ¬ (serving .service 4).still ∧ ¬ (inMode .service).still :=
  ⟨by decide, fun ⟨_, h, hv⟩ => by cases h; exact absurd hv (by decide), fun ⟨_, h, _⟩ => by cases h⟩
theorem witness_Holds_period :
    (keyed (inMode .holdPending)).dci.heldKey = true ∧ (keyed (inMode .holdPending)).mcr.mode = .holdPending ∧
      ∀ m ∈ [Mode.service, .holdPending, .hold], (inMode m).dci.heldKey = false ∧
        ((inMode m).mcr.mode = .service ∨ (inMode m).mcr.mode = .holdPending ∨ (inMode m).mcr.mode = .hold) := by decide
/-- A scan that turns the key off at standstill. -/
theorem witness_Holds_key_off :
    let s := (moving .hold 3).withDci { exchangeOpen := true, state := .ok, heldKey := true, image := 1 }
    s.dci.exchangeOpen = true ∧ acceptScan [0, 0, 0, 0, 0, 0, 0] = some (0, 0) ∧ s.dci.heldKey = true ∧
      (0 : Word).getLsbD 0 = false ∧ s.still ∧ s.mcr.mode = .hold :=
  ⟨rfl, by decide, rfl, rfl, ⟨_, rfl, by decide⟩, rfl⟩
theorem witness_StepsComputeOnce_doors : (serving .hold 0).DoorsHeld ∧ (serving .step 0).DoorsHeld := by decide

theorem witness_ServiceIsEntered_refused :
    let s := keyed (inMode .configure)
    let u := keyed (inMode .hold)
    s.Distinct ∧ s.ModeHeld ∧ (asking s 13 [6]).asked (request 13 [6]) .enterService ∧ s.tdu.curveActive.valid = false ∧
      u.Distinct ∧ u.ModeHeld ∧ (asking u 13 [6]).asked (request 13 [6]) .enterService ∧ u.mcr.mode ≠ .configure :=
  ⟨(modeHold_alone .configure (by decide)).1, (modeHold_alone .configure (by decide)).2,
    asking_asked _ _ _ _ (by decide) (by decide) (by decide), rfl, (modeHold_alone .hold (by decide)).1,
    (modeHold_alone .hold (by decide)).2, asking_asked _ _ _ _ (by decide) (by decide) (by decide), by decide⟩

theorem witness_Restart_refused :
    (asking (moving .service 4) 13 [7]).fcl.requests.head? = some (request 13 [7]) ∧ ¬ (moving .service 4).still ∧
      (asking (inMode .standby) 13 [7]).fcl.requests.head? = some (request 13 [7]) ∧ (inMode .standby).mcr.mode = .standby :=
  ⟨rfl, fun ⟨_, h, hv⟩ => by cases h; exact absurd hv (by decide), rfl, rfl⟩
theorem witness_Restart_standby_exit :
    let s := (inMode .standby).withDci { exchangeOpen := true }
    s.mcr.mode = .standby ∧ s.dci.exchangeOpen = true ∧ s.dci.heldKey = false ∧
      acceptScan [0, 0, 0, 1, 0, 0, 1] = some (1, 0) ∧ (1 : Word).getLsbD 0 = true := by decide

/-- The bounds of the route number. -/
theorem witness_SetRouteClamps :
    (∀ p ∈ ([[0, 1], [3, 231], [0, 0], [3, 232]] : List (List Byte)), (request 14 p).row = .setRoute ∧
      (asking (inMode .service) 14 p).fcl.requests.head? = some (request 14 p)) ∧
      ((request 14 [3, 231]).half 0).toNat = 999 ∧ ((request 14 [3, 232]).half 0).toNat = 1000 ∧
      (inMode .service).mcr.mode ≠ .starting ∧ (inMode .service).mcr.mode ≠ .failed := by decide

/-! ### Witnesses: what every step keeps

Each invariant holds of a state whose step changes what it speaks of. -/

/-- A step answers some next state. -/
def steps (s : State) : Prop := ∃ t, step s = .next t

theorem reset_modeHeld : State.reset.ModeHeld := by
  refine ⟨?_, fun _ => ⟨_, List.mem_cons_self .., rfl, rfl⟩, fun e => by cases e⟩
  intro e he _
  obtain rfl : e = modeHoldAtPowerOn := by simpa [State.reset] using he
  rfl

theorem witness_StepKeepsCapacities :
    let s := ((inMode .service).withPort .a { ingress := [[1], [2]] }).withPending [.frameArrivalEnd .a [3]]
    s.Fits ∧ s.Shaped ∧ steps s := ⟨by decide, reset_shaped, _, rfl⟩
theorem witness_StepKeepsIdentities :
    let s := (handling (manageFrame 5).encode 0).withPending [.frameHandling .a]
    s.Distinct ∧ s.SoundOrdered ∧ steps s := ⟨by decide, by decide, _, rfl⟩
theorem witness_StepKeepsModeHeld : State.reset.ModeHeld ∧ steps State.reset := ⟨reset_modeHeld, _, rfl⟩
theorem witness_StepKeepsDoorsHeld : releasing.DoorsHeld ∧ steps releasing := ⟨releasing_held, _, rfl⟩
/-- The attempt timer expires. -/
theorem witness_StepKeepsJunctionsMirrored :
    let s := (fourJunctions.withRtu { fourJunctions.rtu with attempt := some 0 }).withPending [.attemptTimerExpiry]
    s.Distinct ∧ s.JunctionsMirrored ∧ s.KeysZero ∧ s.AttemptHeld ∧ s.rtu.attempt.isSome = true ∧ steps s :=
  ⟨by decide, mirrored_of _ (by decide) (by decide), by decide, by decide, rfl, _, rfl⟩
theorem witness_StepKeepsItemsInRange :
    let s := (asking (inMode .hold) 2 [3, 5, 0, 0, 0, 70]).withPending [.writeItem]
    s.ItemsInRange ∧ steps s := ⟨by decide, _, rfl⟩
theorem witness_StepKeepsEffortBounded :
    let s := workedPeriod.withPending [.controlPeriod]
    s.EffortBounded ∧ steps s := ⟨by decide, _, rfl⟩
theorem witness_StepKeepsUnaddressedSilent :
    let s := State.reset.withPending [.classifyFrame .a]
    s.SilentUnaddressed ∧ s.mcr.address = none ∧ steps s := ⟨by decide, rfl, _, rfl⟩

/-! ### Witnesses: DESK, HANDLE and lamps -/

/-- The kind of DESK at standstill in SERVICE, and in motion before and after a first computed period (R43). -/
theorem witness_DeskKindIs :
    (moving .service 3).DeskKindIs .hold ∧ (moving .service 4).DeskKindIs .hold ∧
      ((inMode .holdPending).withTdu { computed := true }).DeskKindIs .emergency := by
  refine ⟨⟨nofun, fun h => nomatch h.2.1⟩, ⟨nofun, fun h => nomatch h.2.1⟩, ⟨fun _ => ⟨Or.inr rfl, rfl, ?_⟩, fun _ => rfl⟩⟩
  rintro ⟨x, h, -⟩
  cases h

/-- A third bad scan of a run with the levels as delivered, in a mode that serves the desk and in one that does not. -/
theorem witness_ScansAreJudged_loss :
    (∀ m ∈ [Mode.holdPending, .step], (scanning m .ok 2 0).dci.badRun = 2 ∧ (scanning m .ok 2 0).mcr.mode.active = true ∧
      (scanning m .ok 2 0).dci.heldKey = true ∧
      (scanning m .ok 2 0).tdu.inputs = ⟨(scanning m .ok 2 0).dci.handle, false, false, false, false⟩ ∧
      (scanning m .ok 2 0).ssq.hornLevel = (scanning m .ok 2 0).dci.image.getLsbD 5) ∧
    (scanning .starting .ok 2 0).mcr.mode.active = false := by decide
/-- A fifth good scan with the key on and off, the tram standing, with an entry of DESK in the list. -/
theorem witness_ScansAreJudged_recovery : ∀ k ∈ [Restraint.hold, .emergency false],
    let s := (scanning .service .lost 0 4).withRsl [⟨.desk, 0, k, 0⟩]
    acceptScan [0, 0, 0, 1, 0x03, 0xFF, 0x03] = some (1, 1000) ∧ s.dci.goodRun = 4 ∧ s.mcr.mode.active = true ∧ s.Distinct ∧
      (1 : Word).getLsbD 0 = true ∧ s.tdu.inputs = ⟨0, false, false, false, false⟩ ∧ s.ssq.hornLevel = false := by decide
theorem witness_ScansAreJudged_recovery_modes :
    (scanning .failed .lost 0 4).mcr.mode.active = false ∧ (inMode .service).dci.heldKey = false ∧
      ((inMode .failed).mcr.mode ≠ .service ∧ (inMode .failed).mcr.mode ≠ .holdPending ∧ (inMode .failed).mcr.mode ≠ .hold) := by
  decide
/-- DEADMAN and HANDLE_EMERG taken alone, with VIGIL raised and not. -/
theorem witness_ScansAreJudged_levels : ∀ b ∈ [1, 2], ∀ vigil ∈ [true, false],
    let s := ((inMode .service).withDci { exchangeOpen := true, state := .ok, heldKey := true, image := 1 }).withTdu
      { marks := { vigil := vigil } }
    let w := s.dci.image ||| BitVec.twoPow 32 b
    s.dci.exchangeOpen = true ∧ s.dci.state = .ok ∧ s.mcr.mode.active = true ∧ s.mcr.mode ≠ .holdPending ∧
      s.dci.heldKey = s.dci.image.getLsbD 0 ∧ s.dci.image.getLsbD b = false ∧ s.tdu.marks.vigil = vigil ∧
      acceptScan (word4 w ++ half2 0 ++ [sum8 (word4 w ++ half2 0)]) = some (w, s.dci.handle) := by decide
/-- HANDLE_EMERG let go, with HANDLE raised and not. -/
theorem witness_ScansAreJudged_let_go : ∀ raised ∈ [true, false],
    let s := ((inMode .holdPending).withDci { exchangeOpen := true, state := .ok, heldKey := true, image := 5 }).withTdu
      { marks := { handle := raised } }
    s.dci.exchangeOpen = true ∧ s.dci.state = .ok ∧ s.mcr.mode.active = true ∧ s.dci.heldKey = s.dci.image.getLsbD 0 ∧
      s.dci.image.getLsbD 2 = true ∧ s.tdu.marks.handle = raised ∧
      acceptScan [0, 0, 0, 1, 0, 0, 1] = some (s.dci.image &&& ~~~ BitVec.twoPow 32 2, s.dci.handle) := by decide
/-- A pull of the handle and the third bad scan in motion, after a computed period (R65; section 3.7). -/
theorem test_handle_and_desk_raised :
    (after (.scanArrivalEnd ⟨[0, 0, 0, 5, 0, 0, 5], false⟩) ((inMode .service).withDci
      { exchangeOpen := true, state := .ok, heldKey := true, image := 1 })).rsl =
        [modeHoldAtPowerOn, ⟨.handle, 0, .emergency false, 0⟩] ∧
    (after (.scanArrivalEnd ⟨[], false⟩) ((scanning .service .ok 2 0).withTdu { speed := some ⟨240, 240⟩, computed := true })).rsl =
        [modeHoldAtPowerOn, ⟨.desk, 0, .emergency false, 0⟩] := by decide

/-- The four cases of a scan expiry in LOST: never raised, to escalate, and the two that stay; and a mode that
raises nothing. -/
theorem witness_ScanExpiry_desk :
    (inMode .service).dci.state = .lost ∧ (inMode .service).mcr.mode.active = true ∧ (inMode .service).dci.raised = none ∧
      (∀ k ∈ [DeskKind.hold, .emergency], ((inMode .holdPending).withDci { raised := some k }).dci.raised = some k) ∧
      (inMode .starting).mcr.mode.active = false := by decide
/-- No lamp test, in OK and in LOST, in a mode with lamps of its own that the expiry keeps. -/
theorem witness_ScanExpiry_lamps :
    (∀ m ∈ [Mode.starting, .configure, .service, .hold, .step], (inMode m).dci.image.getLsbD 15 = false ∧
      (after .scanTimerExpiry (inMode m)).dci.state = .lost ∧ (inMode m).mcr.mode ≠ .standby ∧ (inMode m).mcr.mode ≠ .failed ∧
      (after .scanTimerExpiry (inMode m)).mcr.mode = (inMode m).mcr.mode) ∧ 16 ≤ 16 := by decide
/-- STOP_REQ, JN_FAIL, VIGIL, HOLD and LINE_FAULT: lamps 0, 5, 10, 12 and 14 (R47, R210). -/
theorem test_lamps :
    (after .scanTimerExpiry ((((headed .unconfirmed).withSru { list := [⟨1, .normal, 0⟩] }).withTdu { vigil := 2500 }).withDci
      { state := .ok })).dci.lamps = 0x5421 := by decide

/-! ### Witnesses: a period's stages -/

/-- The desk's direction of each pair of levels. -/
theorem witness_NoPowerUnderRestriction_desk : ∀ f ∈ [true, false], ∀ r ∈ [true, false],
    let desk : Direction := if f && !r then .fwd else if r && !f then .rev else .neutral
    (desk = .fwd ↔ f = true ∧ r = false) ∧ (desk = .rev ↔ f = false ∧ r = true) := by decide

/-- A unit's axle at a speed, the handle and the directions, in SERVICE with the key on. -/
def driving (v handle : Nat) (held : Direction) (fwd rev : Bool) : State :=
  ((keyed (inMode .service)).withTdu
    { allocActive := ⟨[⟨true, 4, 400, some 0, some 1⟩, {}, {}, {}], true⟩, held := held, lastTravel := some .fwd
      inputs := ⟨handle, false, false, fwd, rev⟩ }).withSgt { slots := [freshSlot (nat2 v), freshSlot (0 :: nat2 500)] }

/-- Standstill with a reversal asked, and motion with a change refused; the handle at the dead band and beyond. -/
theorem witness_NoPowerUnderRestriction_direction :
    ((after .controlPeriod (driving 3 20 .neutral false true)).tdu.record.any fun r =>
      decide (r.speed = some ⟨3, 3⟩) && decide (r.held = .rev) && decide (r.handle ≤ 20)) = true ∧
    ((after .controlPeriod (driving 4 21 .fwd false true)).tdu.record.any fun r =>
      decide (r.speed = some ⟨4, 4⟩) && decide (r.held = .fwd) && decide (20 < r.handle)) = true ∧
    (driving 4 21 .fwd false true).tdu.prevDesk = .neutral ∧ (driving 4 21 .fwd false true).tdu.items.deadBand = 20 := by
  decide

/-- Power below a cap of 250 in the period that trips the vigilance. -/
def tripping : State :=
  let s := driving 100 1000 .fwd true false
  (s.withTdu { s.tdu with
    curveActive := ⟨workedLimb, workedLimb, true⟩
    slips := [{}, {}, {}, {}]
    eCmd := 120
    vigil := 4980 }).withRsl [⟨.junction, 731, .cap 250, 0⟩]

/-- A positive share with a CAP in the list, and an EMERGENCY in the list when the next period's frame is made. -/
theorem witness_NoPowerUnderRestriction_frame :
    (tripping.startPeriod.computePeriod.1.publishSetpoint.tdu.record.any fun r =>
      r.units.any fun u => decide (0 < u.published)) = true ∧
    tripping.startPeriod.computePeriod.1.publishSetpoint.rsl = tripping.rsl ∧
    (∃ e ∈ (after .controlPeriod tripping).startPeriod.computePeriod.1.publishSetpoint.rsl, ∃ l, e.kind = .emergency l) := by
  decide
/-- The frame of the tripping period carries power and is made before the raise; the next period's carries none
(R63, R73). -/
theorem test_tripping_frame_before_raise :
    let t := after .controlPeriod tripping
    let u := after .controlPeriod t
    standsAs t.rsl .vigil (.emergency false) ∧ (t.tdu.record.map (·.emergency)) = some false ∧
      (u.tdu.record.map (·.emergency)) = some true ∧
      (u.tdu.record.any fun r => r.units.all fun x => decide (x.published ≤ 0)) = true := by decide

/-- The brake's slot FRESH with the healthy bit set and clear, and a mark that agrees or does not. -/
def braking (healthy : Bool) (mark : Bool) : State :=
  let s := driving 100 0 .fwd true false
  ((s.withSgt
    { slots := [freshSlot (nat2 100), freshSlot (0 :: nat2 500), freshSlot [if healthy then 1 else 0]]
      brakeSlot := some 2 }).withTdu { s.tdu with marks := { brake := mark } }).withRsl
        (if mark then [⟨.brake, 0, .cap 250, 0⟩] else [])

theorem witness_NoPowerUnderRestriction_brake : ∀ healthy ∈ [true, false], ∀ mark ∈ [true, false],
    let s := braking healthy mark
    let u := (s.withTdu { s.tdu with periodLeft := 20, periodCount := s.tdu.periodCount + 1 }).bumpFree
    (s.sgt.slot 2).state = .fresh ∧ u.slotBytes 2 1 = [if healthy then 1 else 0] ∧ s.dci.heldKey = true ∧ s.Distinct ∧
      s.KeysZero ∧ s.tdu.marks.brake = mark ∧ (findRestriction s.rsl .brake 0).isSome = mark ∧
      (∀ e ∈ s.rsl, e = ⟨.brake, 0, .cap 250, 0⟩) := by decide
theorem witness_onlyCap : onlyCap (braking true true).rsl .brake := by
  intro e h _
  exact ⟨250, by rw [List.mem_singleton.mp h]⟩
/-- An unhealthy brake caps the period at 250, and BRAKE goes when it is healthy again (R60). -/
theorem test_brake_raised_and_lifted :
    (after .controlPeriod (braking false false)).tdu.record.map (·.cap) = some 250 ∧
      (after .controlPeriod (braking true true)).rsl = [] := by decide

/-- No weight and weight 4, with the mark of UNITS_LOST set and clear. -/
def losing (weight : Nat) (mark : Bool) : State :=
  ((keyed (inMode .service)).withTdu
    { allocActive := ⟨[⟨true, weight, 400, none, some 1⟩, {}, {}, {}], true⟩, marks := { unitsLost := mark } }).withSgt
      { slots := [freshSlot [], freshSlot (0 :: nat2 500)] } |>.withRsl (if mark then [⟨.unitsLost, 0, .hold, 0⟩] else [])

theorem witness_NoPowerUnderRestriction_units : ∀ weight ∈ [0, 1], ∀ mark ∈ [true, false],
    let s := losing weight mark
    s.dci.heldKey = true ∧ (after .controlPeriod s).tdu.record.map (·.weight) = some weight ∧ s.tdu.marks.unitsLost = mark ∧
      s.Distinct ∧ s.KeysZero ∧ onlyHold s.rsl .unitsLost ∧ (findRestriction s.rsl .unitsLost 0).isSome = mark := by decide

/-- Slots FRESH, STALE, absent and too short, for an axle at 1501. -/
theorem witness_SpeedAndOdometer_slots :
    let s := (inMode .service).withSgt { slots := [freshSlot (nat2 1501), ⟨[5, 0xDD], none, .stale, 0, 30, 0⟩] }
    2 ≤ (s.sgt.slot 0).value.length ∧ s.slotBytes 0 2 = [5, 0xDD] ∧ (s.sgt.slot 0).state = .fresh ∧
      (s.sgt.slot 1).state ≠ .fresh ∧ s.axleSpeed ⟨true, 1, 400, some 0, none⟩ = some 1500 ∧
      s.slotBytes 0 3 ≠ [] := by decide
/-- The speed lost and found, with the mark clear and set, in a mode that evaluates it. -/
theorem witness_SpeedAndOdometer_lost : ∀ mark ∈ [true, false],
    let l : List Restriction := if mark then [⟨.speedLost, 0, .hold, 0⟩] else []
    let s := ((keyed (inMode .configure)).withTdu { marks := { speedLost := mark } }).withRsl l
    s.dci.heldKey = true ∧ (after .controlPeriod s).tdu.speed = none ∧ s.Distinct ∧ s.KeysZero ∧ onlyHold s.rsl .speedLost ∧
      (findRestriction s.rsl .speedLost 0).isSome = mark := by decide
theorem witness_SpeedAndOdometer_found : ∀ mark ∈ [true, false],
    let l : List Restriction := if mark then [⟨.speedLost, 0, .hold, 0⟩] else []
    let s := ((driving 4 0 .fwd true false).withTdu { (driving 4 0 .fwd true false).tdu with
      marks := { speedLost := mark } }).withRsl l
    s.mcr.mode = .service ∧ (after .controlPeriod s).tdu.speed = some ⟨4, 4⟩ ∧ s.tdu.marks.speedLost = mark ∧ s.Distinct ∧
      s.KeysZero ∧ onlyHold s.rsl .speedLost := by decide

/-- A unit with an axle speed. -/
def seen (a : Nat) : UnitView := { unit 4 true with axle := some a }

/-- At v_min 100 and the threshold 20, 120 is clean and 121 slips; at v 100, 80 is clean and 79 slides; every step
of the factor down, and up at the tenth clean period (R71). -/
theorem test_slip_steps :
    let run (cmd : Int) (a : Nat) (slips : List UnitSlip) :=
      (allocateUnits {} (some ⟨100, 100⟩) cmd false [seen a, seen a, seen a, seen a] slips).map (·.2)
    run 100 121 [⟨100, 0⟩, ⟨75, 9⟩, ⟨50, 3⟩, ⟨25, 1⟩] = [⟨75, 0⟩, ⟨50, 0⟩, ⟨25, 0⟩, ⟨25, 0⟩] ∧
    run (-100) 79 [⟨100, 0⟩, ⟨75, 9⟩, ⟨50, 3⟩, ⟨25, 1⟩] = [⟨75, 0⟩, ⟨50, 0⟩, ⟨25, 0⟩, ⟨25, 0⟩] ∧
    run 100 120 [⟨100, 0⟩, ⟨75, 9⟩, ⟨50, 9⟩, ⟨25, 8⟩] = [⟨100, 0⟩, ⟨100, 0⟩, ⟨75, 0⟩, ⟨25, 9⟩] ∧
    run (-100) 80 [⟨100, 0⟩, ⟨75, 8⟩, ⟨50, 0⟩, ⟨25, 9⟩] = [⟨100, 0⟩, ⟨75, 9⟩, ⟨50, 1⟩, ⟨50, 0⟩] := by decide
/-- A slip, a clean period at the threshold, and a unit that is not tested, each in its place of the four. -/
theorem witness_DemandIsDelivered_slip :
    let us := [seen 121, seen 120, unit 4 true, seen 79]
    let slips : List UnitSlip := [{}, ⟨75, 9⟩, ⟨25, 8⟩, ⟨50, 0⟩]
    us.length = 4 ∧ slips.length = 4 ∧ (∀ x ∈ slips, x.factor ≤ 100) ∧ us[0]? = some (seen 121) ∧ us[2]? = some (unit 4 true) ∧
      (seen 121).entry.present = true ∧ (seen 121).axle = some 121 ∧ (unit 4 true).axle = none ∧
      (0 < (100 : Int) ∧ 100 + ({} : TractionItems).slipThreshold < 121) ∧ 120 ≤ 100 + ({} : TractionItems).slipThreshold ∧
      ((-100 : Int) < 0 ∧ 79 + ({} : TractionItems).slipThreshold < 100) ∧ 100 ≤ 80 + ({} : TractionItems).slipThreshold := by
  decide

/-! ### Witnesses: slot events, stops and records -/

theorem witness_WindowsDecideFrames_event :
    let f := processFrame 0x400 (List.replicate 8 0)
    f.payload.length ≤ 8 ∧ ((inMode .service).sgt.slot 0).state ≠ .stale := by decide
theorem witness_AgeTick_alone :
    let s := (inMode .service).withSgt { slots := [⟨[], none, .fresh, 29, 30, 0⟩] }
    s.sgt.slots[0]? = some ⟨[], none, .fresh, 29, 30, 0⟩ ∧ 30 ≤ min 255 (29 + 1) ∧
      ∀ (j : Nat) (y : Slot), j < 0 → s.sgt.slots[j]? = some y → y.state = .fresh → min 255 (y.age + 1) < y.limit :=
  ⟨rfl, by decide, fun _ _ h => absurd h (Nat.not_lt_zero _)⟩

/-- The retry counter one below its wrap and at it. -/
theorem witness_RequestsAreRetried_counter :
    (∀ n : Half, ((inMode .service).withTlk { retry := n }).tlk.retry = n) ∧ (0xFFFE : Half) ≠ 0xFFFF :=
  ⟨fun _ => rfl, by decide⟩

/-- First entries of each kind: source 0 NORMAL into an empty list, source 31 ASSIST, and what follows. -/
theorem witness_ButtonsRegisterOnce_first :
    let s := (inMode .service).withSru { sources := ⟨true, .normal⟩ :: List.replicate 31 ⟨true, .assist⟩ }
    s.mcr.mode.active = true ∧ s.sru.door ≠ .released ∧ s.sru.sources.length = 32 ∧ s.sru.sources[0]? = some ⟨true, .normal⟩ ∧
      s.sru.sources[31]? = some ⟨true, .assist⟩ ∧ s.sru.list = [] ∧ s.sru.armed.getLsbD 0 = true ∧
      s.sru.armed.getLsbD 31 = true ∧ (∀ x ∈ s.sru.list, x.source ≠ 31 ∧ x.kind ≠ .assist) := by decide
theorem witness_ButtonsRegisterOnce_later :
    buttons.sru.list ≠ [] ∧ (∃ x ∈ buttons.sru.list, x.source = 1) ∧ (∀ x ∈ buttons.sru.list, x.source ≠ 31) ∧
      ∃ x ∈ (buttons.withSru { buttons.sru with list := [⟨3, .assist, 0⟩] }).sru.list, x.kind = .assist := by decide
theorem witness_ButtonsRegisterOnce_unregistered :
    ((inMode .hold).withSru { door := .released }).mcr.mode.active = true ∧
      ((inMode .hold).withSru { door := .released }).sru.door = .released ∧ (inMode .standby).mcr.mode.active = false := by decide

/-- The stop buttons at slot 0 and the door summary at slot 1, FRESH or not. -/
def bound (st : SlotState) (door : Byte) (d : DoorState) : State :=
  ((inMode .service).withSgt
    { slots := [⟨[0, 0, 0, 1], none, st, 0, 30, 0⟩, ⟨[door], none, st, 0, 30, 0⟩], stopSlot := some 0
      doorSlot := some 1 }).withSru { door := d }

theorem witness_ButtonsRegisterOnce_events : ∀ st ∈ [SlotState.fresh, .stale], ∀ door ∈ ([3, 1, 7] : List Byte),
    let s := bound st door .closing
    s.sgt.stopSlot = some 0 ∧ s.sgt.doorSlot ≠ some 0 ∧ s.sgt.doorSlot = some 1 ∧ s.sgt.stopSlot ≠ some 1 ∧
      s.slotBytes 0 4 = [0, 0, 0, 1] ∧ s.slotBytes 1 1 = [door] ∧ (s.sgt.slot 1).state = st ∧ s.sru.door = .closing ∧
      s.sgt.doorSlot ≠ some 2 ∧ s.sgt.stopSlot ≠ some 2 := by decide
/-- Doors reported closed and locked complete CLOSING; an open side, or a lock bit off, does not (R33, R153). -/
theorem test_door_summary :
    (([3, 1, 7, 0x0B, 2] : List Byte).map fun b => ((bound .fresh b .closing).slotEvent 1).sru.door) =
      [.closedLocked, .closing, .closing, .closing, .closing] := by decide
/-- Steps 6 and 7 of the worked stop: with the doors RELEASED the armed flags follow the inputs (section 8.7). -/
theorem test_released_buttons :
    let s := (inMode .service).withSru { door := .released, armed := 0, sources := List.replicate 4 ⟨true, .normal⟩ }
    (s.stopButtons 4).sru.armed = 0xFFFFFFFB ∧ ((s.stopButtons 4).stopButtons 5).sru.armed = 0xFFFFFFFA ∧
      ((s.stopButtons 4).stopButtons 5).sru.list = [] := by decide
theorem witness_ButtonsRegisterOnce_doors : ∀ mark ∈ [true, false], ∀ view ∈ [none, some (⟨true, true⟩ : DoorView)],
    let s := (inMode .configure).withSru { mark := mark, view := view }
    let calls := decide (s.sru.view ≠ some ⟨true, true⟩)
    s.mcr.mode.active = true ∧ s.sru.mark = mark ∧ (calls = true ↔ s.sru.door ≠ .closedLocked ∨ s.sru.view ≠ some ⟨true, true⟩) := by
  decide

/-- A junction's record by its bytes (R126, R207): id 9, no entry, L, TABLE, REQUESTING, one attempt, seq 42. -/
theorem test_junction_record :
    (transaction 9 .requesting).record = [0, 9, 255, 0, 0, 1, 1, 0, 42, 0, 0, 0, 0, 0, 0, 0, 200] := by decide
theorem witness_ReadsAnswer_records :
    0x0710 = 0x0710 ∧ Channel.horn = .horn ∧ (sounding 1 3).ssq.channel .chime ≠ {} ∧
      workedPeriod.tdu.units[2]? = some ⟨true, 2, 200, some 2, some 5⟩ ∧ 127 < 128 := by decide

end Sys2Proof.Tests
end

section
/-! SUPPORT. The operations of a line port (chapter 1): what each does to the frames it has still to send, to its
counters and to the rest of the port. -/

namespace Sys2Proof.Machine

/-! ### A frame starts, a frame is appended (R4, R12, R14) -/

/-- The start of a transmission moves the front frame out of the queue, or changes nothing (R14). -/
theorem LinePort.startIfReady_cases (p : LinePort) :
    p.startIfReady = p ∨ ∃ e rest, p.egress = e :: rest ∧ p.inFlight = none ∧
      p.startIfReady = { p with inFlight := some e, egress := rest } := by
  unfold LinePort.startIfReady
  split
  · exact .inr ⟨_, _, by assumption, by assumption, rfl⟩
  · exact .inl rfl

theorem LinePort.startIfReady_eq_of_ready {p : LinePort} {e : Entry} {rest : List Entry} (hl : p.link = .up)
    (hf : p.inFlight = none) (hm : p.marker = false) (he : p.egress = e :: rest) :
    p.startIfReady = { p with inFlight := some e, egress := rest } := by
  simp [LinePort.startIfReady, hl, hf, hm, he]

@[simp] theorem LinePort.startIfReady_counters (p : LinePort) : p.startIfReady.counters = p.counters := by
  obtain h | ⟨e, rest, -, -, h⟩ := p.startIfReady_cases <;> rw [h]

theorem LinePort.startIfReady_length_le (p : LinePort) : p.startIfReady.egress.length ≤ p.egress.length := by
  obtain h | ⟨e, rest, he, -, h⟩ := p.startIfReady_cases
  · rw [h]
  · simp [h, he]

/-- A start touches the queue and the frame in flight alone. -/
theorem LinePort.startIfReady_frame (p : LinePort) :
    p.startIfReady = { p with egress := p.startIfReady.egress, inFlight := p.startIfReady.inFlight } := by
  obtain h | ⟨e, rest, -, -, h⟩ := p.startIfReady_cases <;> rw [h]

/-- An append touches the queue, the frame in flight and the idle timer, which it stops. -/
theorem LinePort.append_frame (p : LinePort) (e : Entry) :
    p.append e =
      { p with egress := (p.append e).egress, inFlight := (p.append e).inFlight, idleLeft := none } :=
  LinePort.startIfReady_frame _

@[simp] theorem LinePort.append_toSend (p : LinePort) (e : Entry) : (p.append e).toSend = p.toSend ++ [e] := by
  rw [LinePort.append, LinePort.startIfReady_toSend]
  simp [LinePort.toSend]

@[simp] theorem LinePort.append_counters (p : LinePort) (e : Entry) : (p.append e).counters = p.counters := by
  rw [LinePort.append_frame]

@[simp] theorem LinePort.append_idleLeft (p : LinePort) (e : Entry) : (p.append e).idleLeft = none := by
  rw [LinePort.append_frame]

theorem LinePort.append_length_le (p : LinePort) (e : Entry) : (p.append e).egress.length ≤ p.egress.length + 1 := by
  simpa [LinePort.append] using LinePort.startIfReady_length_le { p with egress := p.egress ++ [e], idleLeft := none }

/-- The restart of the idle timer touches that timer alone. -/
theorem LinePort.restartIdle_frame (p : LinePort) : p.restartIdle = { p with idleLeft := p.restartIdle.idleLeft } := by
  unfold LinePort.restartIdle
  split <;> rfl

/-! ### A frame is presented (R12, R13, R15) -/

theorem LinePort.presentForward_of_down {p : LinePort} (f : Frame) (h : p.link = .down) :
    p.presentForward f = (p.countDiscard, false) := by
  simp [LinePort.presentForward, h]

theorem LinePort.presentForward_of_room {p : LinePort} (f : Frame) (h : p.hasRoom) :
    p.presentForward f = (p.append ⟨f, .forward⟩, false) := by
  simp [LinePort.presentForward, h.1, Config.egressPlaces, h.2]

theorem LinePort.presentForward_of_full {p : LinePort} (f : Frame) (hl : p.link = .up) (h : 8 ≤ p.egress.length) :
    p.presentForward f = (p.countFwdDrop, true) := by
  simp [LinePort.presentForward, hl, Config.egressPlaces, Nat.not_lt.mpr h]

/-- An own frame that replaces none is appended where there is a place (R13). -/
theorem LinePort.presentOwn_of_room {p : LinePort} {f : Frame} (h : p.hasRoom)
    (hr : ∀ y ∈ p.egress, y.replacedBy f = false) : p.presentOwn f = (p.append ⟨f, .own⟩, false, false) := by
  have hany : ¬ p.egress.any (·.replacedBy f) = true := by simpa using hr
  simp only [LinePort.presentOwn, h.1, if_neg hany, Config.egressPlaces, if_pos h.2]

/-- Only an own PROCESS frame replaces an entry (R13). -/
theorem Entry.replacedBy_eq_false (e : Entry) {f : Frame} (h : f.kind ≠ .process) : e.replacedBy f = false := by
  simp [Entry.replacedBy, h]

/-- An own frame of another kind than PROCESS is appended where there is a place (R13). -/
theorem LinePort.presentOwn_of_room_of_kind {p : LinePort} {f : Frame} (h : p.hasRoom) (hk : f.kind ≠ .process) :
    p.presentOwn f = (p.append ⟨f, .own⟩, false, false) :=
  LinePort.presentOwn_of_room h fun y _ => y.replacedBy_eq_false hk

/-- The first entry that satisfies `q`, with what stands before it, is what the replacement takes out. -/
theorem replaceFirst_append_cons {α : Type} {q : α → Bool} (x : α) {y : α} (hy : q y = true) (l2 : List α) :
    ∀ {l1 : List α}, (∀ z ∈ l1, q z = false) → replaceFirst q x (l1 ++ y :: l2) = l1 ++ x :: l2
  | [], _ => by simp [replaceFirst, hy]
  | z :: l1, h => by
    obtain ⟨hz, h1⟩ := List.forall_mem_cons.mp h
    simp [replaceFirst, hz, replaceFirst_append_cons x hy l2 h1]

@[simp] theorem length_replaceFirst {α : Type} (q : α → Bool) (x : α) :
    ∀ l : List α, (replaceFirst q x l).length = l.length
  | [] => rfl
  | y :: ys => by
    unfold replaceFirst
    split <;> simp [length_replaceFirst]

/-- What the replacement takes out satisfies `q`: any other element stays. -/
theorem mem_replaceFirst_of_mem {α : Type} {q : α → Bool} (x : α) {z : α} (hz : q z = false) :
    ∀ {l : List α}, z ∈ l → z ∈ replaceFirst q x l
  | y :: ys, h => by
    unfold replaceFirst
    obtain rfl | h := List.mem_cons.mp h
    · simp [hz]
    · split
      · exact List.mem_cons_of_mem _ h
      · exact List.mem_cons_of_mem _ (mem_replaceFirst_of_mem x hz h)

/-- A full queue gives up its oldest forwarded frame for an own frame (R13). -/
theorem LinePort.presentOwn_of_forward {p : LinePort} {f : Frame} (hl : p.link = .up) (h : 8 ≤ p.egress.length)
    (hr : ∀ y ∈ p.egress, y.replacedBy f = false) (hf : ∃ y ∈ p.egress, y.origin = .forward) :
    p.presentOwn f =
      (LinePort.append { p with egress := p.egress.eraseP (fun e => e.origin == Origin.forward) }.countFwdDrop ⟨f, .own⟩,
        true, false) := by
  have hany : ¬ p.egress.any (·.replacedBy f) = true := by simpa using hr
  have hfwd : p.egress.any (fun e => e.origin == Origin.forward) = true := by simpa using hf
  simp only [LinePort.presentOwn, hl, if_neg hany, Config.egressPlaces, if_neg (Nat.not_lt.mpr h), if_pos hfwd]

/-- A full queue of own frames alone drops an own frame (R13). -/
theorem LinePort.presentOwn_of_own {p : LinePort} {f : Frame} (hl : p.link = .up) (h : 8 ≤ p.egress.length)
    (hr : ∀ y ∈ p.egress, y.replacedBy f = false) (hf : ∀ y ∈ p.egress, y.origin = .own) :
    p.presentOwn f = (p.countOwnDrop, false, true) := by
  have hany : ¬ p.egress.any (·.replacedBy f) = true := by simpa using hr
  have hfwd : ¬ p.egress.any (fun e => e.origin == Origin.forward) = true := by
    simpa using fun y hy => by simp [hf y hy]
  simp only [LinePort.presentOwn, hl, if_neg hany, Config.egressPlaces, if_neg (Nat.not_lt.mpr h), if_neg hfwd]

/-! ### What presenting keeps of a port -/

/-- From `x` to `y` a port has been given frames to send: its egress side and its drop counters may differ, its queue
keeps within its places (R12), and an own frame of another kind than PROCESS that waits goes on waiting (R13). -/
structure LinePort.Sends (x y : LinePort) : Prop where
  link : y.link = x.link
  ingress : y.ingress = x.ingress
  seen : y.seen = x.seen
  handed : y.handed = x.handed
  loop : y.counters.loop = x.counters.loop
  places : x.egress.length ≤ 8 → y.egress.length ≤ 8
  kept : ∀ f : Frame, f.kind ≠ .process → ⟨f, .own⟩ ∈ x.toSend → ⟨f, .own⟩ ∈ y.toSend

theorem LinePort.Sends.refl (x : LinePort) : x.Sends x := ⟨rfl, rfl, rfl, rfl, rfl, id, fun _ _ => id⟩

theorem LinePort.Sends.trans {x y z : LinePort} (h : x.Sends y) (k : y.Sends z) : x.Sends z where
  link := k.link.trans h.link
  ingress := k.ingress.trans h.ingress
  seen := k.seen.trans h.seen
  handed := k.handed.trans h.handed
  loop := k.loop.trans h.loop
  places := fun hx => k.places (h.places hx)
  kept := fun f hf hx => k.kept f hf (h.kept f hf hx)

theorem LinePort.sends_countDiscard (p : LinePort) : p.Sends p.countDiscard :=
  ⟨rfl, rfl, rfl, rfl, rfl, id, fun _ _ => id⟩
theorem LinePort.sends_countFwdDrop (p : LinePort) : p.Sends p.countFwdDrop :=
  ⟨rfl, rfl, rfl, rfl, rfl, id, fun _ _ => id⟩
theorem LinePort.sends_countOwnDrop (p : LinePort) : p.Sends p.countOwnDrop :=
  ⟨rfl, rfl, rfl, rfl, rfl, id, fun _ _ => id⟩

/-- An append where the queue has a place, as long as it kept within its places before. -/
theorem LinePort.Sends.append {x y : LinePort} (h : x.Sends y) (e : Entry)
    (hlt : x.egress.length ≤ 8 → y.egress.length < 8) : x.Sends (y.append e) where
  link := by rw [LinePort.append_frame]; exact h.link
  ingress := by rw [LinePort.append_frame]; exact h.ingress
  seen := by rw [LinePort.append_frame]; exact h.seen
  handed := by rw [LinePort.append_frame]; exact h.handed
  loop := by rw [LinePort.append_counters]; exact h.loop
  places := fun hx => (y.append_length_le e).trans (hlt hx)
  kept := fun f hk hf => by simp [h.kept f hk hf]

/-- The oldest forwarded frame leaves the queue: no own frame does. -/
theorem LinePort.sends_dropForward (p : LinePort) :
    p.Sends { p with egress := p.egress.eraseP (fun e => e.origin == Origin.forward) } where
  link := rfl
  ingress := rfl
  seen := rfl
  handed := rfl
  loop := rfl
  places := List.length_eraseP_le.trans
  kept := fun f _ hf => by
    simp only [LinePort.toSend, List.mem_append] at hf ⊢
    exact hf.imp_right fun h => (List.mem_eraseP_of_neg (by simp)).mpr h

theorem LinePort.sends_presentForward (p : LinePort) (f : Frame) : p.Sends (p.presentForward f).1 := by
  unfold LinePort.presentForward
  split
  · exact p.sends_countDiscard
  · split
    · exact (LinePort.Sends.refl p).append _ fun _ => ‹_›
    · exact p.sends_countFwdDrop

theorem LinePort.sends_presentOwn (p : LinePort) (f : Frame) : p.Sends (p.presentOwn f).1 := by
  unfold LinePort.presentOwn
  split
  · exact p.sends_countDiscard
  · split
    · refine ⟨rfl, rfl, rfl, rfl, rfl, by simp, fun g hg hmem => ?_⟩
      simp only [LinePort.toSend, List.mem_append] at hmem ⊢
      have hq : Entry.replacedBy ⟨g, .own⟩ f = false := by simp [Entry.replacedBy, hg]
      exact hmem.imp_right fun h => mem_replaceFirst_of_mem (q := (·.replacedBy f)) _ hq h
    · split
      · exact (LinePort.Sends.refl p).append _ fun _ => ‹_›
      · split
        · rename_i hfull hany
          obtain ⟨y, hy, hyf⟩ := List.any_eq_true.mp hany
          have hlen := List.length_eraseP_of_mem (p := fun e : Entry => e.origin == Origin.forward) hy hyf
          refine (p.sends_dropForward.trans (LinePort.sends_countFwdDrop _)).append _ fun hx => ?_
          change (p.egress.eraseP _).length < 8
          have hpos := List.length_pos_of_mem hy
          omega
        · exact p.sends_countOwnDrop

end Sys2Proof.Machine
end

section
/-! SUPPORT. Setting a flag and sending an own frame, seen from the ports: the relation of LinePort.Sends for both
ports, and the cases in which a flag sends no frame. -/

namespace Sys2Proof.Machine

variable {s t u : State}

/-! ### What sending keeps of the whole part -/

/-- From `s` to `t` frames have been sent and flags set, and nothing else has happened. -/
structure State.Sends (s t : State) : Prop where
  same : s.sameButSent t
  port : ∀ p, (s.port p).Sends (t.port p)
  flags : s.flagsKept t

theorem State.flagsKept_iff : s.flagsKept t ↔ ∀ n, s.efn.flags.getLsbD n = true → t.efn.flags.getLsbD n = true := by
  rw [State.flagsKept, BitVec.eq_of_getLsbD_eq_iff]
  constructor
  · intro h n hn
    simpa [hn] using h n (BitVec.lt_of_getLsbD hn)
  · intro h n _
    simpa using h n

theorem State.Sends.refl (s : State) : s.Sends s :=
  ⟨s.sameButSent_refl, fun _ => LinePort.Sends.refl _, BitVec.and_self⟩

theorem State.Sends.trans (h : s.Sends t) (k : t.Sends u) : s.Sends u where
  same := h.same.trans k.same
  port := fun p => (h.port p).trans (k.port p)
  flags := State.flagsKept_iff.mpr fun n hn => State.flagsKept_iff.mp k.flags n (State.flagsKept_iff.mp h.flags n hn)

/-- Setting a flag keeps the flags that are set (R187). -/
theorem State.sends_withEfn_set (s : State) (f : Flag) : s.Sends (s.withEfn (s.efn.set f)) :=
  ⟨rfl, fun _ => LinePort.Sends.refl _, State.flagsKept_iff.mpr fun n hn => by simp [Notifier.set, hn]⟩

theorem LineBlock.presentOwn_port_sends (l : LineBlock) (r : Route) (f : Frame) (p : Line) :
    (l.port p).Sends ((l.presentOwn r f).1.port p) := by
  cases r with
  | both => cases p <;> exact LinePort.sends_presentOwn _ f
  | nowhere => cases p <;> exact LinePort.sends_countOwnDrop _
  | only q =>
    cases p <;> cases q
    · exact LinePort.sends_presentOwn _ f
    · exact LinePort.Sends.refl _
    · exact LinePort.Sends.refl _
    · exact LinePort.sends_presentOwn _ f

theorem State.sends_present (s : State) (k : Kind) (d : Byte) (i : Half) (b : List Byte) : s.Sends (s.present k d i b).1 := by
  refine ⟨s.present_sameButSent k d i b, fun p => ?_, ?_⟩
  · unfold State.present
    split
    · exact LinePort.Sends.refl _
    · cases p <;> exact LineBlock.presentOwn_port_sends s.line _ _ _
  · rw [State.present_eq]
    exact BitVec.and_self

/-- The drop flags that a presentation calls for, where setting a flag is a sending. -/
theorem State.sends_drops_of {n : Nat} (h : ∀ (f : Flag) (s : State), s.Sends (State.setFlagTo n f s)) (fd od : Bool)
    (x : State) :
    x.Sends (if od then State.setFlagTo n .ownDrop (if fd then State.setFlagTo n .fwdDrop x else x)
      else (if fd then State.setFlagTo n .fwdDrop x else x)) := by
  cases fd <;> cases od
  · exact State.Sends.refl _
  · exact h _ _
  · exact h _ _
  · exact (h _ _).trans (h _ _)

theorem State.sends_setFlagTo (n : Nat) : ∀ (f : Flag) (s : State), s.Sends (State.setFlagTo n f s) := by
  induction n with
  | zero => exact fun f s => s.sends_withEfn_set f
  | succ n ih =>
    intro f s
    rw [State.setFlagTo]
    split
    · exact (s.sends_withEfn_set f).trans ((State.sends_present _ .notify _ _ _).trans (State.sends_drops_of ih _ _ _))
    · exact s.sends_withEfn_set f

theorem State.sends_setFlag (s : State) (f : Flag) : s.Sends (s.setFlag f) := State.sends_setFlagTo 4 f s

theorem State.Sends.setFlag (h : s.Sends t) (f : Flag) : s.Sends (t.setFlag f) := h.trans (t.sends_setFlag f)

theorem State.sends_setDrops (s : State) (fd od : Bool) : s.Sends (s.setDrops fd od) := by
  cases fd <;> cases od
  · exact State.Sends.refl s
  · exact s.sends_setFlag _
  · exact s.sends_setFlag _
  · exact (s.sends_setFlag _).setFlag _

theorem State.sends_sendOwn (s : State) (k : Kind) (d : Byte) (i : Half) (b : List Byte) : s.Sends (s.sendOwn k d i b) :=
  (s.sends_present k d i b).trans (State.sends_setDrops _ _ _)

theorem State.sends_publish (s : State) (i : Half) (b : List Byte) : s.Sends (s.publish i b) := s.sends_sendOwn _ _ _ _

theorem State.sends_sendNotify (s : State) (c : Nat) : s.Sends (s.sendNotify c) := s.sends_sendOwn _ _ _ _

theorem State.sends_notifyAll (cs : List Nat) : ∀ s : State, s.Sends (s.notifyAll cs) := by
  induction cs with
  | nil => exact State.Sends.refl
  | cons c cs ih =>
    intro s
    refine State.Sends.trans ?_ (ih (if s.mayNotify c then s.sendNotify c else s))
    split
    · exact s.sends_sendNotify c
    · exact State.Sends.refl s

theorem State.sends_judgeChannels (s : State) (before : Notifier) : s.Sends (s.judgeChannels before) :=
  State.sends_notifyAll _ s

theorem State.sends_reportChannels (s : State) : s.Sends s.reportChannels := State.sends_notifyAll _ s

theorem State.sends_respond (s : State) (r : Request) (a : Answer) : s.Sends (s.respond r a) := s.sends_sendOwn _ _ _ _

theorem State.sends_sendStopDisplay (s : State) : s.Sends s.sendStopDisplay := s.sends_publish _ _

theorem State.sends_reportStops (s : State) (before : List StopEntry) : s.Sends (s.reportStops before) := by
  unfold State.reportStops
  split
  · exact State.Sends.refl s
  · exact s.sends_sendStopDisplay

/-! ### Ports replaced -/

@[simp] theorem State.withPort_withPort (s : State) (p : Line) (x y : LinePort) :
    (s.withPort p x).withPort p y = s.withPort p y := by cases p <;> rfl

/-- A replaced port's opposite is what it was. -/
@[simp] theorem State.port_withPort_otherPort (s : State) (p : Line) (x : LinePort) :
    (s.withPort (otherPort p) x).port p = s.port p := by cases p <;> rfl

/-- A forwarded frame goes to the other port, with FWD_DROP set where its queue drops it (R10, R12). -/
theorem State.forwardFrom_eq (s : State) (p : Line) (f : Frame) :
    s.forwardFrom p f =
      (s.withPort (otherPort p) ((s.port (otherPort p)).presentForward f).1).setDrops
        ((s.port (otherPort p)).presentForward f).2 false := rfl

end Sys2Proof.Machine
end

section
/-! SUPPORT. What every operation of the part keeps: the places of its queues, the sizes of its tables, and each
collection without repeats. One relation for each block, one for the whole part, and for each operation the lemma
that it stays within the relation. -/

namespace Sys2Proof.Machine

/-! ### The blocks -/

/-- A change of a port keeps its buffers within their places (R5, R12) and its seen set without repeats (R9). -/
structure LinePort.Keeps (x y : LinePort) : Prop where
  fits : x.Fits → y.Fits
  seen : x.seen.Nodup → y.seen.Nodup

/-- The traction unit's tables have their numbers of entries (R59, R68, R71). -/
def Traction.Shaped (t : Traction) : Prop :=
  t.curveActive.Shaped ∧ t.curveShadow.Shaped ∧ t.allocActive.units.length = 4 ∧ t.allocShadow.units.length = 4 ∧
    t.slips.length = 4

/-- The route unit's banks have their numbers of entries (R96). -/
def RouteUnit.Shaped (r : RouteUnit) : Prop := r.active.length = 48 ∧ r.shadow.length = 48

/-- The junction ids of a queue, in its order. -/
abbrev junctionIds (q : List Transaction) : List Half := q.map (·.junction)

/-- A change of the route unit keeps the queue within its places and without repeats (R102), and the banks' sizes. -/
structure RouteUnit.Keeps (r r' : RouteUnit) : Prop where
  places : r.queue.length ≤ 4 → r'.queue.length ≤ 4
  distinct : (junctionIds r.queue).Nodup → (junctionIds r'.queue).Nodup
  shaped : r.Shaped → r'.Shaped

/-- A change of the stop request unit keeps its list without repeats (R146) and the source table's size. -/
structure StopUnit.Keeps (u u' : StopUnit) : Prop where
  distinct : (u.list.map (·.source)).Nodup → (u'.list.map (·.source)).Nodup
  shaped : u.sources.length = 32 → u'.sources.length = 32

/-- A change of a sounder channel keeps its queue within its places, distinct and in order (R162, R164). -/
structure SoundChannel.Keeps (c c' : SoundChannel) : Prop where
  places : c.queue.length ≤ 4 → c'.queue.length ≤ 4
  ordered : c.Ordered → c'.Ordered

/-- A change of the sequencer keeps each channel, and the pattern table's size. -/
structure Sounder.Keeps (q q' : Sounder) : Prop where
  channel : ∀ ch, (q.channel ch).Keeps (q'.channel ch)
  shaped : q.patterns.length = 16 → q'.patterns.length = 16

/-- The identities of a restriction list, in its order. -/
abbrev identities (l : List Restriction) : List (Source × Half) := l.map Restriction.identity

theorem LinePort.Keeps.refl (x : LinePort) : x.Keeps x := ⟨id, id⟩
theorem RouteUnit.Keeps.refl (r : RouteUnit) : r.Keeps r := ⟨id, id, id⟩
theorem StopUnit.Keeps.refl (u : StopUnit) : u.Keeps u := ⟨id, id⟩
theorem SoundChannel.Keeps.refl (c : SoundChannel) : c.Keeps c := ⟨id, id⟩
theorem Sounder.Keeps.refl (q : Sounder) : q.Keeps q := ⟨fun _ => SoundChannel.Keeps.refl _, id⟩

theorem LinePort.Keeps.trans {x y z : LinePort} (h : x.Keeps y) (k : y.Keeps z) : x.Keeps z :=
  ⟨k.fits ∘ h.fits, k.seen ∘ h.seen⟩
theorem RouteUnit.Keeps.trans {x y z : RouteUnit} (h : x.Keeps y) (k : y.Keeps z) : x.Keeps z :=
  ⟨k.places ∘ h.places, k.distinct ∘ h.distinct, k.shaped ∘ h.shaped⟩
theorem StopUnit.Keeps.trans {x y z : StopUnit} (h : x.Keeps y) (k : y.Keeps z) : x.Keeps z :=
  ⟨k.distinct ∘ h.distinct, k.shaped ∘ h.shaped⟩
theorem SoundChannel.Keeps.trans {x y z : SoundChannel} (h : x.Keeps y) (k : y.Keeps z) : x.Keeps z :=
  ⟨k.places ∘ h.places, k.ordered ∘ h.ordered⟩
theorem Sounder.Keeps.trans {x y z : Sounder} (h : x.Keeps y) (k : y.Keeps z) : x.Keeps z :=
  ⟨fun ch => (h.channel ch).trans (k.channel ch), k.shaped ∘ h.shaped⟩

/-- Sending keeps a port's places and leaves its seen set. -/
theorem LinePort.Sends.keeps {x y : LinePort} (h : x.Sends y) : x.Keeps y :=
  ⟨fun ⟨hi, he⟩ => ⟨h.ingress ▸ hi, h.places he⟩, fun hs => h.seen ▸ hs⟩

/-! ### The whole part -/

/-- A change of the part keeps what each block keeps. Its node address stays, and while it has none nothing is handed
to the classifier (R1). -/
structure State.Keeps (s t : State) : Prop where
  port : ∀ p, (s.port p).Keeps (t.port p)
  address : t.mcr.address = s.mcr.address
  handed : s.mcr.address = none → ∀ p, (s.port p).handed = [] → (t.port p).handed = []
  requests : s.fcl.requests.length ≤ 4 → t.fcl.requests.length ≤ 4
  windows : s.fcl.windows.length = 16 → t.fcl.windows.length = 16
  slots : s.sgt.slots.length = 128 → t.sgt.slots.length = 128
  tdu : s.tdu.Shaped → t.tdu.Shaped
  rsl : (identities s.rsl).Nodup → (identities t.rsl).Nodup
  rtu : s.rtu.Keeps t.rtu
  sru : s.sru.Keeps t.sru
  ssq : s.ssq.Keeps t.ssq
  channels : s.efn.channels.length = 4 → t.efn.channels.length = 4

variable {s t u : State}

theorem State.Keeps.refl (s : State) : s.Keeps s :=
  ⟨fun _ => LinePort.Keeps.refl _, rfl, fun _ _ => id, id, id, id, id, id, RouteUnit.Keeps.refl _, StopUnit.Keeps.refl _,
    Sounder.Keeps.refl _, id⟩

theorem State.Keeps.trans (h : s.Keeps t) (k : t.Keeps u) : s.Keeps u where
  port := fun p => (h.port p).trans (k.port p)
  address := k.address.trans h.address
  handed := fun ha p hp => k.handed (h.address.trans ha) p (h.handed ha p hp)
  requests := k.requests ∘ h.requests
  windows := k.windows ∘ h.windows
  slots := k.slots ∘ h.slots
  tdu := k.tdu ∘ h.tdu
  rsl := k.rsl ∘ h.rsl
  rtu := h.rtu.trans k.rtu
  sru := h.sru.trans k.sru
  ssq := h.ssq.trans k.ssq
  channels := k.channels ∘ h.channels

theorem State.Keeps.ite {c : Prop} {_ : Decidable c} (h : s.Keeps t) (k : s.Keeps u) : s.Keeps (if c then t else u) := by
  split
  · exact h
  · exact k

theorem State.Keeps.foldl {α : Type} {f : State → α → State} (hf : ∀ (u : State) x, u.Keeps (f u x)) :
    ∀ (l : List α) {t : State}, s.Keeps t → s.Keeps (l.foldl f t)
  | [], _, h => h
  | x :: l, t, h => State.Keeps.foldl hf l (h.trans (hf t x))

theorem State.Keeps.fits (h : s.Keeps t) (hs : s.Fits) : t.Fits := by
  obtain ⟨ha, hb, hq, hr, hh, hl, hc⟩ := hs
  exact ⟨(h.port .a).fits ha, (h.port .b).fits hb, h.requests hq, h.rtu.places hr, (h.ssq.channel .horn).places hh,
    (h.ssq.channel .bell).places hl, (h.ssq.channel .chime).places hc⟩

theorem State.Keeps.shaped (h : s.Keeps t) (hs : s.Shaped) : t.Shaped := by
  obtain ⟨hw, hl, hca, hcs, haa, has, hsl, hra, hrs, hso, hp, hc⟩ := hs
  obtain ⟨kca, kcs, kaa, kas, ksl⟩ := h.tdu ⟨hca, hcs, haa, has, hsl⟩
  obtain ⟨kra, krs⟩ := h.rtu.shaped ⟨hra, hrs⟩
  exact ⟨h.windows hw, h.slots hl, kca, kcs, kaa, kas, ksl, kra, krs, h.sru.shaped hso, h.ssq.shaped hp, h.channels hc⟩

theorem State.Keeps.distinct (h : s.Keeps t) (hs : s.Distinct) : t.Distinct := by
  obtain ⟨ha, hb, hl, hq, hu⟩ := hs
  exact ⟨(h.port .a).seen ha, (h.port .b).seen hb, h.rsl hl, h.rtu.distinct hq, h.sru.distinct hu⟩

theorem State.Keeps.soundOrdered (h : s.Keeps t) (hs : s.SoundOrdered) : t.SoundOrdered := by
  obtain ⟨hh, hl, hc⟩ := hs
  exact ⟨(h.ssq.channel .horn).ordered hh, (h.ssq.channel .bell).ordered hl, (h.ssq.channel .chime).ordered hc⟩

/-! ### One block replaced

Uses write the condition as `by exact …` where only the goal says what replaces the block: it is then elaborated last. -/

theorem State.Keeps.withPort (h : s.Keeps t) {p : Line} {x : LinePort} (hx : (t.port p).Keeps x)
    (hh : t.mcr.address = none → (t.port p).handed = [] → x.handed = []) : s.Keeps (t.withPort p x) :=
  h.trans { State.Keeps.refl t with
    port := fun q => by
      cases p <;> cases q
      · exact hx
      · exact LinePort.Keeps.refl _
      · exact LinePort.Keeps.refl _
      · exact hx
    handed := fun ha q => by
      cases p <;> cases q
      · exact hh ha
      · exact id
      · exact id
      · exact hh ha }

theorem State.Keeps.withFcl (h : s.Keeps t) {x : Classifier}
    (hr : t.fcl.requests.length ≤ 4 → x.requests.length ≤ 4)
    (hw : t.fcl.windows.length = 16 → x.windows.length = 16) : s.Keeps (t.withFcl x) :=
  h.trans { State.Keeps.refl t with requests := hr, windows := hw }

theorem State.Keeps.withSgt (h : s.Keeps t) {x : SignalTable}
    (hx : t.sgt.slots.length = 128 → x.slots.length = 128) : s.Keeps (t.withSgt x) :=
  h.trans { State.Keeps.refl t with slots := hx }

theorem State.Keeps.withDci (h : s.Keeps t) (x : Desk) : s.Keeps (t.withDci x) :=
  h.trans { State.Keeps.refl t with }

theorem State.Keeps.withTdu (h : s.Keeps t) {x : Traction} (hx : t.tdu.Shaped → x.Shaped) :
    s.Keeps (t.withTdu x) :=
  h.trans { State.Keeps.refl t with tdu := hx }

theorem State.Keeps.withRsl (h : s.Keeps t) {x : List Restriction}
    (hx : (identities t.rsl).Nodup → (identities x).Nodup) : s.Keeps (t.withRsl x) :=
  h.trans { State.Keeps.refl t with rsl := hx }

theorem State.Keeps.withRtu (h : s.Keeps t) {x : RouteUnit} (hx : t.rtu.Keeps x) :
    s.Keeps (t.withRtu x) :=
  h.trans { State.Keeps.refl t with rtu := hx }

theorem State.Keeps.withTlk (h : s.Keeps t) (x : TrackLink) : s.Keeps (t.withTlk x) :=
  h.trans { State.Keeps.refl t with }

theorem State.Keeps.withSru (h : s.Keeps t) {x : StopUnit} (hx : t.sru.Keeps x) :
    s.Keeps (t.withSru x) :=
  h.trans { State.Keeps.refl t with sru := hx }

theorem State.Keeps.withSsq (h : s.Keeps t) {x : Sounder} (hx : t.ssq.Keeps x) :
    s.Keeps (t.withSsq x) :=
  h.trans { State.Keeps.refl t with ssq := hx }

theorem State.Keeps.withEfn (h : s.Keeps t) {x : Notifier} (hx : t.efn.channels.length = 4 → x.channels.length = 4) :
    s.Keeps (t.withEfn x) :=
  h.trans { State.Keeps.refl t with channels := hx }

theorem State.Keeps.withMcr (h : s.Keeps t) {x : Control} (hx : x.address = t.mcr.address) :
    s.Keeps (t.withMcr x) :=
  h.trans { State.Keeps.refl t with address := hx, handed := fun _ _ => id }

theorem State.Keeps.withEnv (h : s.Keeps t) (x : Environment) : s.Keeps (t.withEnv x) :=
  h.trans { State.Keeps.refl t with }

theorem State.Keeps.withPending (h : s.Keeps t) (x : List Instr) : s.Keeps (t.withPending x) :=
  h.trans { State.Keeps.refl t with }

theorem State.Keeps.bumpFree (h : s.Keeps t) : s.Keeps t.bumpFree := h.withEnv _

/-! ### Frames sent, flags set -/

theorem State.Keeps.sends (h : s.Keeps t) (k : t.Sends u) : s.Keeps u :=
  h.trans
    { port := fun p => (k.port p).keeps
      address := by rw [k.same.mcr]
      handed := fun _ p hp => (k.port p).handed.trans hp
      requests := by rw [k.same.fcl]; exact id
      windows := by rw [k.same.fcl]; exact id
      slots := by rw [k.same.sgt]; exact id
      tdu := by rw [k.same.tdu]; exact id
      rsl := by rw [k.same.rsl]; exact id
      rtu := by rw [k.same.rtu]; exact RouteUnit.Keeps.refl _
      sru := by rw [k.same.sru]; exact StopUnit.Keeps.refl _
      ssq := by rw [k.same.ssq]; exact Sounder.Keeps.refl _
      channels := by rw [k.same.channels]; exact id }

theorem State.Keeps.setFlag (h : s.Keeps t) (f : Flag) : s.Keeps (t.setFlag f) := h.sends (t.sends_setFlag f)

theorem State.Keeps.setDrops (h : s.Keeps t) (fd od : Bool) : s.Keeps (t.setDrops fd od) := h.sends (t.sends_setDrops fd od)

theorem State.Keeps.respond (h : s.Keeps t) (r : Request) (a : Answer) : s.Keeps (t.respond r a) :=
  h.sends (t.sends_respond r a)

theorem State.Keeps.publish (h : s.Keeps t) (i : Half) (b : List Byte) : s.Keeps (t.publish i b) :=
  h.sends (t.sends_publish i b)

/-! ### Restrictions (R82, R84 to R88) -/

/-- A new element at the back leaves a list without repeats so (R82, R102, R146). -/
theorem nodup_map_concat {α β : Type} {f : α → β} {l : List α} {x : α} (h : (l.map f).Nodup) (hx : f x ∉ l.map f) :
    ((l ++ [x]).map f).Nodup := by
  rw [List.map_append]
  exact h.append (List.nodup_singleton _) (List.disjoint_singleton.mpr hx)

theorem identity_of_names {e : Restriction} {src : Source} {key : Half} (h : e.names src key = true) :
    e.identity = (src, key) := by
  simpa [Restriction.names, Restriction.identity, Prod.ext_iff] using h

/-- An entry of the same identity put in the place of the one found leaves the identities. -/
theorem identities_replaceFirst {src : Source} {key : Half} {x : Restriction} (hx : x.identity = (src, key)) :
    ∀ l : List Restriction, identities (replaceFirst (·.names src key) x l) = identities l
  | [] => rfl
  | e :: l => by
    unfold replaceFirst
    split
    · simp [hx, identity_of_names ‹_›]
    · simpa using identities_replaceFirst hx l

theorem findRestriction_identity {l : List Restriction} {src : Source} {key : Half} {e : Restriction}
    (h : findRestriction l src key = some e) : e.identity = (src, key) :=
  identity_of_names (List.find?_some (p := fun x : Restriction => x.names src key) h)

theorem not_mem_identities {l : List Restriction} {src : Source} {key : Half} (h : findRestriction l src key = none) :
    (src, key) ∉ identities l := by
  intro hmem
  obtain ⟨e, he, hid⟩ := List.mem_map.mp hmem
  have hn := List.find?_eq_none.mp h e he
  simp_all [Restriction.names, Restriction.identity]

theorem State.Keeps.raise (h : s.Keeps t) (src : Source) (key : Half) (k : Restraint) : s.Keeps (t.raise src key k) := by
  unfold State.raise
  refine h.ite ?_
  split
  · rename_i hf
    exact (h.withRsl fun hd => nodup_map_concat hd (not_mem_identities hf)).setFlag _
  · rename_i e hf
    refine h.ite ((h.withRsl fun hd => ?_).setFlag _)
    rwa [identities_replaceFirst]
    exact findRestriction_identity (e := e) hf

theorem State.Keeps.lift (h : s.Keeps t) (src : Source) (key : Half) : s.Keeps (t.lift src key) := by
  unfold State.lift
  split
  · exact h
  · rename_i e hf
    split
    · exact h
    · refine (h.withRsl fun hd => ?_).setFlag _
      rwa [identities_replaceFirst]
      exact findRestriction_identity (e := e) hf
    · exact (h.withRsl fun hd => (List.eraseP_sublist.map _).nodup hd).setFlag _

theorem State.Keeps.releaseTest (h : s.Keeps t) : s.Keeps t.releaseTest := by
  unfold State.releaseTest
  exact ((h.withRsl fun hd => (List.filter_sublist.map _).nodup hd).setFlag _).ite h

end Sys2Proof.Machine
end

section
/-! SUPPORT. The sounder sequencer keeps each channel's queue within its places, its requests distinct and the queue
in order of priority (R162 to R172). -/

namespace Sys2Proof.Machine

/-! ### Queues -/

/-- A queue in order of priority (R162). -/
abbrev InPriority (q : List SoundRequest) : Prop := q.Pairwise fun x y => y.priority ≤ x.priority

theorem SoundChannel.ordered_iff (c : SoundChannel) :
    c.Ordered ↔ (c.requests.map SoundRequest.identity).Nodup ∧ InPriority c.queue := by
  rw [SoundChannel.Ordered, List.pairwise_map]

theorem insertRequest_cons (r x : SoundRequest) (q : List SoundRequest) :
    insertRequest r (x :: q) = if r.priority ≤ x.priority then x :: insertRequest r q else r :: x :: q := by
  by_cases h : r.priority ≤ x.priority <;> simp [insertRequest, h]

theorem insertRequest_perm (r : SoundRequest) (q : List SoundRequest) : (insertRequest r q).Perm (r :: q) := by
  have h := List.takeWhile_append_dropWhile (p := fun x : SoundRequest => decide (r.priority ≤ x.priority)) (l := q)
  exact List.perm_middle.trans (by rw [h])

/-- The place behind every request of equal or higher priority keeps the order (R164). -/
theorem insertRequest_inPriority (r : SoundRequest) : ∀ {q : List SoundRequest}, InPriority q → InPriority (insertRequest r q)
  | [], _ => List.pairwise_singleton _ _
  | x :: q, h => by
    obtain ⟨hx, hq⟩ := List.pairwise_cons.mp h
    rw [insertRequest_cons]
    split
    · rename_i hr
      refine List.pairwise_cons.mpr ⟨fun y hy => ?_, insertRequest_inPriority r hq⟩
      obtain rfl | hy := List.mem_cons.mp ((insertRequest_perm r q).mem_iff.mp hy)
      · exact hr
      · exact hx y hy
    · rename_i hr
      refine List.pairwise_cons.mpr ⟨fun y hy => ?_, h⟩
      obtain rfl | hy := List.mem_cons.mp hy
      · omega
      · have := hx y hy
        omega

theorem removeNewest_sublist (n : Nat) (q : List SoundRequest) : (removeNewest n q).Sublist q := by
  simpa [removeNewest] using (List.eraseP_sublist (p := (·.priority == n)) (l := q.reverse)).reverse

/-- A queue that has a request of the priority loses one (R165). -/
theorem length_removeNewest {n : Nat} {q : List SoundRequest} (h : ∃ x ∈ q, x.priority = n) :
    (removeNewest n q).length + 1 = q.length := by
  obtain ⟨x, hx, hn⟩ := h
  have hlen := List.length_eraseP_of_mem (p := fun y : SoundRequest => y.priority == n) (List.mem_reverse.mpr hx) (by simpa)
  have hpos := List.length_pos_of_mem hx
  simp only [removeNewest, List.length_reverse] at hlen ⊢
  omega

/-- The lowest priority is the one given, or that of a request. -/
theorem lowestPriority_mem : ∀ (q : List SoundRequest) (n : Nat),
    lowestPriority q n = n ∨ ∃ x ∈ q, x.priority = lowestPriority q n
  | [], _ => .inl rfl
  | y :: q, n => by
    have hstep : lowestPriority (y :: q) n = lowestPriority q (min n y.priority) := rfl
    rw [hstep]
    obtain h | ⟨x, hx, h⟩ := lowestPriority_mem q (min n y.priority)
    · rw [h]
      obtain hm | hm := min_choice n y.priority
      · exact .inl hm
      · exact .inr ⟨y, by simp, hm.symm⟩
    · exact .inr ⟨x, by simp [hx], h⟩

/-! ### Channels -/

theorem SoundChannel.Keeps.of_sublist {c c' : SoundChannel} (hr : c'.requests.Sublist c.requests)
    (hq : c'.queue.Sublist c.queue) : c.Keeps c' where
  places := hq.length_le.trans
  ordered := fun ⟨hd, hp⟩ => ⟨(hr.map _).nodup hd, hp.sublist (hq.map _)⟩

/-- A channel that neither plays nor queues anything keeps everything. -/
theorem SoundChannel.Keeps.of_silent {c c' : SoundChannel} (hp : c'.playing = none) (hq : c'.queue = []) : c.Keeps c' :=
  .of_sublist (by simp [SoundChannel.requests, hp, hq]) (by simp [hq])

/-- A new request in a queue that has lost requests or none (R164, R165). -/
theorem SoundChannel.Keeps.insert {c : SoundChannel} {r : SoundRequest} {q : List SoundRequest} (hq : q.Sublist c.queue)
    (hlen : c.queue.length ≤ 4 → q.length < 4) (hnew : r.identity ∉ c.requests.map SoundRequest.identity) :
    c.Keeps { c with queue := insertRequest r q } where
  places := fun h => (insertRequest_perm r q).length_eq.trans_le (hlen h)
  ordered := fun h => by
    rw [SoundChannel.ordered_iff] at h ⊢
    obtain ⟨hd, hp⟩ := h
    have hsub : (c.playing.map (·.request)).toList ++ q |>.Sublist c.requests := hq.append_left _
    have hperm : ((c.playing.map (·.request)).toList ++ insertRequest r q).Perm
        (r :: ((c.playing.map (·.request)).toList ++ q)) :=
      ((insertRequest_perm r q).append_left _).trans List.perm_middle
    refine ⟨(hperm.map SoundRequest.identity).nodup_iff.mpr ?_, insertRequest_inPriority r (hp.sublist hq)⟩
    exact List.nodup_cons.mpr ⟨fun hm => hnew ((hsub.map _).subset hm), (hsub.map _).nodup hd⟩

/-- The sound request test of R164: what is not found equal is new. -/
theorem SoundChannel.identity_not_mem {c : SoundChannel} {r : SoundRequest}
    (h : ¬ (c.playing.any (·.request.same r) || c.queue.any (·.same r)) = true) :
    r.identity ∉ c.requests.map SoundRequest.identity := by
  intro hm
  obtain ⟨x, hx, hid⟩ := List.mem_map.mp hm
  have hsame : x.same r = true := by
    simpa [SoundRequest.identity, SoundRequest.same] using hid
  refine h (Bool.or_eq_true_iff.mpr ((List.mem_append.mp hx).imp (fun hp => ?_) fun hq => List.any_eq_true.mpr ⟨x, hq, hsame⟩))
  obtain ⟨y, hy, rfl⟩ := Option.map_eq_some_iff.mp (Option.mem_toList.mp hp)
  simp [hy, hsame]

/-! ### The sequencer -/

variable {q q' : Sounder} {s t : State}

theorem Sounder.Keeps.withChannel (h : q.Keeps q') {ch : Channel} {c : SoundChannel} (hc : (q'.channel ch).Keeps c) :
    q.Keeps (q'.withChannel ch c) where
  channel := fun ch' => by
    by_cases hch : ch' = ch
    · subst hch
      cases ch' <;> exact (h.channel _).trans hc
    · have same : (q'.withChannel ch c).channel ch' = q'.channel ch' := by cases ch <;> cases ch' <;> trivial
      rw [same]
      exact h.channel ch'
  shaped := by cases ch <;> exact h.shaped

/-- The record of a pattern that goes on is that of the same request (R167). -/
theorem Playing.advance_request {x y : Playing} {p : Pattern} {b : Bool} (h : x.advance p b = some y) :
    y.request = x.request := by
  unfold Playing.advance at h
  grind

/-- A step that begins for the request that plays changes neither it nor the queue (R166). -/
theorem SoundChannel.keeps_beginStep {c : SoundChannel} {x y : Playing} (p : Pattern) (hx : c.playing = some x)
    (hy : y.request = x.request) : c.Keeps (c.beginStep p y) :=
  .of_sublist (by simp [SoundChannel.beginStep, SoundChannel.requests, hx, hy]) (.refl _)

theorem Sounder.Keeps.startFirst (h : q.Keeps q') (ch : Channel) : q.Keeps (q'.startFirst ch) := by
  unfold Sounder.startFirst
  dsimp only
  split
  · rename_i hq
    exact h.withChannel (.of_silent rfl hq)
  · rename_i r rest hq
    refine h.withChannel (.of_sublist ?_ ?_)
    · simp [SoundChannel.beginStep, SoundChannel.requests, hq]
    · simp [SoundChannel.beginStep, hq]

theorem Sounder.Keeps.enqueue (h : q.Keeps q') {ch : Channel} {l : List SoundRequest}
    (hl : (q'.channel ch).Keeps { q'.channel ch with queue := l }) : q.Keeps (q'.enqueue ch l) := by
  unfold Sounder.enqueue
  dsimp only
  split
  · exact (h.withChannel hl).startFirst ch
  · exact h.withChannel hl

theorem Sounder.Keeps.boundary (h : q.Keeps q') {ch : Channel} {x : Playing} (hx : (q'.channel ch).playing = some x) :
    q.Keeps (q'.boundary ch x) := by
  unfold Sounder.boundary
  dsimp only
  split
  · exact h.startFirst ch
  · split
    · rename_i y hy
      exact h.withChannel (SoundChannel.keeps_beginStep _ hx (Playing.advance_request hy))
    · exact h.startFirst ch

/-- Only the direct horn and the horn's output and timer change. -/
theorem Sounder.Keeps.withHorn (h : q.Keeps q') {c : SoundChannel} (d : Option DirectHorn) (hc : q'.horn.Keeps c) :
    q.Keeps { q' with direct := d, horn := c } :=
  h.trans ⟨fun | .horn => hc | .bell => .refl _ | .chime => .refl _, id⟩

theorem Sounder.Keeps.withDirect (h : q.Keeps q') (d : Option DirectHorn) : q.Keeps { q' with direct := d } :=
  h.withHorn d (.refl _)

theorem Sounder.Keeps.endDirect (h : q.Keeps q') : q.Keeps q'.endDirect := by
  unfold Sounder.endDirect
  dsimp only
  split
  · rename_i x hx
    exact h.withHorn none (SoundChannel.keeps_beginStep _ hx rfl)
  · exact (h.withDirect none).startFirst .horn

theorem Sounder.Keeps.silenced (h : q.Keeps q') : q.Keeps q'.silenced :=
  h.trans ⟨fun | .horn => .of_silent rfl rfl | .bell => .of_silent rfl rfl | .chime => .of_silent rfl rfl, id⟩

theorem Sounder.Keeps.cleared (h : q.Keeps q') : q.Keeps q'.cleared :=
  h.trans ⟨fun | .horn => .of_silent rfl rfl | .bell => .of_silent rfl rfl | .chime => .of_silent rfl rfl, id⟩

/-! ### The part -/

theorem State.Keeps.soundRequest (h : s.Keeps t) (ch : Channel) (r : SoundRequest) : s.Keeps (t.soundRequest ch r) := by
  unfold State.soundRequest
  dsimp only
  refine h.ite ((h.setFlag _).ite ?_)
  split
  · exact h
  rename_i hnew
  have hnew := SoundChannel.identity_not_mem hnew
  split
  · rename_i hlt
    exact h.withSsq ((Sounder.Keeps.refl _).enqueue (.insert (.refl _) (fun _ => hlt) hnew))
  rename_i hfull
  split
  · rename_i hlow
    refine (h.withSsq ((Sounder.Keeps.refl _).enqueue
      (.insert (removeNewest_sublist _ _) (fun h4 => ?_) hnew))).setFlag _
    have hmem := (lowestPriority_mem (t.ssq.channel ch).queue r.priority).resolve_left hlow.ne
    have hlen := length_removeNewest hmem
    omega
  · exact h.setFlag _

theorem State.Keeps.judgeLoad (h : s.Keeps t) (ch : Channel) (load : Bool) : s.Keeps (t.judgeLoad ch load) := by
  unfold State.judgeLoad
  have h1 := h.withSsq ((Sounder.Keeps.refl t.ssq).withChannel (ch := ch)
    (c := { t.ssq.channel ch with isOpen := !load }) ⟨id, id⟩)
  exact h1.ite (h1.setFlag _)

/-- A judged step leaves what plays. -/
theorem State.judgeLoad_playing (s : State) (ch : Channel) (load : Bool) :
    ((s.judgeLoad ch load).ssq.channel ch).playing = (s.ssq.channel ch).playing := by
  unfold State.judgeLoad
  dsimp only
  split
  · cases ch <;> rfl
  · rw [State.setFlag_ssq]
    cases ch <;> rfl

theorem State.Keeps.soundBoundary (h : s.Keeps t) (ch : Channel) (load : Bool) : s.Keeps (t.soundBoundary ch load) := by
  unfold State.soundBoundary
  split
  · exact h
  rename_i x hx
  refine h.ite ?_
  dsimp only
  split
  · have hp := (t.judgeLoad_playing ch load).trans hx
    exact (h.judgeLoad ch load).withSsq ((Sounder.Keeps.refl _).boundary hp)
  · exact h.withSsq ((Sounder.Keeps.refl _).boundary hx)

theorem State.Keeps.hornPress (h : s.Keeps t) : s.Keeps t.hornPress := by
  unfold State.hornPress
  have hc : t.ssq.horn.Keeps { t.ssq.horn with output := true, stepLeft := none } := ⟨id, id⟩
  exact (h.withSsq ((Sounder.Keeps.refl _).withHorn _ hc)).ite h

theorem State.Keeps.hornRelease (h : s.Keeps t) : s.Keeps t.hornRelease := by
  unfold State.hornRelease
  split
  · exact h
  · exact (h.withSsq (Sounder.Keeps.refl _).endDirect).ite (h.withSsq ((Sounder.Keeps.refl _).withDirect _))

theorem State.Keeps.hornMinEnd (h : s.Keeps t) : s.Keeps t.hornMinEnd := by
  unfold State.hornMinEnd
  split
  · exact h
  · exact (h.withSsq ((Sounder.Keeps.refl _).withDirect _)).ite (h.withSsq (Sounder.Keeps.refl _).endDirect)

theorem State.Keeps.hornInterval (h : s.Keeps t) (load : Bool) : s.Keeps (t.hornInterval load) := by
  unfold State.hornInterval
  split
  · exact h
  · exact (h.withSsq ((Sounder.Keeps.refl _).withDirect _)).judgeLoad _ _

end Sys2Proof.Machine
end

section
/-! SUPPORT. The route unit, the stop request unit and the signal table keep what State.Keeps says (chapters 2, 6, 8). -/

namespace Sys2Proof.Machine

variable {s t : State}

/-! ### The junction queue (R102 to R123) -/

/-- A queue whose junction ids are some of the old ones in their order keeps everything of the route unit. -/
theorem RouteUnit.Keeps.of_sublist {r r' : RouteUnit} (hq : (junctionIds r'.queue).Sublist (junctionIds r.queue))
    (hs : r.Shaped → r'.Shaped) : r.Keeps r' where
  places := fun h => by simpa using (hq.length_le.trans (by simpa using h) : (junctionIds r'.queue).length ≤ 4)
  distinct := hq.nodup
  shaped := hs

theorem State.Keeps.withQueue (h : s.Keeps t) {q : List Transaction}
    (hq : (junctionIds q).Sublist (junctionIds t.rtu.queue)) : s.Keeps (t.withQueue q) :=
  h.withRtu (.of_sublist hq id)

theorem State.Keeps.withAttempt (h : s.Keeps t) (a : Option Nat) : s.Keeps (t.withAttempt a) :=
  h.withRtu ⟨id, id, id⟩

theorem State.Keeps.startAttemptTimer (h : s.Keeps t) : s.Keeps t.startAttemptTimer := h.withRtu ⟨id, id, id⟩

/-- A transaction put in the place of the one with its junction id leaves the ids (R105). -/
theorem junctionIds_updateTransaction (x : Transaction) :
    ∀ q : List Transaction, junctionIds (updateTransaction q x) = junctionIds q
  | [] => rfl
  | y :: q => by
    unfold updateTransaction replaceFirst
    split
    · rename_i hy
      simpa using (eq_of_beq hy).symm
    · simpa [updateTransaction] using junctionIds_updateTransaction x q

theorem State.Keeps.updateTransaction (h : s.Keeps t) (x : Transaction) :
    s.Keeps (t.withQueue (updateTransaction t.rtu.queue x)) :=
  h.withQueue (by rw [junctionIds_updateTransaction])

theorem State.Keeps.syncJunction (h : s.Keeps t) (x : Transaction) : s.Keeps (t.syncJunction x) := by
  unfold State.syncJunction
  split
  · exact h.raise _ _ _
  · exact h.lift _ _

theorem State.Keeps.countRetry (h : s.Keeps t) : s.Keeps t.countRetry := by
  unfold State.countRetry
  exact ((h.withTlk _).setFlag _).ite (h.withTlk _)

theorem State.Keeps.startAttempt (h : s.Keeps t) : s.Keeps t.startAttempt := by
  unfold State.startAttempt
  split
  · exact h
  rename_i x rest hq
  split
  · exact h
  · exact (h.withRtu (by exact .of_sublist (by simp [hq]) id)).withTlk _

theorem State.Keeps.makeUnconfirmed (h : s.Keeps t) (x : Transaction) : s.Keeps (t.makeUnconfirmed x) := by
  have h1 := h.updateTransaction { x with state := .unconfirmed }
  exact (((h1.withAttempt none).ite h1).syncJunction _).setFlag _

theorem State.Keeps.failAttempt (h : s.Keeps t) : s.Keeps t.failAttempt := by
  unfold State.failAttempt
  split
  · exact h
  rename_i x rest hq
  have h1 : s.Keeps ((t.withQueue ({ x with attempts := x.attempts + 1 } :: rest)).withAttempt none) :=
    (h.withQueue (by simp [hq])).withAttempt none
  exact h1.countRetry.startAttempt.ite (h1.makeUnconfirmed _)

theorem State.Keeps.removeTransaction (h : s.Keeps t) (x : Transaction) : s.Keeps (t.removeTransaction x) := by
  unfold State.removeTransaction
  have h1 : s.Keeps (t.withQueue (t.rtu.queue.eraseP (·.junction == x.junction))) :=
    h.withQueue (List.eraseP_sublist.map _)
  have h2 : s.Keeps (if t.rtu.isHead x.junction then _ else _) := (h1.withAttempt none).ite h1
  dsimp only
  split
  · exact h2.lift _ _
  · exact h2

theorem State.Keeps.liftRoute (h : s.Keeps t) : s.Keeps t.liftRoute := by
  unfold State.liftRoute
  exact ((h.withRtu (by exact ⟨id, id, id⟩)).lift _ _).ite h

theorem State.Keeps.afterRemoval (h : s.Keeps t) (old : Option Half) : s.Keeps (t.afterRemoval old) := by
  unfold State.afterRemoval
  dsimp only
  split
  · exact h.liftRoute
  · exact h.liftRoute.startAttempt.ite h.liftRoute

theorem State.Keeps.passTransaction (h : s.Keeps t) (x : Transaction) : s.Keeps (t.passTransaction x) :=
  (h.removeTransaction x).afterRemoval _

theorem State.Keeps.autoBell (h : s.Keeps t) (j : Half) : s.Keeps (t.autoBell j) := by
  unfold State.autoBell
  split
  · exact (h.soundRequest _ _).ite h
  · exact h

theorem RouteUnit.newTransaction_junction (r : RouteUnit) (j : Half) (d : Nat) : (r.newTransaction j d).junction = j := by
  unfold RouteUnit.newTransaction
  split <;> rfl

/-- A junction that is not found is none of the queue's (R105). -/
theorem not_mem_junctionIds {q : List Transaction} {j : Half} (h : findTransaction q j = none) : j ∉ junctionIds q := by
  intro hm
  obtain ⟨x, hx, hj⟩ := List.mem_map.mp hm
  exact List.find?_eq_none.mp h x hx (beq_iff_eq.mpr hj)

/-- A new junction is appended where the queue has a place (R105 to R107). -/
theorem State.Keeps.announce (h : s.Keeps t) {j : Half} (hj : findTransaction t.rtu.queue j = none)
    (hlt : t.rtu.queue.length < 4) (d : Nat) : s.Keeps (t.announce j d) := by
  unfold State.announce
  have hid := t.rtu.newTransaction_junction j d
  have h1 : s.Keeps (t.withQueue (t.rtu.queue ++ [t.rtu.newTransaction j d])) := by
    refine h.withRtu ⟨fun _ => by simpa using hlt, fun hd => nodup_map_concat hd ?_, id⟩
    rw [hid]
    exact not_mem_junctionIds hj
  have h2 : s.Keeps (match (t.rtu.newTransaction j d).restraint t.rtu.items with
      | some k => (t.withQueue (t.rtu.queue ++ [t.rtu.newTransaction j d])).raise .junction j k
      | none => t.withQueue (t.rtu.queue ++ [t.rtu.newTransaction j d])) := by
    split
    · exact h1.raise _ _ _
    · exact h1
  exact (h2.autoBell j).startAttempt.ite (h2.autoBell j)

theorem State.Keeps.refuseApproach (h : s.Keeps t) : s.Keeps t.refuseApproach :=
  ((h.withRtu (by exact ⟨id, id, id⟩)).setFlag _).raise _ _ _

theorem State.Keeps.approach (h : s.Keeps t) (j : Half) (d : Nat) : s.Keeps (t.approach j d) := by
  unfold State.approach
  split
  · exact h.updateTransaction _
  · rename_i hj
    split
    · exact h.announce hj ‹_› d
    · exact h.refuseApproach

theorem State.Keeps.actOnConfirm (h : s.Keeps t) (x : Transaction) (d : PointDir) (c : ConfirmState) :
    s.Keeps (t.actOnConfirm x d c) := by
  cases c with
  | setLocked => exact (((h.updateTransaction _).withAttempt none).syncJunction _).ite h.failAttempt
  | setMoving => exact h.startAttemptTimer
  | refused => exact h.makeUnconfirmed x

theorem State.Keeps.confirm (h : s.Keeps t) (j tram : Half) (q : Byte) (d : PointDir) (c : ConfirmState) :
    s.Keeps (t.confirm j tram q d c) := by
  unfold State.confirm
  refine h.ite ?_
  split
  · exact h
  · exact h.ite ((h.setFlag _).ite (h.ite (h.actOnConfirm _ d c)))

theorem State.Keeps.clearJunction (h : s.Keeps t) (j : Half) : s.Keeps (t.clearJunction j) := by
  unfold State.clearJunction
  split
  · exact h.passTransaction _
  · exact h

theorem State.Keeps.deliverTelegram (h : s.Keeps t) (m : Telegram) : s.Keeps (t.deliverTelegram m) := by
  unfold State.deliverTelegram
  refine h.ite ?_
  cases m with
  | approach j d => exact h.approach j d
  | clear j => exact h.clearJunction j
  | confirm j tram q d c => exact h.confirm j tram q d c
  | request => exact h

theorem State.Keeps.linkFaulted (h : s.Keeps t) : s.Keeps t.linkFaulted := by
  unfold State.linkFaulted
  exact h.ite (State.Keeps.foldl (fun u x => (State.Keeps.refl u).makeUnconfirmed x) _ h)

theorem State.Keeps.requestSent (h : s.Keeps t) (q : Byte) : s.Keeps (t.requestSent q) := by
  unfold State.requestSent
  split
  · exact h
  · exact h.startAttemptTimer.ite h

theorem State.Keeps.judgeDistance (h : s.Keeps t) (x : Transaction) : s.Keeps (t.judgeDistance x) := by
  unfold State.judgeDistance
  exact (h.removeTransaction x).ite ((h.makeUnconfirmed x).ite h)

theorem State.Keeps.periodDistance (h : s.Keeps t) (d : Nat) : s.Keeps (t.periodDistance d) := by
  unfold State.periodDistance
  refine h.ite ?_
  have h1 := h.withQueue (q := t.rtu.queue.map fun x => { x with remaining := countDown x.remaining d })
    (by simp [junctionIds, Function.comp_def])
  have h2 := State.Keeps.foldl (fun u x => (State.Keeps.refl u).judgeDistance x)
    (t.rtu.queue.map fun x => { x with remaining := countDown x.remaining d }) h1
  exact (h2.afterRemoval _).ite h2

theorem State.Keeps.routeButton (h : s.Keeps t) (d : PointDir) : s.Keeps (t.routeButton d) := by
  unfold State.routeButton
  refine h.ite ?_
  split
  · exact h
  · rename_i x rest hq
    exact ((h.withQueue (by simp [hq])).startAttempt.raise _ _ _).ite h

theorem State.Keeps.proceedPress (h : s.Keeps t) : s.Keeps t.proceedPress := by
  unfold State.proceedPress
  refine h.ite ?_
  split
  · exact h
  · exact (h.updateTransaction _).syncJunction _

theorem State.Keeps.reversal (h : s.Keeps t) : s.Keeps t.reversal := by
  unfold State.reversal
  have h1 := (State.Keeps.foldl (fun u x => (State.Keeps.refl u).removeTransaction x) t.rtu.queue h).withAttempt none
  exact h.ite (h1.ite (h1.setFlag _)).liftRoute

theorem RouteUnit.keeps_cleared (r : RouteUnit) : r.Keeps r.cleared := .of_sublist (List.nil_sublist _) id

/-! ### Stops and doors (R142 to R154) -/

/-- A list emptied (R149, R150, R157). -/
theorem StopUnit.Keeps.of_nil {u u' : StopUnit} (hl : u'.list = []) (hs : u'.sources = u.sources) : u.Keeps u' :=
  ⟨by simp [hl], by rw [hs]; exact id⟩

theorem State.Keeps.reportStops (h : s.Keeps t) (before : List StopEntry) : s.Keeps (t.reportStops before) :=
  h.sends (t.sends_reportStops before)

theorem State.Keeps.firstEntry (h : s.Keeps t) (k : StopKind) (before : List StopEntry) : s.Keeps (t.firstEntry k before) := by
  cases k with
  | normal => exact ((h.soundRequest _ _).setFlag _).ite h
  | assist => exact h.ite ((h.soundRequest _ _).setFlag _)

theorem State.Keeps.registerSource (h : s.Keeps t) (n : Nat) : s.Keeps (t.registerSource n) := by
  unfold State.registerSource
  split
  · exact h
  · rename_i hn
    have h1 : t.sru.Keeps { t.sru with list := t.sru.list ++ [⟨n, (t.sru.sources.getD n {}).kind, t.tdu.periodCount⟩] } :=
      ⟨fun hd => nodup_map_concat hd (by simpa using hn), id⟩
    exact ((h.withSru h1).firstEntry _ _).reportStops _

theorem State.Keeps.withArmed (h : s.Keeps t) (n : Nat) (a : Bool) : s.Keeps (t.withArmed n a) :=
  h.withSru ⟨id, id⟩

theorem State.Keeps.treatSource (h : s.Keeps t) (image : Word) (n : Nat) : s.Keeps (State.treatSource image t n) := by
  unfold State.treatSource
  exact (h.withArmed n true).ite (((h.registerSource n).withArmed n false).ite h)

theorem State.Keeps.stopButtons (h : s.Keeps t) (image : Word) : s.Keeps (t.stopButtons image) := by
  unfold State.stopButtons
  refine State.Keeps.withSru ((h.withSru (by exact ⟨id, id⟩)).ite ((h.withSru (by exact ⟨id, id⟩)).ite ?_))
    (by exact ⟨id, id⟩)
  exact State.Keeps.foldl (fun u n => (State.Keeps.refl u).treatSource image n) _ h

theorem State.Keeps.stopButtonsStale (h : s.Keeps t) : s.Keeps t.stopButtonsStale := h.withSru ⟨id, id⟩

theorem State.Keeps.sourceEnabled (h : s.Keeps t) (n : Nat) : s.Keeps (t.sourceEnabled n) := by
  unfold State.sourceEnabled
  exact ((h.registerSource n).withArmed n false).ite h

theorem State.Keeps.doorsTest (h : s.Keeps t) : s.Keeps t.doorsTest := by
  unfold State.doorsTest
  refine h.ite ?_
  split
  · exact (h.withSru (by exact ⟨id, id⟩)).raise _ _ _
  · exact (h.withSru (by exact ⟨id, id⟩)).lift _ _
  · exact h

theorem State.Keeps.doorSummary (h : s.Keeps t) (v : DoorView) : s.Keeps (t.doorSummary v) :=
  (h.withSru (by exact ⟨id, id⟩)).doorsTest

theorem State.Keeps.doorSummaryStale (h : s.Keeps t) : s.Keeps t.doorSummaryStale :=
  (h.withSru (by exact ⟨id, id⟩)).doorsTest

theorem State.Keeps.releaseDoors (h : s.Keeps t) (side : Side) : s.Keeps (t.releaseDoors side) :=
  ((h.withSru (by exact .of_nil rfl rfl)).publish _ _).doorsTest.reportStops _

theorem State.Keeps.doorReleasePress (h : s.Keeps t) (side : Side) : s.Keeps (t.doorReleasePress side) := by
  unfold State.doorReleasePress
  exact (h.releaseDoors side).ite (h.setFlag _)

theorem State.Keeps.doorClosePress (h : s.Keeps t) : s.Keeps t.doorClosePress := by
  unfold State.doorClosePress
  split
  · exact (((h.withSru (by exact ⟨id, id⟩)).publish _ _).soundRequest _ _).doorsTest
  · exact h.publish _ _
  · exact h

theorem State.Keeps.stopCancelPress (h : s.Keeps t) : s.Keeps t.stopCancelPress :=
  (h.withSru (by exact .of_nil rfl rfl)).reportStops _

/-! ### The signal table (R26 to R34) and the classifier (R19 to R24) -/

theorem State.Keeps.doorSlotEvent (h : s.Keeps t) (b : Option Nat) : s.Keeps (t.doorSlotEvent b) := by
  unfold State.doorSlotEvent
  split
  · exact (h.doorSummary _).ite h.doorSummaryStale
  · exact h.doorSummaryStale

theorem State.Keeps.stopSlotEvent (h : s.Keeps t) (b : Option Nat) : s.Keeps (t.stopSlotEvent b) := by
  unfold State.stopSlotEvent
  split
  · exact (h.stopButtons _).ite h.stopButtonsStale
  · exact h.stopButtonsStale

theorem State.Keeps.slotEvent (h : s.Keeps t) (i : Nat) : s.Keeps (t.slotEvent i) := by
  unfold State.slotEvent
  have h1 : s.Keeps (if t.sgt.doorSlot = some i then t.doorSlotEvent (some i) else t) := (h.doorSlotEvent _).ite h
  exact (h1.stopSlotEvent _).ite h1

theorem State.Keeps.withSlot (h : s.Keeps t) (i : Nat) (x : Slot) : s.Keeps (t.withSlot i x) :=
  h.withSgt fun hl => by simpa using hl

theorem State.Keeps.updateSlot (h : s.Keeps t) (i : Nat) (f : Frame) (limit : Nat) : s.Keeps (t.updateSlot i f limit) := by
  have hs := h.withSlot i
    ((t.sgt.slot i).updated f.src f.payload limit
      (if decide ((f.payload.take 8).length < t.requiredLength i) then .stale else .fresh))
  have ht : s.Keeps (if 8 < f.payload.length then _ else _) := (hs.setFlag .slotTrunc).ite hs
  exact ((ht.setFlag _).ite ((ht.setFlag _).slotEvent i)).ite (ht.slotEvent i)

theorem State.Keeps.takeProcess (h : s.Keeps t) (f : Frame) : s.Keeps (t.takeProcess f) := by
  unfold State.takeProcess
  split
  · exact h
  · split
    · exact h
    · exact (h.updateSlot _ _ _).ite (h.setFlag _)

theorem State.Keeps.takeManage (h : s.Keeps t) (f : Frame) : s.Keeps (t.takeManage f) := by
  unfold State.takeManage
  split
  · exact h.withFcl (fun _ => by simpa using ‹_›) id
  · exact h.setFlag _

theorem State.Keeps.classify (h : s.Keeps t) (f : Frame) : s.Keeps (t.classify f) := by
  unfold State.classify
  split
  · exact (h.takeProcess f).ite h
  · exact h.takeManage f
  · exact h
  · exact h

theorem State.Keeps.ageSlots (h : s.Keeps t) : s.Keeps t.ageSlots := by
  unfold State.ageSlots
  have h1 := h.withSgt (x := t.sgt.aged) fun hl => by simpa [SignalTable.aged] using hl
  have h2 := State.Keeps.foldl (fun u i => (State.Keeps.refl u).slotEvent i) t.sgt.goingStale h1
  exact h2.ite (h2.setFlag _)

theorem SignalTable.length_cleared (x : SignalTable) : x.cleared.slots.length = 128 := List.length_replicate

end Sys2Proof.Machine
end

section
/-! SUPPORT. The traction unit, the modes, the desk and the track link keep what State.Keeps says (chapters 3, 4, 7,
11). -/

namespace Sys2Proof.Machine

variable {s t : State}

/-! ### Traction (R53 to R79) -/

theorem State.Keeps.withMarks (h : s.Keeps t) (m : Marks) : s.Keeps (t.withMarks m) := h.withTdu id

theorem State.Keeps.superviseSpeed (h : s.Keeps t) : s.Keeps t.superviseSpeed := by
  unfold State.superviseSpeed
  split
  · exact ((h.withMarks _).raise _ _ _).setFlag _
  · exact (h.withMarks _).lift _ _
  · exact h

theorem State.Keeps.findSpeed (h : s.Keeps t) : s.Keeps t.findSpeed := by
  unfold State.findSpeed
  split
  · exact h.withTdu id
  · exact h.withTdu id

theorem State.Keeps.advanceOdometer (h : s.Keeps t) : s.Keeps t.advanceOdometer.1 := by
  unfold State.advanceOdometer
  split
  · exact h
  · exact h.withTdu id

theorem State.Keeps.evaluateSpeed (h : s.Keeps t) : s.Keeps t.evaluateSpeed.1 :=
  h.findSpeed.superviseSpeed.advanceOdometer

theorem State.Keeps.settleDirection (h : s.Keeps t) : s.Keeps t.settleDirection.1 := by
  unfold State.settleDirection
  dsimp only
  split
  · exact h.withTdu id
  · split
    · split
      · exact h.withTdu id
      · exact h.withTdu id
    · split
      · exact (h.withTdu (by exact id)).setFlag _
      · exact h.withTdu id

theorem State.Keeps.judgeBrake (h : s.Keeps t) : s.Keeps t.judgeBrake := by
  unfold State.judgeBrake
  dsimp only
  split
  · exact ((h.withMarks _).lift _ _).ite h
  · split
    · exact ((h.withMarks _).raise _ _ _).setFlag _
    · exact (h.withMarks _).lift _ _
    · exact h

theorem State.Keeps.superviseUnits (h : s.Keeps t) (w : Nat) : s.Keeps (t.superviseUnits w) := by
  unfold State.superviseUnits
  split
  · exact ((h.withMarks _).raise _ _ _).setFlag _
  · exact (h.withMarks _).lift _ _
  · exact h

theorem length_addRemainder (r : Nat) : ∀ (us : List UnitView) (bs : List Nat), (addRemainder r us bs).length = bs.length
  | [], _ => by simp [addRemainder]
  | _ :: _, [] => by simp [addRemainder]
  | u :: us, b :: bs => by
    unfold addRemainder
    split
    · rfl
    · simp [length_addRemainder r us bs]

/-- Stage 4 has a slip entry for each unit that has one (R71). -/
theorem length_allocateUnits (items : TractionItems) (speed : Option Speed) (cmd : Int) (cut : Bool)
    (us : List UnitView) (slips : List UnitSlip) :
    (allocateUnits items speed cmd cut us slips).length = min us.length slips.length := by
  simp [allocateUnits, baseShares, length_addRemainder, truncatedShares]

theorem State.length_viewUnits (s : State) (h : s.tdu.Shaped) : s.viewUnits.length = 4 := by
  obtain ⟨-, -, ha, -, -⟩ := h
  unfold State.viewUnits Traction.units
  split <;> simp [ha]

theorem State.Keeps.finishPeriod (h : s.Keeps t) (stepped : Bool) (y : Summary) (target : Int)
    (limb : Option (Limb × Nat)) : s.Keeps (t.finishPeriod stepped y target limb) := by
  refine State.Keeps.superviseUnits (h.withTdu fun hx => ?_) _
  have hv := t.length_viewUnits hx
  obtain ⟨hca, hcs, haa, has, hsl⟩ := hx
  exact ⟨hca, hcs, haa, has, by simp [length_allocateUnits, hv, hsl]⟩

theorem State.Keeps.computePeriod (h : s.Keeps t) : s.Keeps t.computePeriod.1 :=
  h.evaluateSpeed.settleDirection.judgeBrake.releaseTest.finishPeriod _ _ _ _

theorem State.Keeps.computeStep (h : s.Keeps t) : s.Keeps t.computeStep.1 :=
  h.findSpeed.superviseSpeed.releaseTest.settleDirection.judgeBrake.finishPeriod _ _ _ _

theorem State.Keeps.publishSetpoint (h : s.Keeps t) : s.Keeps t.publishSetpoint := by
  unfold State.publishSetpoint
  split
  · exact h.publish _ _
  · exact h

theorem State.Keeps.publishHold (h : s.Keeps t) : s.Keeps t.publishHold := h.publish _ _

theorem State.Keeps.vigilWarning (h : s.Keeps t) : s.Keeps t.vigilWarning := ((h.withTdu (by exact id)).soundRequest _ _).setFlag _

theorem State.Keeps.vigilTrip (h : s.Keeps t) : s.Keeps t.vigilTrip :=
  (((h.withMarks _).raise _ _ _).setFlag _).soundRequest _ _

theorem State.Keeps.supervise (h : s.Keeps t) : s.Keeps t.supervise := by
  unfold State.supervise
  have h1 := h.withTdu (x := { t.tdu with vigil := t.tdu.vigil + 20 }) id
  have h2 : s.Keeps (if t.tdu.vigil + 20 = t.tdu.items.vigilWarn then _ else _) := h1.vigilWarning.ite h1
  exact (h.withTdu (by exact id)).ite ((h2.vigilTrip.ite h2).ite h)

theorem State.Keeps.deadmanHeld (h : s.Keeps t) : s.Keeps t.deadmanHeld := by
  unfold State.deadmanHeld
  exact (((h.withTdu (by exact id)).withMarks _).lift _ _).ite (h.withTdu (by exact id))

theorem State.Keeps.emergencyHandle (h : s.Keeps t) (level : Bool) : s.Keeps (t.emergencyHandle level) := by
  unfold State.emergencyHandle
  exact (((h.withMarks _).raise _ _ _).setFlag _).ite (((h.withMarks _).lift _ _).ite h)

theorem Traction.shaped_restarted {x : Traction} (h : x.Shaped) : x.restarted.Shaped := by
  obtain ⟨hca, hcs, haa, has, -⟩ := h
  exact ⟨hca, hcs, haa, has, rfl⟩

/-! ### Changes of mode (chapter 11) -/

theorem State.Keeps.deliverTraction (h : s.Keeps t) (o : Option View) (n : View) : s.Keeps (t.deliverTraction o n) := by
  unfold State.deliverTraction
  have h1 := h.withTdu (x := { t.tdu with inputs := t.tdu.inputs.deliver o n }) id
  have h2 : s.Keeps (if levelDue o n .deadman && heldIn n.image .deadman then _ else _) := h1.deadmanHeld.ite h1
  exact (h2.emergencyHandle _).ite h2

theorem State.Keeps.deliverHorn (h : s.Keeps t) (o : Option View) (n : View) : s.Keeps (t.deliverHorn o n) := by
  unfold State.deliverHorn
  have h1 := h.withSsq (x := { t.ssq with hornLevel := heldIn n.image .horn }) ⟨fun ch => by cases ch <;> exact .refl _, id⟩
  exact State.Keeps.ite (h1.ite h1.hornRelease) h

theorem State.Keeps.deliverLevels (h : s.Keeps t) (o : Option View) (n : View) : s.Keeps (t.deliverLevels o n) :=
  (h.deliverTraction o n).deliverHorn o n

theorem State.Keeps.withMode (h : s.Keeps t) (m : Mode) : s.Keeps (t.withMode m) := h.withMcr rfl

theorem State.Keeps.changeMode (h : s.Keeps t) (m : Mode) : s.Keeps (t.changeMode m) := by
  unfold State.changeMode
  have h1 := h.withMode m
  have h2 : s.Keeps (if t.mcr.mode.sounding && !m.sounding then _ else _) :=
    (h1.withSsq (x := (t.withMode m).ssq.silenced) (Sounder.Keeps.refl _).silenced).ite h1
  have h3 : s.Keeps (if t.mcr.mode.driving && !m.driving then _ else _) :=
    (h2.withTdu (x := Traction.vigilCleared _) id).ite h2
  have h4 : s.Keeps (if !t.mcr.mode.sounding && m.sounding then _ else _) := (h3.sends (State.sends_reportChannels _)).ite h3
  have h5 (v : View) : s.Keeps (if !t.mcr.mode.active && m.active then _ else _) := (h4.deliverLevels none v).ite h4
  exact (h5 _).doorsTest.ite (h5 _)

theorem State.Keeps.enterStandby (h : s.Keeps t) : s.Keeps t.enterStandby :=
  h.trans { State.Keeps.refl t with
    slots := fun _ => t.sgt.length_cleared
    tdu := id
    rsl := fun _ => List.nodup_nil
    rtu := t.rtu.keeps_cleared
    sru := .of_nil rfl rfl
    ssq := (Sounder.Keeps.refl t.ssq).cleared }

theorem State.Keeps.standbyTest (h : s.Keeps t) : s.Keeps t.standbyTest := by
  unfold State.standbyTest
  exact h.enterStandby.ite h

theorem State.Keeps.enterHold (h : s.Keeps t) : s.Keeps t.enterHold := ((h.changeMode _).raise _ _ _).standbyTest

theorem State.Keeps.completionTest (h : s.Keeps t) : s.Keeps t.completionTest := by
  unfold State.completionTest
  exact h.enterHold.ite h

theorem State.Keeps.completionAfter (h : s.Keeps t) : s.Keeps (State.completionAfter s t) := by
  unfold State.completionAfter
  exact h.completionTest.ite h

/-- A port's restart empties its queue and its seen set (R18). -/
theorem LinePort.keeps_restarted (x : LinePort) : x.Keeps x.restarted := by
  rw [LinePort.restarted, LinePort.restartIdle_frame]
  exact ⟨fun ⟨hi, _⟩ => ⟨hi, Nat.zero_le 8⟩, fun _ => List.nodup_nil⟩

theorem LinePort.restarted_handed (x : LinePort) : x.restarted.handed = x.handed := by
  rw [LinePort.restarted, LinePort.restartIdle_frame]

theorem State.Keeps.restartBlocks (h : s.Keeps t) : s.Keeps t.restartBlocks := by
  unfold State.restartBlocks
  refine State.Keeps.raise (h.trans ?_) _ _ _
  exact { State.Keeps.refl t with
    port := fun | .a => LinePort.keeps_restarted _ | .b => LinePort.keeps_restarted _
    handed := fun _ p hp => by cases p <;> exact (LinePort.restarted_handed _).trans hp
    requests := fun _ => Nat.zero_le 4
    slots := fun _ => t.sgt.length_cleared
    tdu := Traction.shaped_restarted
    rsl := fun _ => List.nodup_nil
    rtu := t.rtu.keeps_cleared
    sru := .of_nil rfl rfl
    ssq := (Sounder.Keeps.refl t.ssq).cleared }

theorem State.Keeps.keyChanged (h : s.Keeps t) : s.Keeps t.keyChanged := by
  unfold State.keyChanged
  exact (h.restartBlocks.ite h).ite h.standbyTest

theorem State.Keeps.enterService (h : s.Keeps t) : s.Keeps t.enterService := ((h.lift _ _).changeMode _).standbyTest

theorem State.Keeps.sendStopDisplay (h : s.Keeps t) : s.Keeps t.sendStopDisplay := h.sends t.sends_sendStopDisplay

theorem State.Keeps.endCheck (h : s.Keeps t) (pass : Bool) : s.Keeps (t.endCheck pass) := by
  unfold State.endCheck
  have h0 := h.withMcr (x := { t.mcr with checkLeft := 0 }) rfl
  exact (h0.changeMode _).ite ((((h0.lift _ _).changeMode _).sendStopDisplay.standbyTest).ite
    (h0.changeMode _).sendStopDisplay)

theorem State.Keeps.startPeriod (h : s.Keeps t) : s.Keeps t.startPeriod := (h.withTdu (by exact id)).bumpFree

theorem State.Keeps.periodWork (h : s.Keeps t) : s.Keeps t.periodWork := by
  have holding : s.Keeps t.evaluateSpeed.1.releaseTest.publishHold := h.evaluateSpeed.releaseTest.publishHold
  have serving : s.Keeps t.computePeriod.1.publishSetpoint.supervise := h.computePeriod.publishSetpoint.supervise
  unfold State.periodWork
  dsimp only
  cases t.mcr.mode with
  | starting | failed | standby => exact h
  | step => exact h.publishHold
  | configure | hold =>
    dsimp only
    split
    · exact holding.periodDistance _
    · exact holding
  | service | holdPending =>
    dsimp only
    cases t.computePeriod.2.distance with
    | some d => exact (serving.periodDistance d).reversal.ite (serving.periodDistance d)
    | none => exact serving.reversal.ite serving

/-! ### The desk (chapter 3) -/

theorem State.Keeps.routePress (h : s.Keeps t) (i : DeskInput) : s.Keeps (t.routePress i) := by
  unfold State.routePress
  split
  · exact h.routeButton _
  · exact h.routeButton _
  · exact h.routeButton _
  · exact h.proceedPress
  · exact h

theorem State.Keeps.stopPress (h : s.Keeps t) (i : DeskInput) : s.Keeps (t.stopPress i) := by
  unfold State.stopPress
  split
  · exact h.doorReleasePress _
  · exact h.doorReleasePress _
  · exact h.doorClosePress
  · exact h.stopCancelPress
  · exact h

theorem State.Keeps.deliverSound (h : s.Keeps t) (c : ScanChange) : s.Keeps (t.deliverSound c) := by
  unfold State.deliverSound
  have h1 := h.deliverHorn (some c.old) c.new
  have h2 : s.Keeps (if c.pressed .horn then _ else _) := h1.hornPress.ite h1
  exact (h2.soundRequest _ _).ite h2

theorem State.Keeps.deliverTo (h : s.Keeps t) (c : ScanChange) (x : Consumer) : s.Keeps (State.deliverTo c t x) := by
  cases x with
  | control => exact h.keyChanged
  | traction => exact (h.deliverTraction _ _).ite h
  | sound => exact (h.deliverSound c).ite h
  | route => exact (State.Keeps.foldl (fun u i => (State.Keeps.refl u).routePress i) _ h).ite h
  | stops => exact (State.Keeps.foldl (fun u i => (State.Keeps.refl u).stopPress i) _ h).ite h

theorem State.Keeps.deliverScan (h : s.Keeps t) (c : ScanChange) : s.Keeps (t.deliverScan c) :=
  State.Keeps.foldl (fun u x => (State.Keeps.refl u).deliverTo c x) _ h

theorem State.Keeps.raiseDesk (h : s.Keeps t) (k : DeskKind) : s.Keeps (t.raiseDesk k) := (h.withDci _).raise _ _ _

theorem State.Keeps.loseDesk (h : s.Keeps t) : s.Keeps t.loseDesk := by
  unfold State.loseDesk
  exact State.Keeps.setFlag ((((h.withDci _).deliverLevels _ _).raiseDesk _).ite (h.withDci _)) _

theorem State.Keeps.recoverDesk (h : s.Keeps t) : s.Keeps t.recoverDesk := by
  unfold State.recoverDesk
  exact State.Keeps.setFlag ((((h.withDci _).deliverLevels _ _).lift _ _).ite (h.withDci _)) _

theorem State.Keeps.escalateDesk (h : s.Keeps t) : s.Keeps t.escalateDesk := by
  unfold State.escalateDesk
  refine State.Keeps.ite ?_ h
  split
  · exact h.raiseDesk _
  · exact h.raiseDesk _
  · exact h

theorem State.Keeps.badScan (h : s.Keeps t) : s.Keeps t.badScan := by
  unfold State.badScan
  dsimp only
  split
  · exact (h.withDci _).loseDesk.ite (h.withDci _)
  · exact h.withDci _

theorem State.Keeps.goodScan (h : s.Keeps t) (image : Word) (handle : Int) : s.Keeps (t.goodScan image handle) := by
  unfold State.goodScan
  dsimp only
  split
  · exact (h.withDci _).bumpFree.deliverScan _
  · have h1 := h.withDci { t.dci with
      image := image, handle := handle, heldKey := heldIn image .keyOn, goodRun := t.dci.goodRun + 1 }
    have h2 : s.Keeps (if t.dci.goodRun + 1 = 5 then _ else _) := h1.recoverDesk.ite h1
    exact h2.keyChanged.ite h2

theorem State.Keeps.scanExpiry (h : s.Keeps t) : s.Keeps t.scanExpiry := by
  unfold State.scanExpiry
  exact State.Keeps.withDci (h.badScan.ite h).escalateDesk _

theorem State.Keeps.judgeScan (h : s.Keeps t) (bytes : List Byte) : s.Keeps (t.judgeScan bytes) := by
  unfold State.judgeScan
  dsimp only
  split
  · exact (h.withDci _).goodScan _ _
  · exact (h.withDci _).badScan

/-! ### The track link (chapter 7) -/

theorem State.Keeps.arrivalStart (h : s.Keeps t) : s.Keeps t.arrivalStart := by
  obtain ⟨x, hx, -, -⟩ | ⟨-, -, r, -, hx⟩ := t.arrivalStart_cases <;> rw [hx]
  · exact h.withTlk x
  · exact (h.withTlk _).setFlag _

theorem State.Keeps.badTelegram (h : s.Keeps t) : s.Keeps t.badTelegram := by
  unfold State.badTelegram
  exact State.Keeps.ite (((h.withTlk _).withTlk _).linkFaulted.setFlag _) (h.withTlk _)

theorem State.Keeps.goodTelegram (h : s.Keeps t) (m : Telegram) : s.Keeps (t.goodTelegram m) := by
  unfold State.goodTelegram
  exact State.Keeps.deliverTelegram ((((h.withTlk _).withTlk _).setFlag _).ite (h.withTlk _)) m

theorem State.Keeps.arrivalEnd (h : s.Keeps t) (bytes : List Byte) : s.Keeps (t.arrivalEnd bytes) := by
  unfold State.arrivalEnd
  refine (h.withTlk _).ite ?_
  split
  · exact h
  · have h1 := h.withTlk t.tlk.leaveReceiving
    refine (h.withTlk _).ite (h1.ite (h1.badTelegram.ite ?_))
    split
    · exact h1.goodTelegram _
    · exact h1.badTelegram

theorem State.Keeps.transmissionDone (h : s.Keeps t) : s.Keeps t.transmissionDone := by
  unfold State.transmissionDone
  split
  · exact (h.withTlk _).requestSent _
  · exact h

end Sys2Proof.Machine
end

section
/-! SUPPORT. The management requests and the line port commands keep what State.Keeps says (chapters 1, 10, 11), and so
does every command but POWER_ON, which leaves each block at its power-on values. -/

namespace Sys2Proof.Machine

variable {s t u : State}

/-! ### Items (R176 to R178) -/

theorem State.Keeps.clearItem (h : s.Keeps t) (i : Item) : s.Keeps (t.clearItem i) := by
  unfold State.clearItem
  split
  · exact h.withPort ⟨id, id⟩ fun _ => id
  · exact h.withDci _
  · exact h.withTlk _
  · exact h

theorem SignalTable.bind_slots (x : SignalTable) (slot : Option Nat) (b : Binding) : (x.bind slot b).slots = x.slots := by
  cases b <;> rfl

theorem State.Keeps.writeBinding (h : s.Keeps t) (b : Binding) (slot : Option Nat) : s.Keeps (t.writeBinding b slot) := by
  have h1 : s.Keeps ((t.withSgt (t.sgt.bind slot b)).bumpFree) :=
    (h.withSgt (by rw [SignalTable.bind_slots]; exact id)).bumpFree
  unfold State.writeBinding
  refine h1.ite ?_
  cases b with
  | brake => exact h1
  | door => exact h1.doorSlotEvent slot
  | stop => exact h1.stopSlotEvent slot

theorem State.Keeps.withNotifyChannel (h : s.Keeps t) (c : Nat) (x : NotifyChannel) :
    s.Keeps (t.withEfn (t.efn.withChannel c x)) :=
  h.withEfn fun hl => List.length_set.trans hl

theorem State.Keeps.writeNotifyEnable (h : s.Keeps t) (c : Nat) (on : Bool) : s.Keeps (t.writeNotifyEnable c on) := by
  unfold State.writeNotifyEnable
  have h1 := h.withNotifyChannel c { t.efn.channel c with enable := on }
  exact (h1.sends (State.sends_sendNotify _ c)).ite h1

theorem State.Keeps.writeNotifyMap (h : s.Keeps t) (m : MapMode) : s.Keeps (t.writeNotifyMap m) :=
  State.Keeps.sends (h.withEfn (by exact id)) (State.sends_judgeChannels _ _)

theorem State.Keeps.setItem (h : s.Keeps t) (i : Item) (n : Nat) : s.Keeps (t.setItem i n) := by
  unfold State.setItem
  split
  · exact h.withTdu id
  · exact h.withRtu ⟨id, id, id⟩
  · exact h.writeBinding _ _
  · exact h.withSru ⟨id, id⟩
  · exact h.withSru ⟨id, id⟩
  · exact h.withSsq ⟨fun _ => .refl _, id⟩
  · exact h.writeNotifyEnable _ _
  · exact h.withNotifyChannel _ _
  · exact h.writeNotifyMap _
  · exact h

theorem State.Keeps.writeItem (h : s.Keeps t) (i : Item) (v : Int) : s.Keeps (t.writeItem i v).1 := by
  unfold State.writeItem
  split
  · exact h
  · split
    · exact h.setItem _ _
    · exact h
  · exact h.setItem _ _
  · exact h.clearItem i

/-! ### Tables (R179 to R183) -/

theorem State.Keeps.loadSource (h : s.Keeps t) (n : Nat) (e : StopSource) : s.Keeps (t.loadSource n e) := by
  unfold State.loadSource
  have h1 := h.withSru (x := { t.sru with sources := t.sru.sources.set n e }) ⟨id, fun hl => List.length_set.trans hl⟩
  exact (h1.sourceEnabled n).ite h1

theorem Curve.shaped_withBreakpoint {c : Curve} (h : c.Shaped) (i : Index) (b : Breakpoint) :
    (c.withBreakpoint i b).Shaped := by
  obtain ⟨hp, hb⟩ := h
  unfold Curve.withBreakpoint
  split
  · exact ⟨List.length_set.trans hp, hb⟩
  · exact ⟨hp, List.length_set.trans hb⟩

theorem State.Keeps.replaceEntry (h : s.Keeps t) (i : Index) (e : LoadedEntry) : s.Keeps (t.replaceEntry i e) := by
  cases e with
  | window w => exact h.withFcl id fun hl => List.length_set.trans hl
  | breakpoint b =>
    exact h.withTdu fun ⟨hca, hcs, haa, has, hsl⟩ => ⟨hca, Curve.shaped_withBreakpoint hcs i b, haa, has, hsl⟩
  | unit u => exact h.withTdu fun ⟨hca, hcs, haa, has, hsl⟩ => ⟨hca, hcs, haa, List.length_set.trans has, hsl⟩
  | route r => exact h.withRtu ⟨id, id, fun ⟨ha, hs⟩ => ⟨ha, List.length_set.trans hs⟩⟩
  | source e => exact h.loadSource i.number e
  | pattern p => exact h.withSsq ⟨fun ch => by cases ch <;> exact .refl _, fun hl => List.length_set.trans hl⟩

theorem State.Keeps.load (h : s.Keeps t) (n : TableName) (bank : Byte) (bytes : List Byte) :
    s.Keeps (t.load n bank bytes).1 := by
  unfold State.load State.loadInRange
  split
  · exact h
  · split
    · split
      · exact h.setFlag _
      · split
        · exact h.setFlag _
        · exact (h.replaceEntry _ _).withMcr rfl
    · exact h

theorem State.Keeps.commitTable (h : s.Keeps t) (n : Option TableName) : s.Keeps (t.commitTable n).1 := by
  unfold State.commitTable State.commitCurve State.commitAllocation State.commitRoute
  repeat' split
  any_goals exact h
  · exact h.withTdu fun ⟨_, hcs, haa, has, hsl⟩ => ⟨hcs, hcs, haa, has, hsl⟩
  · exact h.withTdu fun ⟨hca, hcs, _, has, hsl⟩ => ⟨hca, hcs, has, has, hsl⟩
  · exact h.withRtu ⟨id, id, fun ⟨_, hs⟩ => ⟨hs, hs⟩⟩

/-! ### Requests (R174) -/

/-- What a request does keeps what State.Keeps says. -/
def ActKeeps (act : Request → State → State × Answer) : Prop := ∀ r t, State.Keeps t (act r t).1

/-- A request that is answered and changes nothing else. -/
theorem ActKeeps.of_eq {act : Request → State → State × Answer} (h : ∀ r t, (act r t).1 = t) : ActKeeps act :=
  fun r t => by rw [h]; exact State.Keeps.refl t

theorem State.Keeps.answerRequest (h : s.Keeps t) {act : Request → State → State × Answer} (ha : ActKeeps act)
    (r : Request) : s.Keeps (answerRequest act r t) := by
  have hd : t.Keeps (decideRequest act r t).1 := by
    unfold decideRequest
    split
    · exact .refl t
    · exact ha r t
  exact (h.trans hd).respond r _

theorem State.Keeps.manage (h : s.Keeps t) (row : Row) {act : Request → State → State × Answer} (ha : ActKeeps act) :
    s.Keeps (manage row act t) := by
  unfold Machine.manage
  split
  · exact h
  · rename_i r rest hr
    refine State.Keeps.ite (State.Keeps.answerRequest (h.withFcl (fun hl => ?_) (by exact id)) ha r) h
    rw [hr] at hl
    exact (Nat.le_succ _).trans hl

theorem actReadItem_keeps : ActKeeps actReadItem := .of_eq fun r t => by unfold actReadItem; split <;> rfl
theorem actReadEntry_keeps : ActKeeps actReadEntry := .of_eq fun r t => by
  unfold actReadEntry
  split
  · rfl
  · split <;> rfl
theorem actReadRestrictions_keeps : ActKeeps actReadRestrictions := .of_eq fun _ _ => rfl
theorem actReadJunctions_keeps : ActKeeps actReadJunctions := .of_eq fun _ _ => rfl
theorem actReadStops_keeps : ActKeeps actReadStops := .of_eq fun _ _ => rfl
theorem actReadStep_keeps : ActKeeps actReadStep := .of_eq fun r t => by unfold actReadStep; dsimp only; split <;> rfl
theorem actUnknown_keeps : ActKeeps actUnknown := .of_eq fun _ _ => rfl

theorem actWriteItem_keeps : ActKeeps actWriteItem := fun r t => by
  unfold actWriteItem
  split
  · exact (State.Keeps.refl t).writeItem _ _
  · exact .refl t

theorem actLoadEntry_keeps : ActKeeps actLoadEntry := fun r t => by
  unfold actLoadEntry
  split
  · exact .refl t
  · exact (State.Keeps.refl t).load _ _ _

theorem actCommit_keeps : ActKeeps actCommit := fun _ t => (State.Keeps.refl t).commitTable _

theorem actReadLoadSum_keeps : ActKeeps actReadLoadSum := fun _ t => (State.Keeps.refl t).withMcr rfl

theorem actReadFlags_keeps : ActKeeps actReadFlags := fun r t => by
  unfold actReadFlags
  dsimp only
  split
  · exact .refl t
  · exact (State.Keeps.refl t).withEfn id

theorem actSetEnables_keeps : ActKeeps actSetEnables := fun r t => by
  unfold actSetEnables
  dsimp only
  split
  · exact .refl t
  · exact State.Keeps.sends ((State.Keeps.refl t).withEfn (by exact id)) (State.sends_judgeChannels _ _)

theorem actHoldSoft_keeps : ActKeeps actHoldSoft := fun _ t => by
  unfold actHoldSoft
  split
  · exact ((State.Keeps.refl t).changeMode _).completionTest.standbyTest
  all_goals exact .refl t

theorem actHoldHard_keeps : ActKeeps actHoldHard := fun _ t => by
  have h := State.Keeps.refl t
  unfold actHoldHard
  repeat' split
  any_goals exact h
  all_goals exact h.enterHold

theorem actRelease_keeps : ActKeeps actRelease := fun _ t => by
  have h := State.Keeps.refl t
  unfold actRelease
  split
  · exact (h.changeMode _).standbyTest
  · exact State.Keeps.enterService (h.withTdu (by exact id))
  all_goals exact h

theorem actStepEnter_keeps : ActKeeps actStepEnter := fun _ t => by
  unfold actStepEnter
  split
  · exact (State.Keeps.refl t).changeMode _
  all_goals exact .refl t

theorem actStepOne_keeps : ActKeeps actStepOne := fun _ t => by
  unfold actStepOne State.stepOnce
  have h := (State.Keeps.refl t).bumpFree.ageSlots.computeStep
  split
  · exact h.reversal.ite h
  · exact .refl t

theorem actStepExit_keeps : ActKeeps actStepExit := fun _ t => by
  unfold actStepExit
  split
  · exact ((State.Keeps.refl t).changeMode _).standbyTest
  · exact .refl t

theorem actEnterService_keeps : ActKeeps actEnterService := fun _ t => by
  unfold actEnterService
  repeat' split
  · exact .refl t
  · exact (State.Keeps.refl t).enterService
  · exact .refl t

theorem actRestart_keeps : ActKeeps actRestart := fun _ t => by
  have h := State.Keeps.refl t
  unfold actRestart
  repeat' split
  any_goals exact h
  all_goals exact h.restartBlocks

theorem actSetRoute_keeps : ActKeeps actSetRoute := fun _ t => (State.Keeps.refl t).withRtu ⟨id, id, id⟩

/-! ### The line ports (chapter 1) -/

theorem LinePort.keeps_storeFrame (x : LinePort) (bytes : List Byte) : x.Keeps (x.storeFrame bytes) := by
  unfold LinePort.storeFrame
  split
  · rename_i hlt
    exact ⟨fun ⟨_, he⟩ => ⟨List.length_append.trans_le hlt, he⟩, id⟩
  · exact ⟨id, id⟩

theorem LinePort.storeFrame_handed (x : LinePort) (bytes : List Byte) : (x.storeFrame bytes).handed = x.handed := by
  unfold LinePort.storeFrame
  split <;> rfl

/-- A start of a transmission takes one frame out of the queue or none. -/
theorem LinePort.keeps_startIfReady (x : LinePort) : x.Keeps x.startIfReady := by
  refine ⟨fun ⟨hi, he⟩ => ⟨?_, x.startIfReady_length_le.trans he⟩, ?_⟩ <;> rw [LinePort.startIfReady_frame]
  · exact hi
  · exact id

@[simp] theorem LinePort.startIfReady_handed (x : LinePort) : x.startIfReady.handed = x.handed := by
  rw [LinePort.startIfReady_frame]

theorem LinePort.keeps_transmissionEnd (x : LinePort) : x.Keeps x.transmissionEnd := by
  unfold LinePort.transmissionEnd
  split
  · exact .refl x
  · dsimp only
    split
    · exact ⟨id, id⟩
    · exact .trans (by exact ⟨id, id⟩) (LinePort.keeps_startIfReady _)

theorem LinePort.transmissionEnd_handed (x : LinePort) : x.transmissionEnd.handed = x.handed := by
  unfold LinePort.transmissionEnd
  split
  · rfl
  · dsimp only
    split
    · rfl
    · exact LinePort.startIfReady_handed _

theorem LinePort.keeps_goDown (x : LinePort) : x.Keeps x.goDown := by
  rw [LinePort.goDown, LinePort.restartIdle_frame]
  exact ⟨fun ⟨hi, _⟩ => ⟨hi, Nat.zero_le 8⟩, id⟩

theorem LinePort.goDown_handed (x : LinePort) : x.goDown.handed = x.handed := by
  rw [LinePort.goDown, LinePort.restartIdle_frame]

theorem LinePort.keeps_idleExpiry (x : LinePort) : x.Keeps x.idleExpiry := by
  unfold LinePort.idleExpiry
  split <;> exact ⟨id, id⟩

theorem LinePort.idleExpiry_handed (x : LinePort) : x.idleExpiry.handed = x.handed := by
  unfold LinePort.idleExpiry
  split <;> rfl

/-- A source is recorded once (R9). -/
theorem LinePort.keeps_record (x : LinePort) (src : Byte) : x.Keeps (x.record src) := by
  unfold LinePort.record
  split
  · exact .refl x
  · rename_i hn
    refine ⟨id, fun hd => hd.append (List.nodup_singleton _) (List.disjoint_singleton.mpr ?_)⟩
    simpa using hn

theorem LinePort.record_handed (x : LinePort) (src : Byte) : (x.record src).handed = x.handed := by
  unfold LinePort.record
  split <;> rfl

theorem State.Keeps.activityExpiry (h : s.Keeps t) (p : Line) : s.Keeps (t.activityExpiry p) := by
  unfold State.activityExpiry
  have hd := (t.port p).keeps_goDown
  split
  · exact (h.withPort (by exact ⟨hd.fits, hd.seen⟩) (by exact fun _ hh => (LinePort.goDown_handed _).trans hh)).setFlag _
  · exact h.withPort ⟨id, id⟩ fun _ => id

theorem State.Keeps.forwardFrom (h : s.Keeps t) (p : Line) (f : Frame) : s.Keeps (t.forwardFrom p f) := by
  rw [State.forwardFrom_eq]
  have hp := (t.port (otherPort p)).sends_presentForward f
  exact (h.withPort hp.keeps fun _ hh => hp.handed.trans hh).setDrops _ _

/-- Only a part with a node address hands a frame to the classifier (R1, R10). -/
theorem State.Keeps.decideForwarding (h : s.Keeps t) (p : Line) (f : Frame) : s.Keeps (t.decideForwarding p f) := by
  unfold State.decideForwarding
  have h1 : t.Keeps (if forwards t.mcr.address f then t.forwardFrom p f else t) :=
    ((State.Keeps.refl t).forwardFrom p f).ite (.refl t)
  dsimp only
  split
  · rename_i hc
    refine (h.trans h1).withPort ⟨id, id⟩ fun hn => ?_
    rw [h1.address.symm.trans hn] at hc
    cases hc
  · exact h.trans h1

theorem State.Keeps.handleFrame (h : s.Keeps t) (p : Line) : s.Keeps (t.handleFrame p) := by
  unfold State.handleFrame
  split
  · exact h
  rename_i bytes rest hi
  have taken : (t.port p).Fits → rest.length ≤ 2 ∧ (t.port p).egress.length ≤ 8 := fun ⟨h2, h8⟩ => by
    rw [hi] at h2
    exact ⟨(Nat.le_succ _).trans h2, h8⟩
  dsimp only
  split
  · exact h.withPort ⟨taken, id⟩ fun _ => id
  · refine State.Keeps.ite (h.withPort (by exact ⟨taken, id⟩) (by exact fun _ => id))
      (State.Keeps.decideForwarding (h.withPort ?_ ?_) p _)
    · exact .trans (by exact ⟨taken, id⟩) (LinePort.keeps_record _ _)
    · exact fun _ hh => (LinePort.record_handed _ _).trans hh

/-! ### Every command -/

theorem State.keeps_tick (s : State) : s.Keeps s.tick :=
  { State.Keeps.refl s with
    port := fun | .a => ⟨id, id⟩ | .b => ⟨id, id⟩
    handed := fun _ p => by cases p <;> exact id
    rtu := ⟨id, id, id⟩
    ssq := ⟨fun | .horn => ⟨id, id⟩ | .bell => ⟨id, id⟩ | .chime => ⟨id, id⟩, id⟩ }

/-- What keeps a state keeps the state that a command answers with. -/
theorem State.Keeps.of_next (k : s.Keeps u) (h : (.next u : Host.Outcome State Fault Refusal) = .next t) : s.Keeps t :=
  Host.Outcome.next.inj h ▸ k

/-- CLASSIFY_FRAME takes a frame that was handed over, which a part with no address has none of (R1, R11). -/
theorem execClassifyFrame_keeps {p : Line} (h : execClassifyFrame p s = .next t) : s.Keeps t := by
  unfold execClassifyFrame at h
  split at h
  · exact .of_next (.refl s) h
  · rename_i f rest hh
    refine .of_next (State.Keeps.classify ((State.Keeps.refl s).withPort (by exact ⟨id, id⟩) fun _ hn => ?_) f) h
    rw [hn] at hh
    cases hh

/-- Every command but POWER_ON keeps what each block keeps. -/
theorem exec_keeps {c : Instr} (hc : ∀ n, c ≠ .powerOn n) (h : exec c s = .next t) : s.Keeps t := by
  have k := State.Keeps.refl s
  cases c with
  | powerOn n => exact absurd rfl (hc n)
  | idleMarkerArrival p => exact .of_next (k.withPort (by exact ⟨id, id⟩) (by exact fun _ => id)) h
  | frameArrivalStart p => exact .of_next (k.withPort (by exact ⟨id, id⟩) (by exact fun _ => id)) h
  | frameArrivalEnd p bytes =>
    exact .of_next (k.withPort (LinePort.keeps_storeFrame _ _) fun _ hn => (LinePort.storeFrame_handed _ _).trans hn) h
  | frameHandling p => exact .of_next (k.handleFrame p) h
  | activityTimerExpiry p => exact .of_next (k.activityExpiry p) h
  | idleTimerExpiry p =>
    exact .of_next (k.withPort (LinePort.keeps_idleExpiry _) fun _ hn => (LinePort.idleExpiry_handed _).trans hn) h
  | idleMarkerEnd p =>
    have hm := LinePort.keeps_startIfReady { s.port p with marker := false }
    exact .of_next (k.withPort ⟨hm.fits, hm.seen⟩ fun _ hn => (LinePort.startIfReady_handed _).trans hn) h
  | transmissionEnd p =>
    exact .of_next (k.withPort (LinePort.keeps_transmissionEnd _) fun _ hn => (LinePort.transmissionEnd_handed _).trans hn) h
  | classifyFrame p => exact execClassifyFrame_keeps h
  | ageTick => exact .of_next (State.Keeps.ite (k.withSgt (by exact id)) (State.Keeps.ageSlots (k.withSgt (by exact id)))) h
  | scanTimerExpiry => exact .of_next (k.scanExpiry.completionAfter) h
  | scanArrivalEnd scan => exact .of_next ((k.judgeScan _).completionAfter.ite k) h
  | controlPeriod => exact .of_next (k.startPeriod.periodWork.completionTest.standbyTest.ite k.startPeriod.periodWork) h
  | attemptTimerExpiry => exact .of_next (k.failAttempt.ite k) h
  | telegramArrivalStart => exact .of_next k.arrivalStart h
  | telegramArrivalEnd bytes => exact .of_next ((k.arrivalEnd bytes).completionAfter) h
  | requestTransmissionEnd => exact .of_next k.transmissionDone h
  | soundStepBoundary ch load => exact .of_next ((k.soundBoundary ch load).completionAfter) h
  | directHornMinEnd => exact .of_next (k.hornMinEnd.completionAfter) h
  | directHornInterval load => exact .of_next (k.hornInterval load) h
  | startupCheckEnd pass => exact .of_next ((k.endCheck pass).ite k) h
  | readItem => exact .of_next (k.manage _ actReadItem_keeps) h
  | writeItem => exact .of_next (k.manage _ actWriteItem_keeps) h
  | loadEntry => exact .of_next (k.manage _ actLoadEntry_keeps) h
  | readEntry => exact .of_next (k.manage _ actReadEntry_keeps) h
  | commit => exact .of_next (k.manage _ actCommit_keeps) h
  | readLoadSum => exact .of_next (k.manage _ actReadLoadSum_keeps) h
  | readFlags => exact .of_next (k.manage _ actReadFlags_keeps) h
  | setEnables => exact .of_next (k.manage _ actSetEnables_keeps) h
  | readRestrictions => exact .of_next (k.manage _ actReadRestrictions_keeps) h
  | readJunctions => exact .of_next (k.manage _ actReadJunctions_keeps) h
  | readStops => exact .of_next (k.manage _ actReadStops_keeps) h
  | readStep => exact .of_next (k.manage _ actReadStep_keeps) h
  | holdSoft => exact .of_next (k.manage _ actHoldSoft_keeps) h
  | holdHard => exact .of_next (k.manage _ actHoldHard_keeps) h
  | release => exact .of_next (k.manage _ actRelease_keeps) h
  | stepEnter => exact .of_next (k.manage _ actStepEnter_keeps) h
  | stepOne => exact .of_next (k.manage _ actStepOne_keeps) h
  | stepExit => exact .of_next (k.manage _ actStepExit_keeps) h
  | enterService => exact .of_next (k.manage _ actEnterService_keeps) h
  | restart => exact .of_next (k.manage _ actRestart_keeps) h
  | setRoute => exact .of_next (k.manage _ actSetRoute_keeps) h
  | unknownRequest => exact .of_next (k.manage _ actUnknown_keeps) h

end Sys2Proof.Machine
end

section
/-! SUPPORT. Reset and power-on (R1, R193), and what a part in FAILED with no request and nothing handed over keeps
of its mode and its queue, whatever the command. -/

namespace Sys2Proof.Machine

variable {s t u : State}

/-! ### Reset -/

theorem State.reset_fits : State.reset.Fits := by decide
theorem State.reset_shaped : State.reset.Shaped :=
  ⟨rfl, List.length_replicate, ⟨rfl, rfl⟩, ⟨rfl, rfl⟩, rfl, rfl, rfl, rfl, rfl, rfl, rfl, rfl⟩
theorem State.reset_distinct : State.reset.Distinct := by decide
theorem State.reset_soundOrdered : State.reset.SoundOrdered := by decide
theorem State.reset_modeHeld : State.reset.ModeHeld := by decide
theorem State.reset_doorsHeld : State.reset.DoorsHeld := by decide
theorem State.reset_junctionsMirrored : State.reset.JunctionsMirrored := by decide
theorem State.reset_keysZero : State.reset.KeysZero := by decide
theorem State.reset_attemptHeld : State.reset.AttemptHeld := by decide
theorem State.reset_itemsInRange : State.reset.ItemsInRange := by decide
theorem State.reset_effortBounded : State.reset.EffortBounded := by decide
theorem State.reset_silentUnaddressed : State.reset.SilentUnaddressed := by decide

theorem State.reset_atPowerOn : State.reset.AtPowerOn :=
  ⟨fun p => by cases p <;> rfl, rfl, rfl, rfl, rfl, rfl, rfl, rfl, rfl, rfl, rfl, rfl, fun ch => by cases ch <;> rfl, rfl,
    rfl, rfl⟩

/-! ### Power-on -/

/-- What POWER_ON leaves of `s` with a mode control: the blocks of reset, the commands that wait (log 26, log 32). -/
def State.poweredOn (s : State) (c : Control) : State :=
  ((State.reset.withMcr c).withEnv ⟨0, s.env.free⟩).withPending s.pending

theorem powerOnState_of_node {n : Nat} (h1 : 1 ≤ n) (h62 : n ≤ 62) :
    powerOnState (BitVec.ofNat 6 n) = State.reset.withMcr ⟨.starting, some (BitVec.ofNat 8 n), 250, 0⟩ := by
  have hn : ¬ (BitVec.ofNat 6 n = 0 ∨ BitVec.ofNat 6 n = 63) := by
    rintro (h | h) <;> have := congrArg BitVec.toNat h <;> simp at this <;> omega
  have hw : (BitVec.ofNat 6 n).setWidth 8 = BitVec.ofNat 8 n := by
    apply BitVec.eq_of_toNat_eq
    simp only [BitVec.toNat_setWidth, BitVec.toNat_ofNat]
    omega
  rw [powerOnState, if_neg hn, hw]
  rfl

theorem powerOnState_of_none {x : BitVec 6} (h : x = 0 ∨ x = 63) :
    powerOnState x = State.reset.withMcr ⟨.failed, none, 0, 0⟩ := by
  rw [powerOnState, if_pos h]
  rfl

/-- Any reading of the straps leaves the blocks of reset, and without a node address FAILED (R1, R193). -/
theorem exec_powerOn_cases (n : Nat) (s : State) :
    ∃ c : Control, exec (.powerOn n) s = .next (s.poweredOn c) ∧ (c.address = none → c.mode = .failed) := by
  by_cases h : BitVec.ofNat 6 n = 0 ∨ BitVec.ofNat 6 n = 63
  · refine ⟨⟨.failed, none, 0, 0⟩, ?_, fun _ => rfl⟩
    rw [exec, execPowerOn, powerOnState_of_none h]
    rfl
  · refine ⟨⟨.starting, some ((BitVec.ofNat 6 n).setWidth 8), 250, 0⟩, ?_, fun hn => by cases hn⟩
    rw [exec, execPowerOn, powerOnState, if_neg h]
    rfl

/-- A step is one millisecond, or a power-on, or another command on the state with the queue's rest. -/
theorem step_cases (h : step s = .next t) :
    t = s.tick ∨ (∃ (u : State) (c : Control), t = u.poweredOn c ∧ (c.address = none → c.mode = .failed)) ∨
      ∃ c rest, (∀ n, c ≠ .powerOn n) ∧ exec c (s.withPending rest) = .next t := by
  unfold step at h
  split at h
  · exact .inl (Host.Outcome.next.inj h).symm
  · rename_i c rest _
    by_cases hc : ∃ n, c = .powerOn n
    · obtain ⟨n, rfl⟩ := hc
      obtain ⟨x, hx, hm⟩ := exec_powerOn_cases n (s.withPending rest)
      exact .inr (.inl ⟨_, x, Host.Outcome.next.inj (h.symm.trans hx), hm⟩)
    · exact .inr (.inr ⟨c, rest, fun n hn => hc ⟨n, hn⟩, h⟩)

/-- A step keeps what each block keeps, or it is a power-on. -/
theorem step_keeps (h : step s = .next t) : s.Keeps t ∨ ∃ (u : State) (c : Control), t = u.poweredOn c := by
  obtain rfl | ⟨u, c, rfl, -⟩ | ⟨c, rest, hc, hx⟩ := step_cases h
  · exact .inl s.keeps_tick
  · exact .inr ⟨u, c, rfl⟩
  · exact .inl (((State.Keeps.refl s).withPending rest).trans (exec_keeps hc hx))

/-! ### A part in FAILED (R195) -/

/-- The part is in FAILED and no request waits. -/
def State.AtRest (s : State) : Prop := s.mcr.mode = .failed ∧ s.fcl.requests = []

theorem State.AtRest.of_eq (h : s.AtRest) (hm : t.mcr.mode = s.mcr.mode) (hf : t.fcl = s.fcl) : t.AtRest :=
  ⟨hm.trans h.1, by rw [hf]; exact h.2⟩

theorem State.AtRest.ite {c : Prop} {_ : Decidable c} (h : s.AtRest) (k : t.AtRest) : (if c then s else t).AtRest := by
  split
  · exact h
  · exact k

theorem State.AtRest.withPort (h : s.AtRest) (p : Line) (x : LinePort) : (s.withPort p x).AtRest := h
theorem State.AtRest.withSgt (h : s.AtRest) (x : SignalTable) : (s.withSgt x).AtRest := h
theorem State.AtRest.withDci (h : s.AtRest) (x : Desk) : (s.withDci x).AtRest := h
theorem State.AtRest.withTlk (h : s.AtRest) (x : TrackLink) : (s.withTlk x).AtRest := h
theorem State.AtRest.withSsq (h : s.AtRest) (x : Sounder) : (s.withSsq x).AtRest := h
theorem State.AtRest.bumpFree (h : s.AtRest) : s.bumpFree.AtRest := h
theorem State.AtRest.startPeriod (h : s.AtRest) : s.startPeriod.AtRest := h

theorem State.AtRest.sends (h : s.AtRest) (k : s.Sends t) : t.AtRest := h.of_eq (by rw [k.same.mcr]) k.same.fcl

theorem State.AtRest.setFlag (h : s.AtRest) (f : Flag) : (s.setFlag f).AtRest := h.sends (s.sends_setFlag f)

/-- No mode of those that serve the desk, the stops and the doors (R44). -/
theorem State.AtRest.active (h : s.AtRest) : s.mcr.mode.active = false := by rw [h.1]; rfl
theorem State.AtRest.routing (h : s.AtRest) : s.mcr.mode.routing = false := by rw [h.1]; rfl
theorem State.AtRest.driving (h : s.AtRest) : s.mcr.mode.driving = false := by rw [h.1]; rfl

theorem State.AtRest.doorSlotEvent (h : s.AtRest) (b : Option Nat) : (s.doorSlotEvent b).AtRest := by
  unfold State.doorSlotEvent State.doorSummary State.doorSummaryStale
  repeat' split
  all_goals exact h.of_eq (by simp) (by simp)

theorem State.AtRest.stopSlotEvent (h : s.AtRest) (b : Option Nat) : (s.stopSlotEvent b).AtRest := by
  unfold State.stopSlotEvent State.stopButtons
  simp only [h.active, Bool.not_false, if_true]
  split
  · exact State.AtRest.ite h h
  · exact h

theorem State.AtRest.slotEvent (h : s.AtRest) (i : Nat) : (s.slotEvent i).AtRest := by
  unfold State.slotEvent
  have first : (if s.sgt.doorSlot = some i then s.doorSlotEvent (some i) else s).AtRest := (h.doorSlotEvent _).ite h
  exact (first.stopSlotEvent _).ite first

theorem State.AtRest.ageSlots (h : s.AtRest) : s.ageSlots.AtRest := by
  have events : ∀ (l : List Nat) {u : State}, u.AtRest → (l.foldl State.slotEvent u).AtRest := fun l => by
    induction l with
    | nil => exact id
    | cons i l ih => exact fun hu => ih (hu.slotEvent i)
  have aged := events s.sgt.goingStale (u := s.withSgt s.sgt.aged) h
  exact aged.ite (aged.setFlag _)

theorem State.AtRest.completionTest (h : s.AtRest) : s.completionTest.AtRest := by
  rw [State.completionTest, if_neg (by simp [h.1])]
  exact h

theorem State.AtRest.completionAfter (h : s.AtRest) (before : State) : (State.completionAfter before s).AtRest :=
  h.completionTest.ite h

theorem State.AtRest.loseDesk (h : s.AtRest) : s.loseDesk.AtRest := by
  unfold State.loseDesk
  simp only [h.active, Bool.false_eq_true, if_false]
  exact (h.withDci _).setFlag _

theorem State.AtRest.recoverDesk (h : s.AtRest) : s.recoverDesk.AtRest := by
  unfold State.recoverDesk
  simp only [h.active, Bool.false_eq_true, if_false]
  exact (h.withDci _).setFlag _

theorem State.AtRest.badScan (h : s.AtRest) : s.badScan.AtRest := by
  unfold State.badScan
  dsimp only
  split
  · exact State.AtRest.ite ((h.withDci _).loseDesk) h
  · exact h

theorem State.AtRest.scanExpiry (h : s.AtRest) : s.scanExpiry.AtRest := by
  have bad : (if s.dci.exchangeOpen then s.badScan else s).AtRest := h.badScan.ite h
  have quiet : (if s.dci.exchangeOpen then s.badScan else s).escalateDesk = _ := if_neg (by simp [bad.active])
  unfold State.scanExpiry
  rw [quiet]
  exact bad

/-- In FAILED the key changes nothing (R200, R201). -/
theorem State.AtRest.keyChanged (h : s.AtRest) : s.keyChanged.AtRest := by
  have off : s.standbyTest = s := if_neg (by simp [h.1, Mode.driving])
  have on : (if s.mcr.mode = .standby then s.restartBlocks else s) = s := if_neg (by simp [h.1])
  rw [State.keyChanged, off, on, ite_self]
  exact h

/-- In FAILED no desk input is delivered but the key (R44). -/
theorem State.AtRest.deliverTo (h : s.AtRest) (c : ScanChange) (x : Consumer) : (State.deliverTo c s x).AtRest := by
  cases x with
  | control => exact h.keyChanged
  | traction | sound | route | stops =>
    unfold State.deliverTo
    simp only [h.active, Bool.false_eq_true, if_false]
    exact h

theorem State.AtRest.deliverScan (h : s.AtRest) (c : ScanChange) : (s.deliverScan c).AtRest := by
  have shares : ∀ (l : List Consumer) {u : State}, u.AtRest → (l.foldl (State.deliverTo c) u).AtRest := fun l => by
    induction l with
    | nil => exact id
    | cons x l ih => exact fun hu => ih (hu.deliverTo c x)
  exact shares _ h

theorem State.AtRest.goodScan (h : s.AtRest) (image : Word) (handle : Int) : (s.goodScan image handle).AtRest := by
  unfold State.goodScan
  dsimp only
  split
  · exact (h.withDci _).bumpFree.deliverScan _
  · have stored := h.withDci { s.dci with
      image := image, handle := handle, heldKey := heldIn image .keyOn, goodRun := s.dci.goodRun + 1 }
    have recovered : (if s.dci.goodRun + 1 = 5 then _ else _ : State).AtRest := stored.recoverDesk.ite stored
    exact recovered.keyChanged.ite recovered

theorem State.AtRest.judgeScan (h : s.AtRest) (bytes : List Byte) : (s.judgeScan bytes).AtRest := by
  unfold State.judgeScan
  dsimp only
  split
  · exact (h.withDci _).goodScan _ _
  · exact (h.withDci _).badScan

theorem State.AtRest.badTelegram (h : s.AtRest) : s.badTelegram.AtRest := by
  unfold State.badTelegram State.linkFaulted
  simp only [State.withTlk_mcr, h.routing, Bool.not_false, if_true]
  exact (((h.withTlk _).withTlk _).setFlag _).ite (h.withTlk _)

theorem State.AtRest.deliverTelegram (h : s.AtRest) (m : Telegram) : (s.deliverTelegram m).AtRest := by
  unfold State.deliverTelegram
  simp only [h.routing, Bool.not_false, if_true]
  exact h

theorem State.AtRest.goodTelegram (h : s.AtRest) (m : Telegram) : (s.goodTelegram m).AtRest := by
  unfold State.goodTelegram
  exact State.AtRest.deliverTelegram ((((h.withTlk _).withTlk _).setFlag _).ite (h.withTlk _)) m

theorem State.AtRest.arrivalEnd (h : s.AtRest) (bytes : List Byte) : (s.arrivalEnd bytes).AtRest := by
  have left : (s.withTlk s.tlk.leaveReceiving).AtRest := h
  unfold State.arrivalEnd
  refine State.AtRest.ite h ?_
  split
  · exact h
  · refine State.AtRest.ite h (left.ite (left.badTelegram.ite ?_))
    split
    · exact left.goodTelegram _
    · exact left.badTelegram

theorem State.AtRest.arrivalStart (h : s.AtRest) : s.arrivalStart.AtRest := by
  obtain ⟨x, hx, -, -⟩ | ⟨-, -, r, -, hx⟩ := s.arrivalStart_cases <;> rw [hx]
  · exact h
  · exact (h.withTlk _).setFlag _

theorem State.AtRest.requestSent (h : s.AtRest) (q : Byte) : (s.requestSent q).AtRest := by
  unfold State.requestSent
  split
  · exact h
  · exact State.AtRest.ite h h

theorem State.AtRest.transmissionDone (h : s.AtRest) : s.transmissionDone.AtRest := by
  unfold State.transmissionDone
  split
  · exact (h.withTlk _).requestSent _
  · exact h

theorem State.AtRest.judgeLoad (h : s.AtRest) (ch : Channel) (load : Bool) : (s.judgeLoad ch load).AtRest :=
  h.of_eq (by simp) (by simp)

theorem State.AtRest.soundBoundary (h : s.AtRest) (ch : Channel) (load : Bool) : (s.soundBoundary ch load).AtRest := by
  unfold State.soundBoundary
  split
  · exact h
  · exact h.ite ((h.judgeLoad ch load).ite h)

theorem State.AtRest.hornMinEnd (h : s.AtRest) : s.hornMinEnd.AtRest := by
  unfold State.hornMinEnd
  split
  · exact h
  · exact State.AtRest.ite h h

theorem State.AtRest.hornInterval (h : s.AtRest) (load : Bool) : (s.hornInterval load).AtRest := by
  unfold State.hornInterval
  split
  · exact h
  · exact (h.withSsq _).judgeLoad _ _

theorem State.AtRest.decideForwarding (h : s.AtRest) (p : Line) (f : Frame) : (s.decideForwarding p f).AtRest := by
  have forwarded : (if forwards s.mcr.address f then s.forwardFrom p f else s).AtRest := by
    rw [State.forwardFrom_eq]
    exact State.AtRest.ite ((h.withPort _ _).sends (State.sends_setDrops _ _ _)) h
  exact State.AtRest.ite forwarded forwarded

theorem State.AtRest.handleFrame (h : s.AtRest) (p : Line) : (s.handleFrame p).AtRest := by
  unfold State.handleFrame
  dsimp only
  split
  · exact h
  split
  · exact h
  · exact State.AtRest.ite h ((h.withPort p _).decideForwarding p _)

theorem State.AtRest.activityExpiry (h : s.AtRest) (p : Line) : (s.activityExpiry p).AtRest := by
  unfold State.activityExpiry
  split
  · exact (h.withPort p _).setFlag _
  · exact h

theorem State.AtRest.periodWork (h : s.AtRest) : s.periodWork.AtRest := by
  unfold State.periodWork
  rw [h.1]
  exact h

theorem State.AtRest.manage (h : s.AtRest) (row : Row) (act : Request → State → State × Answer) :
    (manage row act s).AtRest := by
  rw [Machine.manage, h.2]
  exact h

/-- What is at rest is the state that a command answers with. -/
theorem State.AtRest.of_next (k : u.AtRest) (h : (.next u : Host.Outcome State Fault Refusal) = .next t) : t.AtRest :=
  Host.Outcome.next.inj h ▸ k

/-- A part at rest with nothing handed over to its classifier stays at rest until POWER_ON. -/
theorem exec_atRest {c : Instr} (hc : ∀ n, c ≠ .powerOn n) (k : s.AtRest) (hh : ∀ p, (s.port p).handed = [])
    (h : exec c s = .next t) : t.AtRest := by
  cases c with
  | powerOn n => exact absurd rfl (hc n)
  | idleMarkerArrival p | frameArrivalStart p | frameArrivalEnd p bytes | idleTimerExpiry p | idleMarkerEnd p
  | transmissionEnd p => exact .of_next (u := s.withPort p _) k h
  | frameHandling p => exact .of_next (k.handleFrame p) h
  | activityTimerExpiry p => exact .of_next (k.activityExpiry p) h
  | classifyFrame p =>
    simp only [exec, execClassifyFrame, hh] at h
    exact .of_next k h
  | ageTick => exact .of_next ((k.withSgt _).ite (k.withSgt _).ageSlots) h
  | scanTimerExpiry => exact .of_next (k.scanExpiry.completionAfter s) h
  | scanArrivalEnd scan => exact .of_next (((k.judgeScan _).completionAfter s).ite k) h
  | controlPeriod =>
    have period : s.startPeriod.periodWork.AtRest := k.startPeriod.periodWork
    simp only [exec, execControlPeriod, k.1, Mode.evaluates] at h
    exact .of_next period h
  | attemptTimerExpiry =>
    simp only [exec, execAttemptTimerExpiry, State.attemptExpires, State.attemptRunning, k.driving, Bool.and_false,
      Bool.false_and] at h
    exact .of_next k h
  | telegramArrivalStart => exact .of_next k.arrivalStart h
  | telegramArrivalEnd bytes => exact .of_next ((k.arrivalEnd bytes).completionAfter s) h
  | requestTransmissionEnd => exact .of_next k.transmissionDone h
  | soundStepBoundary ch load => exact .of_next ((k.soundBoundary ch load).completionAfter s) h
  | directHornMinEnd => exact .of_next (k.hornMinEnd.completionAfter s) h
  | directHornInterval load => exact .of_next (k.hornInterval load) h
  | startupCheckEnd pass =>
    simp only [exec, execStartupCheckEnd, k.1, reduceCtorEq, if_false] at h
    exact .of_next k h
  | readItem | writeItem | loadEntry | readEntry | commit | readLoadSum | readFlags | setEnables | readRestrictions
  | readJunctions | readStops | readStep | holdSoft | holdHard | release | stepEnter | stepOne | stepExit | enterService
  | restart | setRoute | unknownRequest => exact .of_next (k.manage _ _) h

end Sys2Proof.Machine

/-! ### The statements -/

namespace Sys2Proof.Machine

/-- Settles O52: every property that the steps keep is decided at reset, but for the tables' sizes. -/
theorem resetIsSound : Obligations.ResetIsSound :=
  ⟨State.reset_fits, State.reset_shaped, State.reset_distinct, State.reset_soundOrdered, State.reset_modeHeld,
    State.reset_doorsHeld, State.reset_junctionsMirrored, State.reset_keysZero, State.reset_attemptHeld,
    State.reset_itemsInRange, State.reset_effortBounded, State.reset_silentUnaddressed⟩

/-- Settles O4: the straps choose the mode control, and every other block is that of reset. -/
theorem powerOnSetsStart : Obligations.PowerOnSetsStart := by
  have blocks (s : State) (c : Control) : (s.poweredOn c).AtPowerOn := State.reset_atPowerOn
  refine ⟨fun n s h1 h62 => ⟨s.poweredOn _, ?_, rfl, blocks s _, rfl, rfl⟩,
    fun n s h => ⟨s.poweredOn _, ?_, rfl, blocks s _, rfl, rfl⟩⟩
  · rw [exec, execPowerOn, powerOnState_of_node h1 h62]
    rfl
  · rw [exec, execPowerOn, powerOnState_of_none (by obtain rfl | rfl := h <;> decide)]
    rfl

/-- Settles O53: a step stays within State.Keeps, or it is a power-on and leaves the queues and tables of reset. -/
theorem stepKeepsCapacities : Obligations.StepKeepsCapacities := by
  intro s t hf hs h
  obtain k | ⟨u, c, rfl⟩ := step_keeps h
  · exact ⟨k.fits hf, k.shaped hs⟩
  · exact ⟨State.reset_fits, State.reset_shaped⟩

/-- Settles O54: a step stays within State.Keeps, or it is a power-on and leaves the collections of reset. -/
theorem stepKeepsIdentities : Obligations.StepKeepsIdentities := by
  refine ⟨fun s t hd h => ?_, fun s t ho h => ?_⟩
  · obtain k | ⟨u, c, rfl⟩ := step_keeps h
    · exact k.distinct hd
    · exact State.reset_distinct
  · obtain k | ⟨u, c, rfl⟩ := step_keeps h
    · exact k.soundOrdered ho
    · exact State.reset_soundOrdered

/-- Settles O60: but for POWER_ON no command gives a node address or hands a frame over without one, and in FAILED
with nothing to classify or answer none changes the mode or brings a request. -/
theorem stepKeepsUnaddressedSilent : Obligations.StepKeepsUnaddressedSilent := by
  intro s t hs h hn
  obtain rfl | ⟨u, c, rfl, hc⟩ | ⟨c, rest, hc, hx⟩ := step_cases h
  · exact hs hn
  · exact ⟨hc hn, rfl, rfl, rfl⟩
  · have k := exec_keeps hc hx
    have hnone : s.mcr.address = none := k.address.symm.trans hn
    obtain ⟨hm, hq, ha, hb⟩ := hs hnone
    obtain ⟨tm, tq⟩ := exec_atRest (s := s.withPending rest) hc ⟨hm, hq⟩ (fun | .a => ha | .b => hb) hx
    exact ⟨tm, tq, k.handed hnone .a ha, k.handed hnone .b hb⟩

end Sys2Proof.Machine
end

section
/-! SUPPORT. The line port commands and the frame layout, with the statements about them (chapter 1, R204). -/

namespace Sys2Proof.Machine

/-! ### Ports (R2 to R5, R14) -/

/-- Settles O5, by what each of the three commands does to its port. -/
theorem lineActivityIsTaken : Obligations.LineActivityIsTaken := by
  refine ⟨fun p s => ⟨rfl, rfl⟩, fun p bytes s => ?_⟩
  rw [exec, execFrameArrivalEnd, LinePort.storeFrame]
  rfl

theorem satInc_toNat (c : Half) : (satInc c).toNat = min 65535 (c.toNat + 1) := by
  have hc := c.isLt
  unfold satInc
  split
  · rename_i h
    rw [h]
    rfl
  · rename_i h
    have hne : c.toNat ≠ 65535 := fun hn => h (BitVec.eq_of_toNat_eq hn)
    change (c.toNat + 1) % 65536 = _
    omega

/-- `n` counts on a saturating counter (R17). -/
theorem satInc_iterate_toNat (n : Nat) (c : Half) : (satInc^[n] c).toNat = min 65535 (c.toNat + n) := by
  induction n generalizing c with
  | zero =>
    have hc := c.isLt
    simp only [Function.iterate_zero_apply]
    omega
  | succ n ih =>
    rw [Function.iterate_succ_apply, ih, satInc_toNat]
    omega

theorem LinePort.length_toSend (p : LinePort) :
    p.toSend.length = p.egress.length + (if p.inFlight.isSome then 1 else 0) := by
  unfold LinePort.toSend
  cases p.inFlight <;> simp

/-- A port that goes DOWN touches its link, its egress side and LINK_DISCARD (R3). -/
theorem LinePort.goDown_frame (p : LinePort) :
    p.goDown = { p with
      link := .down, egress := [], inFlight := none, idleLeft := p.goDown.idleLeft
      counters := { p.counters with linkDiscard := satInc^[p.toSend.length] p.counters.linkDiscard } } := by
  rw [LinePort.goDown, LinePort.restartIdle_frame, LinePort.length_toSend]

/-- Settles O9: a DOWN port restarts its timer, and an UP port goes down with every frame it has to send counted. -/
theorem activityExpiryFlushes : Obligations.ActivityExpiryFlushes := by
  intro p s
  refine ⟨fun hd => ?_, fun hu => ⟨(s.port p).goDown.active, _, ?_, rfl, ?_⟩⟩
  · rw [exec, execActivityTimerExpiry, State.activityExpiry, hd]
    rfl
  · rw [exec, execActivityTimerExpiry, State.activityExpiry, hu]
  · rw [LinePort.goDown_frame]
    exact ⟨rfl, rfl, rfl, rfl, satInc_iterate_toNat _ _, rfl, rfl⟩

/-- A transmission that ends with no frame waiting starts the idle timer (R4). -/
theorem LinePort.transmissionEnd_of_nil {p : LinePort} {e : Entry} (h : p.inFlight = some e) (hq : p.egress = []) :
    p.transmissionEnd = { p with
      inFlight := none
      idleLeft := some 5
      counters :=
        if e.origin = .forward then { p.counters with forwarded := satInc p.counters.forwarded } else p.counters } := by
  simp only [LinePort.transmissionEnd, h, hq]
  rfl

/-- A transmission that ends with a frame waiting lets it start if it can (R14). -/
theorem LinePort.transmissionEnd_of_cons {p : LinePort} {e y : Entry} {rest : List Entry} (h : p.inFlight = some e)
    (hq : p.egress = y :: rest) :
    p.transmissionEnd = LinePort.startIfReady { p with
      inFlight := none
      counters :=
        if e.origin = .forward then { p.counters with forwarded := satInc p.counters.forwarded } else p.counters } := by
  simp only [LinePort.transmissionEnd, h, hq]

/-- A transmission's end counts a forwarded frame (R14). -/
theorem LinePort.transmissionEnd_forwarded {p : LinePort} {e : Entry} (h : p.inFlight = some e) :
    p.transmissionEnd.counters.forwarded =
      if e.origin = .forward then satInc p.counters.forwarded else p.counters.forwarded := by
  rcases hq : p.egress with - | ⟨y, rest⟩
  · rw [LinePort.transmissionEnd_of_nil h hq]
    split <;> rfl
  · rw [LinePort.transmissionEnd_of_cons h hq, LinePort.startIfReady_counters]
    split <;> rfl

/-- Settles O10: each of the three commands replaces its port, by the case of its queue and its timer. -/
theorem transmissionsFollowOneAnother : Obligations.TransmissionsFollowOneAnother := by
  intro p s
  refine ⟨fun hi => ?_, fun e rest hl hf hq => ?_, fun e he => ⟨_, rfl, ?_⟩⟩
  · obtain ⟨n, hn⟩ := Option.isSome_iff_exists.mp hi
    rw [exec, execIdleTimerExpiry, LinePort.idleExpiry, hn]
    rfl
  · rw [exec, execIdleMarkerEnd, LinePort.markerEnd]
    rw [LinePort.startIfReady_eq_of_ready (p := { s.port p with marker := false }) hl hf rfl hq]
  · rw [State.port_withPort]
    refine ⟨LinePort.transmissionEnd_forwarded he, fun hq => ?_, fun y rest hq hl hm => ?_, rfl⟩
    · rw [LinePort.transmissionEnd_of_nil he hq]
      exact ⟨rfl, rfl⟩
    · rw [LinePort.transmissionEnd_of_cons he hq]
      rw [LinePort.startIfReady_eq_of_ready (by exact hl) rfl (by exact hm) (by exact hq)]
      exact ⟨rfl, rfl⟩

/-! ### Egress queues (R12 to R16) -/

theorem LineBlock.routeTo_all (l : LineBlock) (own : Byte) : l.routeTo own 63 = .both := if_pos rfl

theorem LineBlock.routeTo_nowhere (l : LineBlock) {own dest : Byte} (h : dest = 0 ∨ dest = own) (h63 : dest ≠ 63) :
    l.routeTo own dest = .nowhere := by
  rw [LineBlock.routeTo, if_neg h63, if_pos h]

/-- A node heard at both ports or at neither is sent to on both (R16). -/
theorem LineBlock.routeTo_both (l : LineBlock) {own dest : Byte} (h63 : dest ≠ 63) (h0 : dest ≠ 0) (ho : dest ≠ own)
    (h : dest ∈ l.a.seen ↔ dest ∈ l.b.seen) : l.routeTo own dest = .both := by
  rw [LineBlock.routeTo, if_neg h63, if_neg (not_or.mpr ⟨h0, ho⟩)]
  by_cases ha : dest ∈ l.a.seen
  · simp [ha, h.mp ha]
  · simp [ha, mt h.mpr ha]

/-- A node heard at one port alone is sent to there (R16). -/
theorem LineBlock.routeTo_only (l : LineBlock) {own dest : Byte} (h63 : dest ≠ 63) (h0 : dest ≠ 0) (ho : dest ≠ own)
    {p : Line} (hp : dest ∈ (l.port p).seen) (hq : dest ∉ (l.port (otherPort p)).seen) : l.routeTo own dest = .only p := by
  rw [LineBlock.routeTo, if_neg h63, if_neg (not_or.mpr ⟨h0, ho⟩)]
  cases p <;> simp_all [LineBlock.port, otherPort]

theorem eraseP_append_cons {l1 l2 : List Entry} {e : Entry} (he : e.origin = .forward) (h1 : ∀ y ∈ l1, y.origin = .own) :
    (l1 ++ e :: l2).eraseP (fun y => y.origin == Origin.forward) = l1 ++ l2 := by
  rw [List.eraseP_append_right _ (by simpa using fun y hy => by simp [h1 y hy]), List.eraseP_cons_of_pos (by simp [he])]

/-- Settles O8, by the cases of a presentation and of the port choice. -/
theorem egressQueuesTakeFrames : Obligations.EgressQueuesTakeFrames := by
  refine ⟨fun x f => ⟨fun hd => LinePort.presentForward_of_down f hd, fun hr => ?_, fun hu hfull =>
      LinePort.presentForward_of_full f hu hfull⟩, fun x f hu => ⟨fun l1 e l2 he hrep h1 => ?_, fun hrep =>
      ⟨fun hlt => ?_, fun hfull => ⟨fun l1 e l2 he hf h1 => ?_, fun hown => LinePort.presentOwn_of_own hu hfull hrep hown⟩⟩⟩,
    fun l own dest => ⟨fun h63 => h63 ▸ l.routeTo_all own, fun h h63 => l.routeTo_nowhere h h63, fun h63 h0 ho =>
      ⟨fun ha hb => l.routeTo_only h63 h0 ho (p := .a) ha hb, fun ha hb => l.routeTo_only h63 h0 ho (p := .b) hb ha,
        fun h => l.routeTo_both h63 h0 ho h⟩⟩⟩
  · rw [LinePort.presentForward_of_room f hr]
    exact ⟨x.append_toSend _, x.append_counters _, x.append_idleLeft _, rfl⟩
  · have hany : x.egress.any (·.replacedBy f) = true := by simp [he, hrep]
    simp only [LinePort.presentOwn, hu, if_pos hany]
    rw [he, replaceFirst_append_cons (q := (·.replacedBy f)) _ hrep l2 h1]
  · rw [LinePort.presentOwn_of_room ⟨hu, hlt⟩ hrep]
    exact ⟨x.append_toSend _, x.append_counters _, rfl⟩
  · rw [LinePort.presentOwn_of_forward hu hfull hrep ⟨e, by simp [he], hf⟩, LinePort.append_toSend,
      LinePort.append_counters, he, eraseP_append_cons hf h1]
    exact ⟨by simp [LinePort.toSend, LinePort.countFwdDrop], rfl, rfl⟩

/-! ### Frame handling (R1, R2, R6 to R11) -/

theorem State.handleFrame_of_reject {s : State} {p : Line} {bytes : List Byte} {rest : List (List Byte)}
    (hi : (s.port p).ingress = bytes :: rest) (hf : acceptFrame bytes = none) :
    s.handleFrame p = s.withPort p { s.port p with ingress := rest }.countCheckFail := by
  simp only [State.handleFrame, hi, hf]

theorem State.handleFrame_of_loop {s : State} {p : Line} {bytes : List Byte} {rest : List (List Byte)} {f : Frame}
    (hi : (s.port p).ingress = bytes :: rest) (hf : acceptFrame bytes = some f) (hl : s.mcr.address = some f.src) :
    s.handleFrame p = s.withPort p { s.port p with ingress := rest }.bringUp.countLoop := by
  simp only [State.handleFrame, hi, hf, if_pos hl]

theorem State.handleFrame_of_good {s : State} {p : Line} {bytes : List Byte} {rest : List (List Byte)} {f : Frame}
    (hi : (s.port p).ingress = bytes :: rest) (hf : acceptFrame bytes = some f) (hl : s.mcr.address ≠ some f.src) :
    s.handleFrame p =
      (s.withPort p ({ s.port p with ingress := rest }.bringUp.record f.src)).decideForwarding p f := by
  simp only [State.handleFrame, hi, hf, if_neg hl]

theorem LinePort.record_eq (x : LinePort) (src : Byte) :
    x.record src = { x with seen := if src ∈ x.seen then x.seen else x.seen ++ [src] } := by
  by_cases h : src ∈ x.seen <;> simp [LinePort.record, h]

theorem LinePort.mem_seen_record (x : LinePort) (src : Byte) : src ∈ (x.record src).seen := by
  rw [LinePort.record_eq]
  dsimp only
  split
  · assumption
  · simp

/-- A frame for the part goes to its classifier alone (R10). -/
theorem State.decideForwarding_of_own {s : State} {f : Frame} (p : Line) (h : s.mcr.address = some f.dest) :
    s.decideForwarding p f = s.withPort p ((s.port p).handOver f) := by
  simp [State.decideForwarding, forwards, consumes, h]

/-- Any other frame is forwarded, and a broadcast handed over as well where the part has an address (R1, R10). -/
theorem State.decideForwarding_of_other {s : State} {f : Frame} (p : Line) (h : s.mcr.address ≠ some f.dest) :
    s.decideForwarding p f =
      if f.dest = 63 ∧ s.mcr.address ≠ none then
        (s.forwardFrom p f).withPort p (((s.forwardFrom p f).port p).handOver f)
      else s.forwardFrom p f := by
  rcases ha : s.mcr.address with - | own
  · simp [State.decideForwarding, forwards, consumes, ha]
  · have hne : f.dest ≠ own := fun he => h (by rw [ha, he])
    simp [State.decideForwarding, forwards, consumes, ha, hne]

theorem State.forwardFrom_of_down {s : State} {p : Line} (f : Frame) (h : (s.port (otherPort p)).link = .down) :
    s.forwardFrom p f = s.withPort (otherPort p) (s.port (otherPort p)).countDiscard := by
  rw [State.forwardFrom_eq, LinePort.presentForward_of_down f h]
  rfl

theorem State.forwardFrom_of_room {s : State} {p : Line} (f : Frame) (h : (s.port (otherPort p)).hasRoom) :
    s.forwardFrom p f = s.withPort (otherPort p) ((s.port (otherPort p)).append ⟨f, .forward⟩) := by
  rw [State.forwardFrom_eq, LinePort.presentForward_of_room f h]
  rfl

theorem State.forwardFrom_of_full {s : State} {p : Line} (f : Frame) (hu : (s.port (otherPort p)).link = .up)
    (h : 8 ≤ (s.port (otherPort p)).egress.length) :
    s.forwardFrom p f = (s.withPort (otherPort p) (s.port (otherPort p)).countFwdDrop).setFlag .fwdDrop := by
  rw [State.forwardFrom_eq, LinePort.presentForward_of_full f hu h]
  rfl

/-- Settles O6: the check, then the forwarding decision, then the other port's queue, each by its cases. -/
theorem framesAreForwarded : Obligations.FramesAreForwarded := by
  intro p s bytes rest hi
  refine ⟨fun hf => ?_, fun f x hf hl hx => ?_⟩
  · rw [exec, execFrameHandling, State.handleFrame_of_reject hi hf]
    rfl
  have hrec : { s.port p with ingress := rest }.bringUp.record f.src = x := by
    rw [hx, LinePort.record_eq]
    rfl
  have hgood := State.handleFrame_of_good hi hf hl
  rw [hrec] at hgood
  refine ⟨fun hd => ?_, fun hd => ⟨(s.withPort p x).forwardFrom p f, ?_, fun hdown => ?_, fun hroom => ?_,
    fun hup hfull => ?_⟩⟩
  · rw [exec, execFrameHandling, hgood, State.decideForwarding_of_own p (by exact hd)]
    simp [LinePort.handOver]
  · rw [exec, execFrameHandling, hgood, State.decideForwarding_of_other p (by exact hd)]
    rfl
  · rw [State.forwardFrom_of_down f (by simpa using hdown)]
    simp [LinePort.countDiscard]
  · rw [State.forwardFrom_of_room f (by simpa using hroom)]
    refine ⟨_, by rw [State.port_withPort_other], LinePort.append_toSend _ _, LinePort.append_idleLeft _ _, ?_⟩
    rw [LinePort.append_frame]
  · rw [State.forwardFrom_of_full f (by simpa using hup) (by simpa using hfull)]
    simp [LinePort.countFwdDrop]

/-- A forwarding decision leaves what the port has heard and its count of loops (R8, R9). -/
theorem State.decideForwarding_port (s : State) (p : Line) (f : Frame) :
    ((s.decideForwarding p f).port p).seen = (s.port p).seen ∧
      ((s.decideForwarding p f).port p).counters.loop = (s.port p).counters.loop := by
  have hfwd : ((s.forwardFrom p f).port p).seen = (s.port p).seen ∧
      ((s.forwardFrom p f).port p).counters.loop = (s.port p).counters.loop := by
    have k := (State.sends_setDrops (s.withPort (otherPort p) ((s.port (otherPort p)).presentForward f).1)
      ((s.port (otherPort p)).presentForward f).2 false).port p
    rw [State.port_withPort_otherPort] at k
    exact ⟨k.seen, k.loop⟩
  unfold State.decideForwarding
  dsimp only
  cases forwards s.mcr.address f <;> cases consumes s.mcr.address f
  · exact ⟨rfl, rfl⟩
  · simp [LinePort.handOver]
  · exact hfwd
  · simpa [LinePort.handOver] using hfwd

/-- Settles O7: the loop test is the case of the own address, and a frame that passes it is recorded. -/
theorem loopTestDropsOwnFrames : Obligations.LoopTestDropsOwnFrames := by
  intro p s bytes rest f hi hf
  refine ⟨fun hl => ?_, fun hl => ⟨_, rfl, ?_⟩⟩
  · rw [exec, execFrameHandling, State.handleFrame_of_loop hi hf hl]
    rfl
  · rw [State.handleFrame_of_good hi hf hl]
    obtain ⟨hseen, hloop⟩ := State.decideForwarding_port
      (s.withPort p ({ s.port p with ingress := rest }.bringUp.record f.src)) p f
    rw [hseen, hloop, State.port_withPort]
    refine ⟨LinePort.mem_seen_record _ _, ?_⟩
    rw [LinePort.record_eq]
    rfl

/-! ### The frame layout (R7, R204) -/

theorem Kind.ofCode_code (k : Kind) : Kind.ofCode k.code = some k := by cases k <;> rfl

theorem Kind.code_of_ofCode {b : Byte} {k : Kind} (h : Kind.ofCode b = some k) : k.code = b := by
  have code_eq {n : Nat} {x : Kind} (hn : x.code.toNat = n) (hb : b.toNat = n) (hx : some x = some k) : k.code = b := by
    obtain rfl := Option.some.inj hx
    exact BitVec.eq_of_toNat_eq (hn.trans hb.symm)
  unfold Kind.ofCode at h
  split at h
  · exact code_eq rfl ‹_› h
  · exact code_eq rfl ‹_› h
  · exact code_eq rfl ‹_› h
  · exact code_eq rfl ‹_› h
  · cases h

theorem be2_toNat (hi lo : Byte) : (be2 hi lo).toNat = hi.toNat * 256 + lo.toNat := by
  have h : (be2 hi lo).toNat = hi.toNat <<< 8 ||| lo.toNat := BitVec.toNat_append hi lo
  rw [h, ← Nat.shiftLeft_add_eq_or_of_lt lo.isLt, Nat.shiftLeft_eq]

theorem extractLsb'_toNat_eq (h : Half) (k : Nat) : (h.extractLsb' k 8).toNat = h.toNat / 2 ^ k % 256 := by
  rw [BitVec.extractLsb'_toNat, Nat.shiftRight_eq_div_pow]

/-- Two bytes written and read back (R204). -/
theorem be2_half2 (h : Half) : be2 (h.extractLsb' 8 8) (h.extractLsb' 0 8) = h := by
  have hlt := h.isLt
  apply BitVec.eq_of_toNat_eq
  simp only [be2_toNat, extractLsb'_toNat_eq]
  omega

/-- Two bytes read and written back (R204). -/
theorem half2_be2 (hi lo : Byte) : half2 (be2 hi lo) = [hi, lo] := by
  have h1 := hi.isLt
  have h2 := lo.isLt
  have hhi : (be2 hi lo).extractLsb' 8 8 = hi := by
    apply BitVec.eq_of_toNat_eq
    simp only [be2_toNat, extractLsb'_toNat_eq]
    omega
  have hlo : (be2 hi lo).extractLsb' 0 8 = lo := by
    apply BitVec.eq_of_toNat_eq
    simp only [be2_toNat, extractLsb'_toNat_eq]
    omega
  rw [half2, hhi, hlo]

theorem length_frameHeader (dest src : Byte) (k : Kind) (id : Half) (seq : Byte) (payload : List Byte) :
    (frameHeader dest src k id seq payload).length = 7 := rfl

/-- A well-formed frame is accepted from its own encoding (R7). -/
theorem acceptFrame_encode {f : Frame} (h : f.WellFormed) : acceptFrame f.encode = some f := by
  obtain ⟨haddr, hlen, hcheck⟩ := h
  have hl : (BitVec.ofNat 8 f.payload.length).toNat = f.payload.length := by
    rw [BitVec.toNat_ofNat]
    omega
  have hbytes : f.encode = f.dest :: f.src :: f.kind.code :: f.id.extractLsb' 8 8 :: f.id.extractLsb' 0 8 :: f.seq ::
      BitVec.ofNat 8 f.payload.length :: (f.payload ++ half2 f.check) := by
    simp [Frame.encode, frameHeader, half2]
  have hdrop : (f.payload ++ half2 f.check).drop f.payload.length = half2 f.check := List.drop_left
  have htake : (f.payload ++ half2 f.check).take f.payload.length = f.payload := List.take_left
  have hfront : f.encode.take (7 + f.payload.length) =
      frameHeader f.dest f.src f.kind f.id f.seq f.payload ++ f.payload :=
    List.take_left' (by simp [length_frameHeader])
  rw [hbytes] at hfront ⊢
  simp only [acceptFrame, Kind.ofCode_code, hl, hdrop, htake, hfront]
  simp only [half2, be2_half2]
  rw [if_pos ⟨hlen, hcheck, haddr⟩]

/-- Accepted bytes are the encoding of the frame read from them, which is well-formed (R7). -/
theorem encode_of_acceptFrame {bytes : List Byte} {f : Frame} (h : acceptFrame bytes = some f) :
    f.encode = bytes ∧ f.WellFormed := by
  unfold acceptFrame at h
  split at h
  case h_2 => cases h
  rename_i dest src kind idHi idLo seq len rest
  split at h
  case h_2 => cases h
  rename_i k hi lo hk hdrop
  split at h
  case isFalse => cases h
  rename_i hok
  obtain ⟨hlen, hcheck, haddr⟩ := hok
  obtain rfl := Option.some.inj h
  have hrest : rest.take len.toNat ++ [hi, lo] = rest := by rw [← hdrop, List.take_append_drop]
  have htwo := congrArg List.length hdrop
  have htake : (rest.take len.toNat).length = len.toNat := by
    simp only [List.length_drop, List.length_cons, List.length_nil] at htwo
    rw [List.length_take]
    omega
  have hheader : frameHeader dest src k (be2 idHi idLo) seq (rest.take len.toNat) =
      [dest, src, kind, idHi, idLo, seq, len] := by
    rw [frameHeader, half2_be2, htake, Kind.code_of_ofCode hk, BitVec.ofNat_toNat, BitVec.setWidth_eq]
    rfl
  refine ⟨?_, haddr, htake.trans_le hlen, ?_⟩
  · rw [Frame.encode, hheader, half2_be2]
    simp [hrest]
  · rw [hheader, hcheck]
    rw [Nat.add_comm]
    rfl

/-- Settles O11, by the layout read forwards and backwards. -/
theorem frameLayoutRoundTrips : Obligations.FrameLayoutRoundTrips :=
  ⟨fun _ => acceptFrame_encode, fun _ _ => encode_of_acceptFrame⟩

end Sys2Proof.Machine
end

section
/-! SUPPORT. Own frames sent with places free, and the event flags with their notify channels (R16, R174, R186 to
R191), with the statement about RESPONSE frames. -/

namespace Sys2Proof.Machine

variable {s t u : State}

/-! ### An own frame with places free (R13, R16) -/

/-- The own frame that a part with address `own` makes next (R16). -/
def State.ownFrame (s : State) (own : Byte) (k : Kind) (d : Byte) (i : Half) (b : List Byte) : Frame :=
  Frame.make d own k i s.line.txSeq b

/-- A part with a node address presents its frame to the ports of the frame's route (R16). -/
theorem State.present_of_address {own : Byte} (h : s.mcr.address = some own) (k : Kind) (d : Byte) (i : Half)
    (b : List Byte) :
    s.present k d i b =
      (s.withLine
        { (s.line.presentOwn (s.line.routeTo own d) (s.ownFrame own k d i b)).1 with txSeq := s.line.txSeq + 1 },
        (s.line.presentOwn (s.line.routeTo own d) (s.ownFrame own k d i b)).2) := by
  simp only [State.present, h]
  rfl

/-- A part with no node address makes no frame (R1). -/
theorem State.present_of_none (h : s.mcr.address = none) (k : Kind) (d : Byte) (i : Half) (b : List Byte) :
    s.present k d i b = (s, false, false) := by
  simp only [State.present, h]

/-- Every port has the frame to send behind what it had (R13, R16). -/
def State.appendAll (s : State) (f : Frame) : State :=
  s.withLine ⟨s.line.a.append ⟨f, .own⟩, s.line.b.append ⟨f, .own⟩, s.line.txSeq + 1⟩

/-- One port has the frame to send behind what it had (R13, R16). -/
def State.appendAt (s : State) (p : Line) (f : Frame) : State :=
  s.withLine { s.line.withPort p ((s.port p).append ⟨f, .own⟩) with txSeq := s.line.txSeq + 1 }

theorem State.appendAll_port (s : State) (f : Frame) (p : Line) :
    (s.appendAll f).port p = (s.port p).append ⟨f, .own⟩ := by cases p <;> rfl

theorem State.appendAt_port (s : State) (p : Line) (f : Frame) :
    (s.appendAt p f).port p = (s.port p).append ⟨f, .own⟩ := by cases p <;> rfl

theorem State.appendAt_port_other (s : State) (p : Line) (f : Frame) :
    (s.appendAt p f).port (otherPort p) = s.port (otherPort p) := by cases p <;> rfl

theorem State.present_both {own d : Byte} {k : Kind} (h : s.mcr.address = some own)
    (hr : s.line.routeTo own d = .both) (hk : k ≠ .process) (ha : s.line.a.hasRoom) (hb : s.line.b.hasRoom) (i : Half)
    (b : List Byte) : s.present k d i b = (s.appendAll (s.ownFrame own k d i b), false, false) := by
  have pa := LinePort.presentOwn_of_room_of_kind (f := s.ownFrame own k d i b) ha hk
  have pb := LinePort.presentOwn_of_room_of_kind (f := s.ownFrame own k d i b) hb hk
  simp only [State.present_of_address h, hr, LineBlock.presentOwn, pa, pb]
  rfl

theorem State.present_only {own d : Byte} {k : Kind} {p : Line} (h : s.mcr.address = some own)
    (hr : s.line.routeTo own d = .only p) (hk : k ≠ .process) (hp : (s.port p).hasRoom) (i : Half) (b : List Byte) :
    s.present k d i b = (s.appendAt p (s.ownFrame own k d i b), false, false) := by
  have pp := LinePort.presentOwn_of_room_of_kind (p := s.line.port p) (f := s.ownFrame own k d i b) hp hk
  simp only [State.present_of_address h, hr, LineBlock.presentOwn, pp]
  rfl

/-- Both ports count an own frame that no port takes (R16). -/
def State.countOwnDrops (s : State) : State :=
  s.withLine ⟨s.line.a.countOwnDrop, s.line.b.countOwnDrop, s.line.txSeq + 1⟩

theorem State.countOwnDrops_port (s : State) (p : Line) : s.countOwnDrops.port p = (s.port p).countOwnDrop := by
  cases p <;> rfl

/-- An unsendable frame is counted at both ports and calls for OWN_DROP (R16). -/
theorem State.present_nowhere {own d : Byte} (h : s.mcr.address = some own) (hr : s.line.routeTo own d = .nowhere)
    (k : Kind) (i : Half) (b : List Byte) :
    s.present k d i b = (s.countOwnDrops, false, true) := by
  simp only [State.present_of_address h, hr, LineBlock.presentOwn]
  rfl

theorem State.sendOwn_of_present {k : Kind} {d : Byte} {i : Half} {b : List Byte}
    (h : s.present k d i b = (t, false, false)) : s.sendOwn k d i b = t := by
  simp only [State.sendOwn, h]
  rfl

/-- Settles O38: the requester's route, and a RESPONSE appended at each port of it. -/
theorem responseGoesToRequester : Obligations.ResponseGoesToRequester := by
  refine ⟨fun s r a own hs h0 ho h63 => ⟨s.ownFrame own .response r.requester (r.code ++ r.tag)
    (byte1 a.status.code ++ a.results), rfl, rfl, rfl, rfl, rfl, rfl, fun hseen ha hb => ?_, fun p hp hq hroom => ?_⟩, rfl⟩
  · have hr := s.line.routeTo_both h63 h0 ho hseen
    rw [State.respond, State.sendOwn_of_present (State.present_both hs hr (by decide) ha hb _ _)]
    exact ⟨fun p => by rw [State.appendAll_port, LinePort.append_toSend], rfl, rfl⟩
  · have hr := s.line.routeTo_only h63 h0 ho hp hq
    rw [State.respond, State.sendOwn_of_present (State.present_only hs hr (by decide) hroom _ _)]
    exact ⟨by rw [State.appendAt_port, LinePort.append_toSend], State.appendAt_port_other _ _ _, rfl, rfl⟩

/-! ### Flags and channels (R186, R190) -/

theorem Flag.number_lt (f : Flag) : f.number < 64 := by cases f <;> decide

theorem channelOf_lt (m : MapMode) {n : Nat} (h : n < 64) : channelOf m n < 4 := by
  unfold channelOf
  split <;> omega

theorem MapMode.channelIs_iff (m : MapMode) (n c : Nat) : m.ChannelIs n c ↔ c = channelOf m n := by
  cases m <;> simp [MapMode.ChannelIs, channelOf]

/-- The flag at a position of a channel is one of the 64, and of that channel (R190). -/
theorem flagAt_spec (m : MapMode) {c p : Nat} (hc : c < 4) (hp : p < 16) :
    flagAt m c p < 64 ∧ m.ChannelIs (flagAt m c p) c ∧ m.PositionIs (flagAt m c p) p := by
  cases m <;> simp only [flagAt, MapMode.ChannelIs, MapMode.PositionIs, reduceCtorEq, false_implies, true_implies, true_and,
    and_true]
  all_goals omega

/-- A flag's position within its channel leads back to it (R190). -/
theorem flagAt_of_channelIs {m : MapMode} {k c p : Nat} (hk : k < 64) (hc : m.ChannelIs k c) (hp : m.PositionIs k p) :
    flagAt m c p = k ∧ p < 16 := by
  cases m <;> simp only [flagAt, MapMode.ChannelIs, MapMode.PositionIs, reduceCtorEq, false_implies, true_implies, true_and,
    and_true] at *
  all_goals omega

theorem MapMode.exists_position (m : MapMode) (k : Nat) : ∃ p, m.PositionIs k p := by
  cases m
  · exact ⟨k % 16, fun _ => rfl, fun h => by cases h⟩
  · exact ⟨k / 4, (fun h => by cases h), fun _ => rfl⟩

/-- A channel is raised by a flag of its own that is set and enabled (R190). -/
theorem Notifier.raised_iff (e : Notifier) {c : Nat} (hc : c < 4) :
    e.raised c = true ↔ ∃ n, n < 64 ∧ e.map.ChannelIs n c ∧ e.flags.getLsbD n = true ∧ e.enables.getLsbD n = true := by
  simp only [Notifier.raised, List.any_eq_true, List.mem_range, Notifier.counts, Bool.and_eq_true]
  constructor
  · rintro ⟨p, hp, hf, he⟩
    obtain ⟨hlt, hch, -⟩ := flagAt_spec e.map hc hp
    exact ⟨_, hlt, hch, hf, he⟩
  · rintro ⟨n, hn, hch, hf, he⟩
    obtain ⟨p, hp⟩ := e.map.exists_position n
    obtain ⟨hat, hlt⟩ := flagAt_of_channelIs hn hch hp
    exact ⟨p, hlt, by rw [hat]; exact hf, by rw [hat]; exact he⟩

/-- What raises a channel depends on the flags, the enables and the map. -/
theorem Notifier.raised_mono {e e' : Notifier} (hm : e'.map = e.map) (he : e'.enables = e.enables)
    (hf : ∀ n, e.flags.getLsbD n = true → e'.flags.getLsbD n = true) {c : Nat} (h : e.raised c = true) :
    e'.raised c = true := by
  simp only [Notifier.raised, List.any_eq_true, Notifier.counts, Bool.and_eq_true, hm, he] at h ⊢
  obtain ⟨p, hp, hset, hen⟩ := h
  exact ⟨p, hp, hf _ hset, hen⟩

theorem Notifier.set_getLsbD (e : Notifier) (f : Flag) (n : Nat) :
    (e.set f).flags.getLsbD n = (e.flags.getLsbD n || decide (n = f.number)) := by
  have hf := f.number_lt
  simp only [Notifier.set, BitVec.getLsbD_or, BitVec.getLsbD_twoPow]
  by_cases h : f.number = n
  · simp [h, h ▸ hf]
  · simp [h, Ne.symm h]

theorem Notifier.raised_set_mono (e : Notifier) (f : Flag) {c : Nat} (h : e.raised c = true) : (e.set f).raised c = true :=
  Notifier.raised_mono (e := e) (e' := e.set f) rfl rfl (fun n hn => by rw [Notifier.set_getLsbD, hn]; rfl) h

/-- An enabled flag raises its channel (R187, R190). -/
theorem Notifier.raised_set (e : Notifier) (f : Flag) (h : e.enables.getLsbD f.number = true) :
    (e.set f).raised (channelOf e.map f.number) = true := by
  refine ((e.set f).raised_iff (channelOf_lt _ f.number_lt)).mpr ⟨f.number, f.number_lt, ?_, ?_, h⟩
  · exact (MapMode.channelIs_iff _ _ _).mpr rfl
  · simp [Notifier.set_getLsbD]

/-- A flag that is not enabled raises no channel (R190). -/
theorem Notifier.raised_set_of_disabled (e : Notifier) (f : Flag) (h : e.enables.getLsbD f.number = false) (c : Nat) :
    (e.set f).raised c = e.raised c := by
  have hcounts (n : Nat) : (e.set f).counts n = e.counts n := by
    have hen : (e.set f).enables = e.enables := rfl
    rw [Notifier.counts, Notifier.counts, Notifier.set_getLsbD, hen]
    by_cases hn : n = f.number <;> simp [hn, h]
  simp only [Notifier.raised, hcounts]
  rfl

/-! ### The NOTIFY of a channel (R191, R207) -/

/-- Bit `i` of a sum of powers of two says whether the power was taken. -/
theorem sum_bits_lt (g : Nat → Bool) (n : Nat) : ((List.range n).map fun p => if g p then 2 ^ p else 0).sum < 2 ^ n := by
  induction n with
  | zero => simp
  | succ n ih =>
    rw [List.range_succ, List.map_append, List.sum_append, Nat.pow_succ]
    simp only [List.map_cons, List.map_nil, List.sum_cons, List.sum_nil]
    split <;> omega

theorem testBit_sum_bits (g : Nat → Bool) (n i : Nat) :
    ((List.range n).map fun p => if g p then 2 ^ p else 0).sum.testBit i = (decide (i < n) && g i) := by
  induction n with
  | zero => simp
  | succ n ih =>
    have hlt := sum_bits_lt g n
    rw [List.range_succ, List.map_append, List.sum_append]
    simp only [List.map_cons, List.map_nil, List.sum_cons, List.sum_nil, Nat.add_zero]
    obtain hi | rfl | hi := Nat.lt_trichotomy i n
    · have hs : i < n + 1 := by omega
      split
      · rw [Nat.add_comm, Nat.testBit_two_pow_add_gt hi, ih]
        simp [hi, hs]
      · rw [Nat.add_zero, ih]
        simp [hi, hs]
    · have hz := Nat.testBit_lt_two_pow hlt
      split
      · rename_i hg
        rw [Nat.add_comm, Nat.testBit_two_pow_add_eq, hz]
        simp [hg]
      · rename_i hg
        rw [Nat.add_zero, hz]
        simp [hg]
    · have hs : ¬ i < n + 1 := by omega
      rw [Nat.testBit_lt_two_pow]
      · simp [hs]
      · have hpow : 2 ^ (n + 1) ≤ 2 ^ i := Nat.pow_le_pow_right (by decide) hi
        rw [Nat.pow_succ] at hpow
        split <;> omega

/-- Bit `p` of a channel's 16 flags is the flag at position `p` (R191, R207). -/
theorem Notifier.channelFlags_getLsbD (e : Notifier) {c k p : Nat} (hk : k < 64) (hc : e.map.ChannelIs k c)
    (hp : e.map.PositionIs k p) : (e.channelFlags c).getLsbD p = e.flags.getLsbD k := by
  obtain ⟨hat, hlt⟩ := flagAt_of_channelIs hk hc hp
  rw [Notifier.channelFlags, BitVec.getLsbD_ofNat, testBit_sum_bits, hat]
  simp [hlt]

theorem Notifier.payload_eq (e : Notifier) (c : Nat) :
    e.payload c =
      [if e.map = .block then 0 else 1, (e.channelFlags c).extractLsb' 8 8, (e.channelFlags c).extractLsb' 0 8] := by
  unfold Notifier.payload
  cases e.map <;> rfl

/-- The NOTIFY of channel `c` that a part with address `own` makes under a sequence number (R16, R191). -/
def Notifier.notice (e : Notifier) (own seq : Byte) (c : Nat) : Frame :=
  Frame.make (BitVec.ofNat 8 (e.channel c).dest) own .notify (BitVec.ofNat 16 c) seq (e.payload c)

theorem State.notifyIs_notice (s : State) (own seq : Byte) (c : Nat) : s.NotifyIs own c (s.efn.notice own seq c) :=
  ⟨rfl, rfl, rfl, rfl, s.efn.channelFlags c, s.efn.payload_eq c, fun _ _ hk hc hp =>
    s.efn.channelFlags_getLsbD hk hc hp⟩

theorem State.presentNotify_both {own : Byte} {c : Nat} (h : s.mcr.address = some own)
    (hr : s.line.routeTo own (BitVec.ofNat 8 (s.efn.channel c).dest) = .both) (ha : s.line.a.hasRoom)
    (hb : s.line.b.hasRoom) :
    s.presentNotify c = (s.appendAll (s.efn.notice own s.line.txSeq c), false, false) :=
  State.present_both h hr (by decide) ha hb _ _

theorem State.presentNotify_only {own : Byte} {c : Nat} {p : Line} (h : s.mcr.address = some own)
    (hr : s.line.routeTo own (BitVec.ofNat 8 (s.efn.channel c).dest) = .only p) (hp : (s.port p).hasRoom) :
    s.presentNotify c = (s.appendAt p (s.efn.notice own s.line.txSeq c), false, false) :=
  State.present_only h hr (by decide) hp _ _

/-! ### A flag set (R187) -/

/-- A flag whose channel is raised already, or that raises none, or whose channel may not notify, is set and no more. -/
theorem State.setFlagTo_of_quiet (n : Nat) {f : Flag}
    (h : s.efn.raised (channelOf s.efn.map f.number) = true ∨
      (s.efn.set f).raised (channelOf s.efn.map f.number) = false ∨
      (s.withEfn (s.efn.set f)).mayNotify (channelOf s.efn.map f.number) = false) :
    State.setFlagTo n f s = s.withEfn (s.efn.set f) := by
  cases n with
  | zero => rfl
  | succ n =>
    rw [State.setFlagTo]
    refine if_neg fun hc => ?_
    simp only [Bool.and_eq_true, Bool.not_eq_true', State.withEfn_efn] at hc
    obtain ⟨⟨h1, h2⟩, h3⟩ := hc
    obtain h | h | h := h <;> simp_all

/-- A flag that takes its channel from quiet to raised presents the channel's NOTIFY, and then sets the drop flags that
the presentation calls for (R187, R191; log 8). -/
theorem State.setFlagTo_of_raise (n : Nat) {f : Flag} {fd od : Bool}
    (h1 : s.efn.raised (channelOf s.efn.map f.number) = false)
    (h2 : (s.efn.set f).raised (channelOf s.efn.map f.number) = true)
    (h3 : (s.withEfn (s.efn.set f)).mayNotify (channelOf s.efn.map f.number) = true)
    (hp : (s.withEfn (s.efn.set f)).presentNotify (channelOf s.efn.map f.number) = (t, fd, od)) :
    State.setFlagTo (n + 1) f s =
      if od then State.setFlagTo n .ownDrop (if fd then State.setFlagTo n .fwdDrop t else t)
      else if fd then State.setFlagTo n .fwdDrop t else t := by
  rw [State.setFlagTo]
  simp only [State.withEfn_efn, h1, h2, h3, hp, Bool.not_false, Bool.and_self, if_true]

/-- A set request sets its flag, whatever it sends (R187). -/
theorem State.setFlagTo_isSet (n : Nat) (f : Flag) (s : State) : (State.setFlagTo n f s).efn.isSet f = true := by
  have hset : (s.efn.set f).flags.getLsbD f.number = true := s.efn.set_isSet f
  have keeps {x : State} (k : (s.withEfn (s.efn.set f)).Sends x) : x.efn.isSet f = true :=
    State.flagsKept_iff.mp k.flags _ hset
  cases n with
  | zero => exact keeps (.refl _)
  | succ n =>
    rw [State.setFlagTo]
    split
    · exact keeps ((State.sends_present _ .notify _ _ _).trans (State.sends_drops_of (State.sends_setFlagTo n) _ _ _))
    · exact keeps (.refl _)

end Sys2Proof.Machine
end

section
/-! SUPPORT. What a handling sends when it sets flags and no more, and what a change of mode does after its report
(R44, R154, R191). -/

namespace Sys2Proof.Machine

variable {s t u : State}

/-! ### Channels not raised -/

/-- The number of channels that are not raised: no more NOTIFY frames than that can follow (log 30). -/
def Notifier.quiet (e : Notifier) : Nat := (List.range 4).countP fun c => !e.raised c

theorem countP_lt_of_mem {α : Type} {p q : α → Bool} {a : α} (hpq : ∀ x, p x = true → q x = true) (hp : p a = false)
    (hq : q a = true) : ∀ {l : List α}, a ∈ l → l.countP p < l.countP q := by
  intro l
  induction l with
  | nil => simp
  | cons x l ih =>
    have hle : l.countP p ≤ l.countP q := List.countP_mono_left fun y _ => hpq y
    intro ha
    rw [List.countP_cons, List.countP_cons]
    obtain rfl | ha := List.mem_cons.mp ha
    · simp only [hp, hq, Bool.false_eq_true, if_false, if_true]
      omega
    · have hlt := ih ha
      cases hx : p x with
      | false =>
        simp only [Bool.false_eq_true, if_false]
        split <;> omega
      | true =>
        rw [if_pos rfl, if_pos (hpq x hx)]
        omega

theorem Notifier.not_raised_of_set (e : Notifier) (f : Flag) (c : Nat) (h : (!(e.set f).raised c) = true) :
    (!e.raised c) = true := by
  cases hc : e.raised c with
  | false => rfl
  | true => rw [Notifier.raised_set_mono e f hc] at h; exact h

theorem Notifier.quiet_set_le (e : Notifier) (f : Flag) : (e.set f).quiet ≤ e.quiet :=
  List.countP_mono_left fun c _ => e.not_raised_of_set f c

/-- A flag that raises a channel leaves one channel fewer to raise. -/
theorem Notifier.quiet_set_lt (e : Notifier) (f : Flag) {c : Nat} (hc : c < 4) (h1 : e.raised c = false)
    (h2 : (e.set f).raised c = true) : (e.set f).quiet < e.quiet :=
  countP_lt_of_mem (a := c) (e.not_raised_of_set f) (by rw [h2]; rfl) (by rw [h1]; rfl) (List.mem_range.mpr hc)

/-! ### Flags set with places enough for all NOTIFY frames -/

/-- Both ports have a place for the NOTIFY of every channel that a flag may yet raise, each of which goes to all. -/
structure State.Roomy (s : State) : Prop where
  address : ∃ own, s.mcr.address = some own
  link : ∀ p, (s.port p).link = .up
  places : ∀ p, (s.port p).egress.length + s.efn.quiet ≤ 8
  dest : ∀ c, (s.efn.channel c).enable = true → (s.efn.channel c).dest = 63

/-- From `s` to `t` flags are set, with the NOTIFY frames that they call for, and nothing else is sent. -/
structure State.Notifies (s t : State) : Prop where
  mcr : t.mcr = s.mcr
  efn : t.efn = { s.efn with flags := t.efn.flags }
  flags : s.flagsKept t
  silent : s.mcr.mode.sounding = false → t.line = s.line
  roomy : s.Roomy → t.Roomy
  toSend : s.Roomy → ∀ p, ∃ rest, (t.port p).toSend = (s.port p).toSend ++ rest

theorem State.Notifies.refl (s : State) : s.Notifies s :=
  ⟨rfl, rfl, BitVec.and_self, fun _ => rfl, id, fun _ _ => ⟨[], (List.append_nil _).symm⟩⟩

theorem State.Notifies.trans (h : s.Notifies t) (k : t.Notifies u) : s.Notifies u where
  mcr := k.mcr.trans h.mcr
  efn := by rw [k.efn, h.efn]
  flags := State.flagsKept_iff.mpr fun n hn => State.flagsKept_iff.mp k.flags n (State.flagsKept_iff.mp h.flags n hn)
  silent := fun hs => (k.silent (by rw [h.mcr]; exact hs)).trans (h.silent hs)
  roomy := k.roomy ∘ h.roomy
  toSend := fun hs p => by
    obtain ⟨r1, h1⟩ := h.toSend hs p
    obtain ⟨r2, h2⟩ := k.toSend (h.roomy hs) p
    exact ⟨r1 ++ r2, by rw [h2, h1, List.append_assoc]⟩

/-- A state with the ports, the flags and the mode of another. -/
theorem State.notifies_of_eq (hl : t.line = s.line) (he : t.efn = s.efn) (hm : t.mcr = s.mcr) : s.Notifies t := by
  have hp (p : Line) : t.port p = s.port p := congrArg (·.port p) hl
  refine ⟨hm, by rw [he], State.flagsKept_iff.mpr fun n hn => by rw [he]; exact hn, fun _ => hl, fun h => ?_, fun _ p => ?_⟩
  · exact ⟨by rw [hm]; exact h.address, fun p => by rw [hp]; exact h.link p, fun p => by rw [hp, he]; exact h.places p,
      by rw [he]; exact h.dest⟩
  · exact ⟨[], by rw [hp, List.append_nil]⟩

theorem State.Notifies.ite {c : Prop} {_ : Decidable c} (h : s.Notifies t) (k : s.Notifies u) :
    s.Notifies (if c then t else u) := by
  split <;> assumption

theorem State.Notifies.withTdu (h : s.Notifies t) (x : Traction) : s.Notifies (t.withTdu x) :=
  h.trans (State.notifies_of_eq rfl rfl rfl)
theorem State.Notifies.withRsl (h : s.Notifies t) (x : List Restriction) : s.Notifies (t.withRsl x) :=
  h.trans (State.notifies_of_eq rfl rfl rfl)
theorem State.Notifies.withSru (h : s.Notifies t) (x : StopUnit) : s.Notifies (t.withSru x) :=
  h.trans (State.notifies_of_eq rfl rfl rfl)
theorem State.Notifies.withSsq (h : s.Notifies t) (x : Sounder) : s.Notifies (t.withSsq x) :=
  h.trans (State.notifies_of_eq rfl rfl rfl)

/-- A flag set without a NOTIFY. -/
theorem State.notifies_withEfn_set (s : State) (f : Flag) : s.Notifies (s.withEfn (s.efn.set f)) where
  mcr := rfl
  efn := rfl
  flags := (s.sends_withEfn_set f).flags
  silent := fun _ => rfl
  roomy := fun h => ⟨h.address, h.link, fun p => (Nat.add_le_add_left (s.efn.quiet_set_le f) _).trans (h.places p), h.dest⟩
  toSend := fun _ _ => ⟨[], (List.append_nil _).symm⟩

theorem State.appendAll_link (s : State) (f : Frame) (p : Line) : ((s.appendAll f).port p).link = (s.port p).link := by
  rw [State.appendAll_port, LinePort.append_frame]

theorem State.appendAll_length_le (s : State) (f : Frame) (p : Line) :
    ((s.appendAll f).port p).egress.length ≤ (s.port p).egress.length + 1 := by
  rw [State.appendAll_port]
  exact LinePort.append_length_le _ _

/-- The NOTIFY to all of a channel that may notify, presented with a place free at both ports (R13, R191). -/
theorem State.presentNotify_all {own : Byte} {c : Nat} (h : s.mcr.address = some own) (hd : (s.efn.channel c).dest = 63)
    (hr : ∀ p, (s.port p).hasRoom) : s.presentNotify c = (s.appendAll (s.efn.notice own s.line.txSeq c), false, false) := by
  refine State.presentNotify_both h ?_ (hr .a) (hr .b)
  rw [hd]
  exact LineBlock.routeTo_all _ _

theorem State.Roomy.setFlag (h : s.Roomy) (f : Flag) :
    (s.setFlag f).Roomy ∧ ∀ p, ∃ rest, ((s.setFlag f).port p).toSend = (s.port p).toSend ++ rest := by
  obtain ⟨own, ho⟩ := h.address
  have k := s.notifies_withEfn_set f
  by_cases hq : s.efn.raised (channelOf s.efn.map f.number) = true ∨
      (s.efn.set f).raised (channelOf s.efn.map f.number) = false ∨
      (s.withEfn (s.efn.set f)).mayNotify (channelOf s.efn.map f.number) = false
  · rw [State.setFlag, State.setFlagTo_of_quiet 4 hq]
    exact ⟨k.roomy h, k.toSend h⟩
  · simp only [not_or, Bool.not_eq_true, Bool.not_eq_false] at hq
    obtain ⟨h1, h2, h3⟩ := hq
    have hlt := s.efn.quiet_set_lt f (channelOf_lt _ f.number_lt) h1 h2
    have hroom (p : Line) : (s.port p).hasRoom := ⟨h.link p, by have := h.places p; omega⟩
    have hd := h.dest _ (Bool.and_eq_true_iff.mp h3).1
    have hp := State.presentNotify_all (s := s.withEfn (s.efn.set f)) ho hd hroom
    rw [State.setFlag, State.setFlagTo_of_raise 3 h1 h2 h3 hp]
    refine ⟨⟨⟨own, ho⟩, fun p => (State.appendAll_link _ _ p).trans (h.link p), fun p => ?_, h.dest⟩, fun p => ?_⟩
    · have hle := State.appendAll_length_le (s.withEfn (s.efn.set f)) ((s.efn.set f).notice own s.line.txSeq
        (channelOf s.efn.map f.number)) p
      have hpl := h.places p
      refine (Nat.add_le_add_right hle _).trans ?_
      change (s.port p).egress.length + 1 + (s.efn.set f).quiet ≤ 8
      omega
    · exact ⟨_, (congrArg LinePort.toSend (State.appendAll_port _ _ p)).trans (LinePort.append_toSend _ _)⟩

/-- In a mode that does not report a flag sends nothing (R191). -/
theorem State.setFlag_of_silent (h : s.mcr.mode.sounding = false) (f : Flag) : s.setFlag f = s.withEfn (s.efn.set f) :=
  State.setFlagTo_of_quiet 4 (.inr (.inr (by simp [State.mayNotify, h])))

theorem State.notifies_setFlag (s : State) (f : Flag) : s.Notifies (s.setFlag f) where
  mcr := (s.sends_setFlag f).same.mcr
  efn := congrArg (fun x => x.efn) (s.sends_setFlag f).same
  flags := (s.sends_setFlag f).flags
  silent := fun h => by rw [State.setFlag_of_silent h]; rfl
  roomy := fun h => (h.setFlag f).1
  toSend := fun h => (h.setFlag f).2

theorem State.Notifies.setFlag (h : s.Notifies t) (f : Flag) : s.Notifies (t.setFlag f) := h.trans (t.notifies_setFlag f)

/-! ### What a change of mode delivers (R44, R154) -/

theorem State.Notifies.raise (h : s.Notifies t) (src : Source) (key : Half) (k : Restraint) :
    s.Notifies (t.raise src key k) := by
  unfold State.raise
  refine h.ite ?_
  split
  · exact (h.withRsl _).setFlag _
  · exact h.ite ((h.withRsl _).setFlag _)

theorem State.Notifies.lift (h : s.Notifies t) (src : Source) (key : Half) : s.Notifies (t.lift src key) := by
  unfold State.lift
  split
  · exact h
  · split
    · exact h
    · exact (h.withRsl _).setFlag _
    · exact (h.withRsl _).setFlag _

theorem State.Notifies.doorsTest (h : s.Notifies t) : s.Notifies t.doorsTest := by
  unfold State.doorsTest
  refine h.ite ?_
  split
  · exact (h.withSru _).raise _ _ _
  · exact (h.withSru _).lift _ _
  · exact h

theorem State.Notifies.deadmanHeld (h : s.Notifies t) : s.Notifies t.deadmanHeld := by
  unfold State.deadmanHeld
  exact (((h.withTdu _).withTdu _).lift _ _).ite (h.withTdu _)

theorem State.Notifies.emergencyHandle (h : s.Notifies t) (level : Bool) : s.Notifies (t.emergencyHandle level) := by
  unfold State.emergencyHandle
  exact (((h.withTdu _).raise _ _ _).setFlag _).ite (((h.withTdu _).lift _ _).ite h)

theorem State.Notifies.deliverTraction (h : s.Notifies t) (o : Option View) (n : View) :
    s.Notifies (t.deliverTraction o n) := by
  unfold State.deliverTraction
  have h1 := h.withTdu { t.tdu with inputs := t.tdu.inputs.deliver o n }
  have h2 : s.Notifies (if levelDue o n .deadman && heldIn n.image .deadman then _ else _) := h1.deadmanHeld.ite h1
  exact (h2.emergencyHandle _).ite h2

theorem State.Notifies.hornRelease (h : s.Notifies t) : s.Notifies t.hornRelease := by
  unfold State.hornRelease
  split
  · exact h
  · exact (h.withSsq _).ite (h.withSsq _)

theorem State.Notifies.deliverLevels (h : s.Notifies t) (o : Option View) (n : View) : s.Notifies (t.deliverLevels o n) := by
  have h1 := h.deliverTraction o n
  have h2 := h1.withSsq { (t.deliverTraction o n).ssq with hornLevel := heldIn n.image .horn }
  unfold State.deliverLevels State.deliverHorn
  exact State.Notifies.ite (h2.ite h2.hornRelease) h1

/-! ### A change of mode (R172, R192; log 9) -/

/-- What a change of mode does first: the mode is replaced, and where the old mode calls for it the sounders fall silent
and the vigilance timer is cleared (R64, R172; log 9). -/
def State.withModeSettled (s : State) (m : Mode) : State :=
  let s1 := s.withMode m
  let s2 := if s.mcr.mode.sounding && !m.sounding then s1.withSsq s1.ssq.silenced else s1
  if s.mcr.mode.driving && !m.driving then s2.withTdu s2.tdu.vigilCleared else s2

theorem State.withModeSettled_cases (s : State) (m : Mode) :
    ∃ (q : Sounder) (x : Traction), s.withModeSettled m = ((s.withMode m).withSsq q).withTdu x := by
  unfold State.withModeSettled
  dsimp only
  split <;> split
  · exact ⟨_, _, rfl⟩
  · exact ⟨s.ssq, _, rfl⟩
  · exact ⟨s.ssq.silenced, s.tdu, rfl⟩
  · exact ⟨s.ssq, s.tdu, rfl⟩

/-- What follows the report of the raised channels sets flags and no more (R44, R154). -/
theorem State.changeMode_notifies (s : State) (m : Mode) :
    State.Notifies
      (if !s.mcr.mode.sounding && m.sounding then (s.withModeSettled m).reportChannels else s.withModeSettled m)
      (s.changeMode m) := by
  have h4 := State.Notifies.refl
    (if !s.mcr.mode.sounding && m.sounding then (s.withModeSettled m).reportChannels else s.withModeSettled m)
  have h5 (v : View) : State.Notifies _ (if !s.mcr.mode.active && m.active then _ else _) := (h4.deliverLevels none v).ite h4
  exact (h5 _).doorsTest.ite (h5 _)

end Sys2Proof.Machine
end

section
/-! SUPPORT. The report of the raised channels, frame by frame (R192), and the statement about NOTIFY frames. -/

namespace Sys2Proof.Machine

variable {s t u : State}

/-! ### Frames appended one after another -/

theorem State.foldl_appendAll_frame (ns : List Frame) : ∀ s : State,
    ns.foldl State.appendAll s = s.withLine (ns.foldl State.appendAll s).line := by
  induction ns with
  | nil => exact fun _ => rfl
  | cons n ns ih => exact fun s => ih (s.appendAll n)

theorem State.foldl_appendAll_toSend (p : Line) (ns : List Frame) : ∀ s : State,
    ((ns.foldl State.appendAll s).port p).toSend = (s.port p).toSend ++ ns.map fun n => ⟨n, .own⟩ := by
  induction ns with
  | nil => exact fun _ => (List.append_nil _).symm
  | cons n ns ih =>
    intro s
    rw [List.foldl_cons, ih, State.appendAll_port, LinePort.append_toSend, List.append_assoc]
    rfl

theorem State.foldl_appendAll_link (p : Line) (ns : List Frame) : ∀ s : State,
    ((ns.foldl State.appendAll s).port p).link = (s.port p).link := by
  induction ns with
  | nil => exact fun _ => rfl
  | cons n ns ih => exact fun s => (ih _).trans (s.appendAll_link n p)

theorem State.foldl_appendAll_length_le (p : Line) (ns : List Frame) : ∀ s : State,
    ((ns.foldl State.appendAll s).port p).egress.length ≤ (s.port p).egress.length + ns.length := by
  induction ns with
  | nil => exact fun _ => Nat.le_refl _
  | cons n ns ih =>
    intro s
    have h1 := ih (s.appendAll n)
    have h2 := s.appendAll_length_le n p
    rw [List.foldl_cons, List.length_cons]
    omega

/-! ### The report (R192) -/

/-- The NOTIFY frames of a list of channels, under one sequence number after another (R16, R191). -/
def Notifier.notices (e : Notifier) (own seq : Byte) (cs : List Nat) : List Frame :=
  cs.mapIdx fun i c => e.notice own (seq + BitVec.ofNat 8 i) c

theorem Notifier.notices_cons (e : Notifier) (own seq : Byte) (c : Nat) (cs : List Nat) :
    e.notices own seq (c :: cs) = e.notice own seq c :: e.notices own (seq + 1) cs := by
  have hseq (i : Nat) : seq + BitVec.ofNat 8 (i + 1) = seq + 1 + BitVec.ofNat 8 i := by
    rw [BitVec.ofNat_add, BitVec.add_assoc, BitVec.add_comm (BitVec.ofNat 8 i)]
    rfl
  rw [Notifier.notices, List.mapIdx_cons]
  refine congrArg₂ List.cons (by rw [BitVec.add_zero]) ?_
  exact congrArg (List.mapIdx · cs) (funext fun i => funext fun _ => by rw [hseq])

theorem Notifier.notices_ids (e : Notifier) (own : Byte) (cs : List Nat) : ∀ seq : Byte,
    (e.notices own seq cs).map (·.id) = cs.map (BitVec.ofNat 16) := by
  induction cs with
  | nil => exact fun _ => rfl
  | cons c cs ih =>
    intro seq
    rw [Notifier.notices_cons, List.map_cons, ih, List.map_cons]
    rfl

theorem State.notice_of_notices (s : State) {own seq : Byte} {cs : List Nat} {i : Nat} {n : Frame}
    (h : (s.efn.notices own seq cs)[i]? = some n) :
    n.seq = seq + BitVec.ofNat 8 i ∧ ∃ c ∈ cs, s.NotifyIs own c n := by
  rw [Notifier.notices, List.getElem?_mapIdx, Option.map_eq_some_iff] at h
  obtain ⟨c, hc, rfl⟩ := h
  exact ⟨rfl, c, List.mem_of_getElem? hc, s.notifyIs_notice _ _ _⟩

/-- With places free for them all, the channels of a list that are on send their NOTIFY frames in order (R191). -/
theorem State.notifyAll_eq {own : Byte} (cs : List Nat) : ∀ s : State, s.mcr.address = some own →
    s.mcr.mode.sounding = true → (∀ p, (s.port p).link = .up ∧ (s.port p).egress.length + cs.length ≤ 8) →
    (∀ c, (s.efn.channel c).enable = true → (s.efn.channel c).dest = 63) →
      s.notifyAll cs =
        (s.efn.notices own s.line.txSeq (cs.filter fun c => (s.efn.channel c).enable)).foldl State.appendAll s := by
  induction cs with
  | nil => exact fun _ _ _ _ _ => rfl
  | cons c cs ih =>
    intro s ho hm hp hd
    have hstep : s.notifyAll (c :: cs) = (if s.mayNotify c then s.sendNotify c else s).notifyAll cs := rfl
    have hlen (p : Line) : (s.port p).egress.length + cs.length + 1 ≤ 8 := (hp p).2
    cases hc : (s.efn.channel c).enable with
    | false =>
      have hmay : s.mayNotify c = false := by rw [State.mayNotify, hc]; rfl
      rw [hstep, hmay, if_neg Bool.false_ne_true, ih s ho hm (fun p => ⟨(hp p).1, Nat.le_of_succ_le (hlen p)⟩) hd,
        List.filter_cons_of_neg (by simp [hc])]
    | true =>
      have hmay : s.mayNotify c = true := by rw [State.mayNotify, hc, hm]; rfl
      have hroom (p : Line) : (s.port p).hasRoom := ⟨(hp p).1, by have := hlen p; omega⟩
      have hsend : s.sendNotify c = s.appendAll (s.efn.notice own s.line.txSeq c) :=
        State.sendOwn_of_present (State.presentNotify_all ho (hd c hc) hroom)
      rw [hstep, hmay, if_pos rfl, hsend, ih (s.appendAll _) ho hm (fun p => ⟨?_, ?_⟩) hd,
        List.filter_cons_of_pos (by simp [hc]), Notifier.notices_cons]
      · rfl
      · exact (s.appendAll_link _ p).trans (hp p).1
      · exact (Nat.add_le_add_right (s.appendAll_length_le _ p) _).trans (by have := hlen p; omega)

/-- A part that reports nothing yet and has, at both ports, places for the NOTIFY frames of all channels. -/
structure State.ReadyToReport (s : State) (own : Byte) : Prop where
  address : s.mcr.address = some own
  silent : s.mcr.mode.sounding = false
  port : ∀ p, (s.port p).link = .up ∧ (s.port p).egress.length ≤ 4
  dest : ∀ c ∈ s.efn.channels, c.dest = 63

/-- The channels that report on entry to a mode that reports (R192). -/
def Notifier.reporting (e : Notifier) : List Nat := [0, 1, 2, 3].filter fun c => e.raised c && (e.channel c).enable

theorem Notifier.mem_reporting {e : Notifier} {c : Nat} (hc : c < 4) (hr : e.raised c = true)
    (he : (e.channel c).enable = true) : c ∈ e.reporting := by
  have : c = 0 ∨ c = 1 ∨ c = 2 ∨ c = 3 := by omega
  simpa [Notifier.reporting, hr, he] using this

theorem Notifier.lt_of_mem_reporting {e : Notifier} {c : Nat} (h : c ∈ e.reporting) : c < 4 :=
  List.mem_range.mp (List.mem_of_mem_filter h)

theorem Notifier.dest_of_forall {e : Notifier} (h : ∀ c ∈ e.channels, c.dest = 63) (c : Nat)
    (he : (e.channel c).enable = true) : (e.channel c).dest = 63 := by
  by_cases hc : c < e.channels.length
  · rw [Notifier.channel, List.getD_eq_getElem _ _ hc]
    exact h _ (List.getElem_mem hc)
  · rw [Notifier.channel, List.getD_eq_default _ _ (Nat.le_of_not_lt hc)] at he
    cases he

/-- The raised channels and the others are four. -/
theorem Notifier.quiet_add_raised (e : Notifier) : ((List.range 4).filter fun c => e.raised c).length + e.quiet = 4 := by
  have h := List.length_eq_countP_add_countP e.raised (l := List.range 4)
  rw [List.countP_eq_length_filter] at h
  simpa [Notifier.quiet] using h.symm

/-- The report sends the NOTIFY of each reporting channel in order, and leaves places for those of the others (R192). -/
theorem State.reportChannels_eq {own : Byte} (h : s.ReadyToReport own) {m : Mode} (hm : m.sounding = true) :
    (s.withModeSettled m).reportChannels.Roomy ∧
      ∀ p, ((s.withModeSettled m).reportChannels.port p).toSend =
        (s.port p).toSend ++ (s.efn.notices own s.line.txSeq s.efn.reporting).map fun n => ⟨n, .own⟩ := by
  obtain ⟨q, x, hx⟩ := s.withModeSettled_cases m
  have hd := Notifier.dest_of_forall h.dest
  have hq := s.efn.quiet_add_raised
  have hrep : (((List.range 4).filter fun c => s.efn.raised c).filter fun c => (s.efn.channel c).enable) =
      s.efn.reporting := by
    rw [List.filter_filter]
    exact List.filter_congr fun c _ => Bool.and_comm _ _
  have hle : s.efn.reporting.length ≤ ((List.range 4).filter fun c => s.efn.raised c).length :=
    hrep ▸ List.length_filter_le _ _
  have heq : (((s.withMode m).withSsq q).withTdu x).reportChannels =
      (s.efn.notices own s.line.txSeq s.efn.reporting).foldl State.appendAll (((s.withMode m).withSsq q).withTdu x) := by
    rw [← hrep]
    refine State.notifyAll_eq _ _ h.address hm (fun p => ⟨(h.port p).1, ?_⟩) hd
    have h4 := (h.port p).2
    change (s.port p).egress.length + ((List.range 4).filter fun c => s.efn.raised c).length ≤ 8
    omega
  rw [hx, heq]
  have hfr := State.foldl_appendAll_frame (s.efn.notices own s.line.txSeq s.efn.reporting)
    (((s.withMode m).withSsq q).withTdu x)
  have hefn := congrArg (fun y : State => y.efn) hfr
  have hmcr := congrArg (fun y : State => y.mcr) hfr
  refine ⟨⟨⟨own, by rw [hmcr]; exact h.address⟩, fun p => ?_, fun p => ?_, by rw [hefn]; exact hd⟩, fun p => ?_⟩
  · exact (State.foldl_appendAll_link p _ _).trans (h.port p).1
  · have hlen := State.foldl_appendAll_length_le p (s.efn.notices own s.line.txSeq s.efn.reporting)
      (((s.withMode m).withSsq q).withTdu x)
    have hns : (s.efn.notices own s.line.txSeq s.efn.reporting).length = s.efn.reporting.length := List.length_mapIdx
    have h4 := (h.port p).2
    rw [hefn]
    refine (Nat.add_le_add_right hlen _).trans ?_
    change (s.port p).egress.length + _ + s.efn.quiet ≤ 8
    omega
  · exact State.foldl_appendAll_toSend p _ _

/-- A mode that reports, entered from one that does not, sends its report before all else (R192; log 9). -/
theorem State.changeMode_reports {own : Byte} (h : s.ReadyToReport own) {m : Mode} (hm : m.sounding = true) (p : Line) :
    ∃ rest, ((s.changeMode m).port p).toSend =
      (s.port p).toSend ++ (s.efn.notices own s.line.txSeq s.efn.reporting).map (fun n => ⟨n, .own⟩) ++ rest := by
  obtain ⟨hroomy, hsend⟩ := State.reportChannels_eq h hm
  have k := s.changeMode_notifies m
  rw [h.silent, hm, Bool.not_false, Bool.and_self, if_pos rfl] at k
  obtain ⟨rest, hrest⟩ := k.toSend hroomy p
  exact ⟨rest, by rw [hrest, hsend]⟩

/-! ### The end of the check, and RELEASE (R194, R197) -/

/-- A NOTIFY of channel `c` as `u` makes it is among the frames that both ports of `t` have to send. -/
def State.NoticeQueued (u : State) (own : Byte) (c : Nat) (t : State) : Prop :=
  ∃ n : Frame, u.NotifyIs own c n ∧ ∀ p, ⟨n, .own⟩ ∈ (t.port p).toSend

theorem State.NoticeQueued.sends {own : Byte} {c : Nat} {v : State} (h : u.NoticeQueued own c t) (k : t.Sends v) :
    u.NoticeQueued own c v := by
  obtain ⟨n, hn, hmem⟩ := h
  have hk : n.kind ≠ .process := by rw [hn.2.2.1]; decide
  exact ⟨n, hn, fun p => (k.port p).kept n hk (hmem p)⟩

theorem State.NoticeQueued.standbyTest {own : Byte} {c : Nat} (h : u.NoticeQueued own c t) :
    u.NoticeQueued own c t.standbyTest := by
  unfold State.standbyTest
  split
  · exact h
  · exact h

theorem State.changeMode_noticeQueued {own : Byte} (h : s.ReadyToReport own) {m : Mode} (hm : m.sounding = true) {c : Nat}
    (hc : c < 4) (hr : s.efn.raised c = true) (he : (s.efn.channel c).enable = true) :
    s.NoticeQueued own c (s.changeMode m) := by
  obtain ⟨i, hi, hci⟩ := List.getElem_of_mem (Notifier.mem_reporting hc hr he)
  refine ⟨s.efn.notice own (s.line.txSeq + BitVec.ofNat 8 i) c, s.notifyIs_notice _ _ _, fun p => ?_⟩
  obtain ⟨rest, hrest⟩ := State.changeMode_reports h hm p
  have hmem : s.efn.notice own (s.line.txSeq + BitVec.ofNat 8 i) c ∈ s.efn.notices own s.line.txSeq s.efn.reporting :=
    List.mem_mapIdx.mpr ⟨i, hi, by rw [hci]⟩
  rw [hrest]
  exact List.mem_append_left _ (List.mem_append_right _ (List.mem_map_of_mem hmem))

/-- What a handling did before the change of mode leaves the part ready to report what it had to report. -/
theorem State.ReadyToReport.notifies {own : Byte} (h : s.ReadyToReport own) (k : s.Notifies t) : t.ReadyToReport own where
  address := by rw [k.mcr]; exact h.address
  silent := by rw [k.mcr]; exact h.silent
  port := fun p => by
    have hp : t.port p = s.port p := congrArg (·.port p) (k.silent h.silent)
    rw [hp]
    exact h.port p
  dest := by rw [k.efn]; exact h.dest

theorem State.Notifies.raised (k : s.Notifies t) {c : Nat} (h : s.efn.raised c = true) : t.efn.raised c = true := by
  have hm : t.efn.map = s.efn.map := congrArg (·.map) k.efn
  have he : t.efn.enables = s.efn.enables := congrArg (·.enables) k.efn
  exact Notifier.raised_mono hm he (State.flagsKept_iff.mp k.flags) h

theorem State.Notifies.channel (k : s.Notifies t) (c : Nat) : t.efn.channel c = s.efn.channel c := by
  rw [k.efn]
  rfl

/-- After flags set in a mode that does not report, the change to one that does sends the NOTIFY of each raised channel
that is on (R192). -/
theorem State.Notifies.noticeQueued {own : Byte} (k : s.Notifies u) (h : s.ReadyToReport own) {m : Mode}
    (hm : m.sounding = true) {c : Nat} (hc : c < 4) (hr : s.efn.raised c = true) (he : (s.efn.channel c).enable = true) :
    u.NoticeQueued own c (u.changeMode m) :=
  State.changeMode_noticeQueued (h.notifies k) hm hc (k.raised hr) (by rw [k.channel]; exact he)

/-- The front request of a row is the one that the row's command handles, in the modes that R175 does not answer alone. -/
theorem manage_of_asked {r : Request} {row : Row} (h : s.asked r row) (hrow : row ≠ .unknown)
    (act : Request → State → State × Answer) :
    manage row act s = (act r s.taken).1.respond r (act r s.taken).2 := by
  obtain ⟨hhead, hr, hst, hf⟩ := h
  obtain ⟨rest, hreq⟩ := List.head?_eq_some_iff.mp hhead
  have htaken : s.withFcl { s.fcl with requests := rest } = s.taken := by rw [State.taken, hreq]; rfl
  have hpre : preAnswer s.taken.mcr.mode r = none := by
    change preAnswer s.mcr.mode r = none
    simp [preAnswer, hst, hf, hr, hrow]
  unfold manage
  rw [hreq]
  dsimp only
  rw [if_pos hr, htaken, answerRequest, decideRequest, hpre]

/-- The change of mode of a check that passes reports from the state that the lift of MODE leaves (R194). -/
theorem State.endCheck_noticeQueued {own : Byte} (h : s.ReadyToReport own) {c : Nat} (hc : c < 4)
    (hr : s.efn.raised c = true) (he : (s.efn.channel c).enable = true) :
    ∃ u : State, (s.withMcr { s.mcr with checkLeft := 0 }).Notifies u ∧ u.NoticeQueued own c (s.endCheck true) := by
  have k := State.Notifies.refl (s.withMcr { s.mcr with checkLeft := 0 })
  have h0 : (s.withMcr { s.mcr with checkLeft := 0 }).ReadyToReport own := ⟨h.address, h.silent, h.port, h.dest⟩
  unfold State.endCheck
  dsimp only
  rw [if_neg (by decide)]
  split
  · have kl := k.lift .mode 0
    exact ⟨_, kl, ((kl.noticeQueued h0 rfl hc hr he).sends (State.sends_sendStopDisplay _)).standbyTest⟩
  · exact ⟨_, k, (k.noticeQueued h0 rfl hc hr he).sends (State.sends_sendStopDisplay _)⟩

/-- RELEASE from HOLD reports from the state that the lift of MODE leaves (R197). -/
theorem State.release_noticeQueued {own : Byte} (h : s.ReadyToReport own) {r : Request} (ha : s.asked r .release)
    (hm : s.mcr.mode = .hold) {c : Nat} (hc : c < 4) (hr : s.efn.raised c = true)
    (he : (s.efn.channel c).enable = true) :
    ∃ u : State, s.taken.Notifies u ∧ u.NoticeQueued own c (manage .release actRelease s) := by
  have k := ((State.Notifies.refl s.taken).withTdu { s.tdu with eCmd := 0 }).lift .mode 0
  have h0 : s.taken.ReadyToReport own := ⟨h.address, h.silent, h.port, h.dest⟩
  have hact : (actRelease r s.taken).1 = State.enterService (s.taken.withTdu { s.tdu with eCmd := 0 }) := by
    have hmode : s.taken.mcr.mode = .hold := hm
    unfold actRelease
    rw [hmode]
    rfl
  refine ⟨_, k, ?_⟩
  rw [manage_of_asked ha (by decide), hact]
  exact (k.noticeQueued h0 rfl hc hr he).standbyTest.sends (State.sends_respond _ _ _)

/-! ### The statement -/

/-- A flag that sends nothing (R187, R191). -/
theorem State.setFlag_of_quiet {f : Flag} (h : s.efn.raised (channelOf s.efn.map f.number) = true ∨
      s.efn.enables.getLsbD f.number = false ∨ (s.efn.channel (channelOf s.efn.map f.number)).enable = false ∨
      s.mcr.address = none ∨ s.mcr.mode.sounding = false) : s.setFlag f = s.withEfn (s.efn.set f) := by
  have hoff (hmay : (s.withEfn (s.efn.set f)).mayNotify (channelOf s.efn.map f.number) = false) :
      s.setFlag f = s.withEfn (s.efn.set f) := State.setFlagTo_of_quiet 4 (.inr (.inr hmay))
  obtain h | h | h | h | h := h
  · exact State.setFlagTo_of_quiet 4 (.inl h)
  · refine State.setFlagTo_of_quiet 4 ?_
    cases hr : s.efn.raised (channelOf s.efn.map f.number) with
    | true => exact .inl rfl
    | false => exact .inr (.inl ((s.efn.raised_set_of_disabled f h _).trans hr))
  · exact hoff (by rw [State.mayNotify]; exact Bool.and_eq_false_imp.mpr fun ht => absurd (h.symm.trans ht) (by decide))
  · by_cases hq : s.efn.raised (channelOf s.efn.map f.number) = true ∨
        (s.efn.set f).raised (channelOf s.efn.map f.number) = false ∨
        (s.withEfn (s.efn.set f)).mayNotify (channelOf s.efn.map f.number) = false
    · exact State.setFlagTo_of_quiet 4 hq
    · simp only [not_or, Bool.not_eq_true, Bool.not_eq_false] at hq
      obtain ⟨h1, h2, h3⟩ := hq
      exact State.setFlagTo_of_raise 3 h1 h2 h3 (State.present_of_none (s := s.withEfn (s.efn.set f)) h _ _ _ _)
  · exact State.setFlag_of_silent h f

/-- A flag takes its channel from quiet to raised, and the channel may notify (R187, R191). -/
structure State.RaisedBy (s : State) (f : Flag) (own : Byte) : Prop where
  address : s.mcr.address = some own
  quiet : s.efn.raised (channelOf s.efn.map f.number) = false
  enabled : s.efn.enables.getLsbD f.number = true
  on : (s.efn.channel (channelOf s.efn.map f.number)).enable = true
  sounding : s.mcr.mode.sounding = true

/-- The NOTIFY that such a flag sends (R191). -/
def State.noticeOf (s : State) (f : Flag) (own : Byte) : Frame :=
  (s.efn.set f).notice own s.line.txSeq (channelOf s.efn.map f.number)

/-- The destination of the NOTIFY frames of a flag's channel. -/
def State.noticeDest (s : State) (f : Flag) : Byte :=
  BitVec.ofNat 8 (s.efn.channel (channelOf s.efn.map f.number)).dest

theorem State.RaisedBy.setFlag {f : Flag} {own : Byte} {fd od : Bool} (h : s.RaisedBy f own)
    (hp : (s.withEfn (s.efn.set f)).presentNotify (channelOf s.efn.map f.number) = (t, fd, od)) :
    s.setFlag f =
      if od then State.setFlagTo 3 .ownDrop (if fd then State.setFlagTo 3 .fwdDrop t else t)
      else if fd then State.setFlagTo 3 .fwdDrop t else t :=
  State.setFlagTo_of_raise 3 h.quiet (s.efn.raised_set f h.enabled) (Bool.and_eq_true_iff.mpr ⟨h.on, h.sounding⟩) hp

theorem State.RaisedBy.setFlag_both {f : Flag} {own : Byte} (h : s.RaisedBy f own)
    (hr : s.line.routeTo own (s.noticeDest f) = .both) (ha : s.line.a.hasRoom) (hb : s.line.b.hasRoom) :
    s.setFlag f = (s.withEfn (s.efn.set f)).appendAll (s.noticeOf f own) :=
  h.setFlag (State.presentNotify_both (s := s.withEfn (s.efn.set f)) h.address hr ha hb)

theorem State.RaisedBy.setFlag_only {f : Flag} {own : Byte} {p : Line} (h : s.RaisedBy f own)
    (hr : s.line.routeTo own (s.noticeDest f) = .only p) (hp : (s.port p).hasRoom) :
    s.setFlag f = (s.withEfn (s.efn.set f)).appendAt p (s.noticeOf f own) :=
  h.setFlag (State.presentNotify_only (s := s.withEfn (s.efn.set f)) h.address hr hp)

theorem State.RaisedBy.setFlag_nowhere {f : Flag} {own : Byte} (h : s.RaisedBy f own)
    (hr : s.line.routeTo own (s.noticeDest f) = .nowhere) :
    s.setFlag f = State.setFlagTo 3 .ownDrop (s.withEfn (s.efn.set f)).countOwnDrops := by
  rw [h.setFlag (State.present_nowhere (s := s.withEfn (s.efn.set f)) h.address hr _ _ _), if_pos rfl,
    if_neg Bool.false_ne_true]

/-- OWN_DROP in a channel that has just been raised sends no further NOTIFY. -/
theorem State.RaisedBy.setFlag_nowhere_port {f : Flag} {own : Byte} (h : s.RaisedBy f own)
    (hr : s.line.routeTo own (s.noticeDest f) = .nowhere)
    (hc : channelOf s.efn.map Flag.ownDrop.number = channelOf s.efn.map f.number) (p : Line) :
    (s.setFlag f).port p = (s.port p).countOwnDrop := by
  have hefn : (s.withEfn (s.efn.set f)).countOwnDrops.efn = s.efn.set f := rfl
  have hmap : (s.efn.set f).map = s.efn.map := rfl
  rw [h.setFlag_nowhere hr, State.setFlagTo_of_quiet 3 (.inl (by rw [hefn, hmap, hc]; exact s.efn.raised_set f h.enabled))]
  exact State.countOwnDrops_port _ p

/-- The clause of O46 about a flag that sends its channel's NOTIFY (R187, R191). -/
theorem State.RaisedBy.notice_sent {f : Flag} {own : Byte} (h : s.RaisedBy f own) :
    ((s.noticeDest f = 63 ∨ (s.noticeDest f ≠ 0 ∧ s.noticeDest f ≠ own ∧
        (s.noticeDest f ∈ s.line.a.seen ↔ s.noticeDest f ∈ s.line.b.seen))) → s.line.a.hasRoom → s.line.b.hasRoom →
      (∀ p, ((s.setFlag f).port p).toSend = (s.port p).toSend ++ [⟨s.noticeOf f own, .own⟩]) ∧
        s.setFlag f = (s.withEfn (s.efn.set f)).withLine (s.setFlag f).line) ∧
    (∀ p, s.noticeDest f ≠ 63 → s.noticeDest f ≠ 0 → s.noticeDest f ≠ own → s.noticeDest f ∈ (s.port p).seen →
      s.noticeDest f ∉ (s.port (otherPort p)).seen → (s.port p).hasRoom →
        ((s.setFlag f).port p).toSend = (s.port p).toSend ++ [⟨s.noticeOf f own, .own⟩] ∧
          (s.setFlag f).port (otherPort p) = s.port (otherPort p) ∧
          s.setFlag f = (s.withEfn (s.efn.set f)).withLine (s.setFlag f).line) ∧
    (s.noticeDest f ≠ 63 → s.noticeDest f = 0 ∨ s.noticeDest f = own →
      (s.setFlag f).efn.isSet .ownDrop = true ∧
        (s.efn.map.ChannelIs 2 (channelOf s.efn.map f.number) →
          ∀ p, (s.setFlag f).port p = (s.port p).countOwnDrop)) := by
  refine ⟨fun hdest ha hb => ?_, fun p h63 h0 hown hp hq hroom => ?_, fun h63 hdest => ?_⟩
  · have hr : s.line.routeTo own (s.noticeDest f) = .both := by
      by_cases h63 : s.noticeDest f = 63
      · rw [h63]
        exact LineBlock.routeTo_all _ _
      · obtain ⟨h0, hown, hseen⟩ := hdest.resolve_left h63
        exact s.line.routeTo_both h63 h0 hown hseen
    rw [h.setFlag_both hr ha hb]
    refine ⟨fun p => ?_, rfl⟩
    rw [State.appendAll_port, LinePort.append_toSend]
    rfl
  · rw [h.setFlag_only (s.line.routeTo_only h63 h0 hown hp hq) hroom]
    refine ⟨?_, State.appendAt_port_other _ _ _, rfl⟩
    rw [State.appendAt_port, LinePort.append_toSend]
    rfl
  · have hr := s.line.routeTo_nowhere hdest h63
    refine ⟨?_, fun hc p => h.setFlag_nowhere_port hr ((MapMode.channelIs_iff _ _ _).mp hc).symm p⟩
    rw [h.setFlag_nowhere hr]
    exact State.setFlagTo_isSet _ _ _

theorem Mode.sounding_iff (m : Mode) : m.sounding = true ↔ m = .configure ∨ m = .service ∨ m = .holdPending := by
  cases m <;> decide

/-! #### NOTIFY_ENABLE (R191) -/

/-- A channel switched on or off. -/
def Notifier.switched (e : Notifier) (c : Nat) (on : Bool) : Notifier := e.withChannel c { e.channel c with enable := on }

theorem State.writeNotifyEnable_eq (s : State) (c : Nat) (on : Bool) :
    s.writeNotifyEnable c on =
      if !(s.efn.channel c).enable && s.efn.raised c && (s.withEfn (s.efn.switched c on)).mayNotify c then
        (s.withEfn (s.efn.switched c on)).sendNotify c
      else s.withEfn (s.efn.switched c on) := rfl

theorem Notifier.switched_channel (e : Notifier) {c : Nat} (hc : c < e.channels.length) (on : Bool) :
    (e.switched c on).channel c = { e.channel c with enable := on } := by
  rw [Notifier.switched, Notifier.withChannel, Notifier.channel, List.getD_eq_getElem?_getD, List.getElem?_set_self hc]
  rfl

/-- The NOTIFY of a channel does not depend on whether the channel is on. -/
theorem Notifier.notice_switched (e : Notifier) {c : Nat} (hc : c < e.channels.length) (on : Bool) (own seq : Byte) :
    (e.switched c on).notice own seq c = e.notice own seq c := by
  rw [Notifier.notice, Notifier.switched_channel e hc]
  rfl

theorem State.writeNotifyEnable_sends {own : Byte} {c : Nat} (hs : s.efn.channels.length = 4)
    (ho : s.mcr.address = some own) (hc : c < 4) (hr : s.efn.raised c = true) (hd : (s.efn.channel c).dest = 63)
    (hroom : ∀ p, (s.port p).hasRoom) (hoff : (s.efn.channel c).enable = false) (hm : s.mcr.mode.sounding = true) (p : Line) :
    ((s.writeNotifyEnable c true).port p).toSend = (s.port p).toSend ++ [⟨s.efn.notice own s.line.txSeq c, .own⟩] := by
  have hlt : c < s.efn.channels.length := hs ▸ hc
  have hch := s.efn.switched_channel hlt true
  have hmay : (s.withEfn (s.efn.switched c true)).mayNotify c = true := by
    rw [State.mayNotify, State.withEfn_efn, hch]
    exact hm
  have hsend : (s.withEfn (s.efn.switched c true)).sendNotify c = (s.withEfn (s.efn.switched c true)).appendAll
      ((s.efn.switched c true).notice own s.line.txSeq c) :=
    State.sendOwn_of_present (State.presentNotify_all (s := s.withEfn (s.efn.switched c true)) ho
      (by rw [State.withEfn_efn, hch]; exact hd) hroom)
  rw [State.writeNotifyEnable_eq, hoff, hr, hmay, Bool.not_false, Bool.and_self, Bool.and_self, if_pos rfl, hsend,
    State.appendAll_port, LinePort.append_toSend, Notifier.notice_switched _ hlt]
  rfl

theorem State.writeNotifyEnable_line {c : Nat} (h : (s.efn.channel c).enable = true ∨ s.mcr.mode.sounding = false)
    (on : Bool) : (s.writeNotifyEnable c on).line = s.line := by
  rw [State.writeNotifyEnable_eq, if_neg]
  · rfl
  · intro ht
    simp only [Bool.and_eq_true, Bool.not_eq_true', State.mayNotify] at ht
    obtain ⟨⟨hoff, -⟩, -, hm⟩ := ht
    obtain h | h := h
    · exact Bool.false_ne_true (hoff.symm.trans h)
    · exact Bool.false_ne_true (h.symm.trans hm)

/-! #### Changes of mode that report nothing -/

theorem State.doorsTest_of_held (h : s.DoorsHeld) : s.doorsTest = s := by
  obtain ⟨-, hmark, -⟩ := h
  unfold State.doorsTest
  cases ha : s.mcr.mode.active with
  | false => rfl
  | true =>
    rw [hmark ha]
    cases s.sru.doorsCondition <;> rfl

theorem State.changeMode_line_of_silent {m : Mode} (hm : m.sounding = false) : (s.changeMode m).line = s.line := by
  obtain ⟨q, x, hx⟩ := s.withModeSettled_cases m
  have k := s.changeMode_notifies m
  rw [hm, Bool.and_false, if_neg Bool.false_ne_true, hx] at k
  exact k.silent hm

theorem Mode.active_of_sounding {m : Mode} (h : m.sounding = true) : m.active = true := by
  obtain rfl | rfl | rfl := (Mode.sounding_iff m).mp h <;> rfl

/-- Between two modes that report, with the doors as their mark says, nothing is sent. -/
theorem State.changeMode_line_of_held (h : s.mcr.mode.sounding = true) (hd : s.DoorsHeld) {m : Mode}
    (hm : m.sounding = true) : (s.changeMode m).line = s.line := by
  have ha := Mode.active_of_sounding h
  obtain ⟨q, x, hx⟩ := s.withModeSettled_cases m
  have heq : s.changeMode m =
      if s.mcr.mode != m then (((s.withMode m).withSsq q).withTdu x).doorsTest else ((s.withMode m).withSsq q).withTdu x := by
    rw [← hx, State.changeMode, State.withModeSettled]
    simp only [h, ha, Bool.not_true, Bool.false_and, Bool.false_eq_true, if_false]
  have hheld : (((s.withMode m).withSsq q).withTdu x).doorsTest = ((s.withMode m).withSsq q).withTdu x := by
    obtain ⟨hl, hmark, hset⟩ := hd
    refine State.doorsTest_of_held ⟨hl, fun _ => hmark ha, fun hmk => ⟨fun hsb => ?_, (hset hmk).2⟩⟩
    have hsb' : m = .standby := hsb
    rw [hsb'] at hm
    cases hm
  rw [heq, hheld, ite_self]
  rfl

/-- Settles O46, clause by clause: the flags' numbers, what raises a channel, a flag set, an enable, the report of a
change of mode, and the changes that report nothing. -/
theorem raisedChannelNotifies : Obligations.RaisedChannelNotifies := by
  refine ⟨rfl, fun e c hc => e.raised_iff hc, fun s u f own dest c hch hu => ?_, fun s own c hs ho hc hr hd ha hb => ?_,
    fun s own m ho hq hm hp hd => ?_, fun s m h => ?_⟩
  · obtain rfl := (MapMode.channelIs_iff _ _ _).mp hch
    subst hu
    refine ⟨fun h => State.setFlag_of_quiet h, fun ho hr hen hon hm hdest => ?_⟩
    subst hdest
    have h : s.RaisedBy f own := ⟨ho, hr, hen, hon, (Mode.sounding_iff _).mpr hm⟩
    exact ⟨s.noticeOf f own, (s.withEfn (s.efn.set f)).notifyIs_notice _ _ _, rfl, h.notice_sent⟩
  · obtain ⟨-, -, -, -, -, -, -, -, -, -, -, hlen⟩ := hs
    have hroom (p : Line) : (s.port p).hasRoom := by cases p <;> assumption
    exact ⟨fun hoff hm => ⟨_, s.notifyIs_notice _ _ _, State.writeNotifyEnable_sends hlen ho hc hr hd hroom hoff hm⟩,
      fun h => State.writeNotifyEnable_line h true⟩
  · have h : s.ReadyToReport own := ⟨ho, hq, hp, hd⟩
    refine ⟨⟨_, s.efn.notices_ids own _ _, fun i n hn => ?_, State.changeMode_reports h hm⟩, fun c t hc hr he hexec => ?_⟩
    · obtain ⟨hseq, c, hc, hn⟩ := s.notice_of_notices hn
      exact ⟨hseq, c, Notifier.lt_of_mem_reporting hc, hn⟩
    · have key : ∃ u : State, s.flagsKept u ∧ u.efn = { s.efn with flags := u.efn.flags } ∧ u.NoticeQueued own c t := by
        obtain ⟨hst, hexec⟩ | ⟨hst, ⟨r, ha⟩, hexec⟩ := hexec
        · obtain ⟨u, k, hu⟩ := State.endCheck_noticeQueued h hc hr he
          have ht : t = s.endCheck true := by
            injection hexec with ht
            rw [← ht, if_pos hst]
          exact ⟨u, k.flags, k.efn, ht ▸ hu⟩
        · obtain ⟨u, k, hu⟩ := State.release_noticeQueued h ha hst hc hr he
          have ht : manage .release actRelease s = t := by
            injection hexec
          exact ⟨u, k.flags, k.efn, ht ▸ hu⟩
      obtain ⟨u, hkept, hefn, n, hn, hmem⟩ := key
      exact ⟨n, u, hn, hkept, hefn, hmem⟩
  · obtain hm | ⟨hso, hd⟩ := h
    · exact State.changeMode_line_of_silent hm
    · cases hm : m.sounding with
      | false => exact State.changeMode_line_of_silent hm
      | true => exact State.changeMode_line_of_held hso hd hm

end Sys2Proof.Machine
end

section
/-! SUPPORT. The settings that WRITE_ITEM and SET_ROUTE set (section 10.2, R101): for each operation of the part, that
it leaves them as they are. -/

namespace Sys2Proof.Machine

/-! ### The settings -/

/-- The settings whose ranges State.ItemsInRange gives (R32, R76, R100, R101, R161, R190). -/
structure Settings where
  traction : TractionItems
  route : RouteItems
  patterns : PatternItems
  routeNumber : Nat
  brakeSlot : Option Nat
  doorSlot : Option Nat
  stopSlot : Option Nat
  channels : List NotifyChannel

/-- The settings of the part. -/
def State.settings (s : State) : Settings :=
  ⟨s.tdu.items, s.rtu.items, s.ssq.items, s.rtu.routeNumber, s.sgt.brakeSlot, s.sgt.doorSlot, s.sgt.stopSlot,
    s.efn.channels⟩

/-- States of the same settings have them in range alike. -/
theorem State.ItemsInRange.of_settings {s t : State} (h : s.ItemsInRange) (ht : t.settings = s.settings) :
    t.ItemsInRange := by
  obtain ⟨h1, h2, h3, h4, h5, h6, h7, h8⟩ := Settings.mk.inj ht
  unfold State.ItemsInRange
  rw [h1, h2, h3, h4, h5, h6, h7, h8]
  exact h

variable (s : State)

/-! ### One block replaced -/

@[simp] theorem State.settings_withLine (x : LineBlock) : (s.withLine x).settings = s.settings := rfl
@[simp] theorem State.settings_withPort (p : Line) (x : LinePort) : (s.withPort p x).settings = s.settings := rfl
@[simp] theorem State.settings_withFcl (x : Classifier) : (s.withFcl x).settings = s.settings := rfl
@[simp] theorem State.settings_withDci (x : Desk) : (s.withDci x).settings = s.settings := rfl
@[simp] theorem State.settings_withRsl (x : List Restriction) : (s.withRsl x).settings = s.settings := rfl
@[simp] theorem State.settings_withTlk (x : TrackLink) : (s.withTlk x).settings = s.settings := rfl
@[simp] theorem State.settings_withSru (x : StopUnit) : (s.withSru x).settings = s.settings := rfl
@[simp] theorem State.settings_withMcr (x : Control) : (s.withMcr x).settings = s.settings := rfl
@[simp] theorem State.settings_withEnv (x : Environment) : (s.withEnv x).settings = s.settings := rfl
@[simp] theorem State.settings_withPending (x : List Instr) : (s.withPending x).settings = s.settings := rfl
@[simp] theorem State.settings_bumpFree : s.bumpFree.settings = s.settings := rfl
@[simp] theorem State.settings_withMarks (m : Marks) : (s.withMarks m).settings = s.settings := rfl
@[simp] theorem State.settings_withSlot (i : Nat) (x : Slot) : (s.withSlot i x).settings = s.settings := rfl
@[simp] theorem State.settings_withMode (m : Mode) : (s.withMode m).settings = s.settings := rfl
@[simp] theorem State.settings_withArmed (n : Nat) (a : Bool) : (s.withArmed n a).settings = s.settings := rfl
@[simp] theorem State.settings_withQueue (q : List Transaction) : (s.withQueue q).settings = s.settings := rfl
@[simp] theorem State.settings_withAttempt (a : Option Nat) : (s.withAttempt a).settings = s.settings := rfl

@[simp] theorem State.settings_withTdu {x : Traction} (h : x.items = s.tdu.items) :
    (s.withTdu x).settings = s.settings := by
  unfold State.settings
  simp [h]

@[simp] theorem State.settings_withSsq {x : Sounder} (h : x.items = s.ssq.items) :
    (s.withSsq x).settings = s.settings := by
  unfold State.settings
  simp [h]

@[simp] theorem State.settings_withRtu {x : RouteUnit} (hi : x.items = s.rtu.items)
    (hn : x.routeNumber = s.rtu.routeNumber) : (s.withRtu x).settings = s.settings := by
  unfold State.settings
  simp [hi, hn]

@[simp] theorem State.settings_withSgt {x : SignalTable} (hb : x.brakeSlot = s.sgt.brakeSlot)
    (hd : x.doorSlot = s.sgt.doorSlot) (hs : x.stopSlot = s.sgt.stopSlot) : (s.withSgt x).settings = s.settings := by
  unfold State.settings
  simp [hb, hd, hs]

@[simp] theorem State.settings_withEfn {x : Notifier} (h : x.channels = s.efn.channels) :
    (s.withEfn x).settings = s.settings := by
  unfold State.settings
  simp [h]

@[simp] theorem State.settings_ite {c : Prop} {_ : Decidable c} (s t : State) :
    (if c then s else t).settings = if c then s.settings else t.settings := apply_ite _ _ _ _

/-- Operations that leave the settings leave them one after another. -/
theorem State.settings_foldl {α : Type} {f : State → α → State} (hf : ∀ (u : State) x, (f u x).settings = u.settings)
    (l : List α) : ∀ s : State, (l.foldl f s).settings = s.settings := by
  induction l with
  | nil => exact fun _ => rfl
  | cons x l ih => exact fun s => (ih (f s x)).trans (hf s x)

/-! ### Frames, flags, restrictions -/

theorem State.sameButSent.settings {s t : State} (h : s.sameButSent t) : t.settings = s.settings := by
  unfold State.settings
  rw [h.tdu, h.rtu, h.ssq, h.sgt, h.channels]

@[simp] theorem State.settings_setFlag (f : Flag) : (s.setFlag f).settings = s.settings :=
  (s.setFlag_sameButSent f).settings
@[simp] theorem State.settings_setDrops (fd od : Bool) : (s.setDrops fd od).settings = s.settings :=
  (s.setDrops_sameButSent fd od).settings
@[simp] theorem State.settings_publish (i : Half) (b : List Byte) : (s.publish i b).settings = s.settings :=
  (s.publish_sameButSent i b).settings
@[simp] theorem State.settings_respond (r : Request) (a : Answer) : (s.respond r a).settings = s.settings :=
  (s.respond_sameButSent r a).settings
@[simp] theorem State.settings_sendNotify (c : Nat) : (s.sendNotify c).settings = s.settings :=
  (s.sendNotify_sameButSent c).settings
@[simp] theorem State.settings_judgeChannels (e : Notifier) : (s.judgeChannels e).settings = s.settings :=
  (s.judgeChannels_sameButSent e).settings
@[simp] theorem State.settings_reportChannels : s.reportChannels.settings = s.settings :=
  s.reportChannels_sameButSent.settings
@[simp] theorem State.settings_reportStops (l : List StopEntry) : (s.reportStops l).settings = s.settings :=
  (s.reportStops_sameButSent l).settings
@[simp] theorem State.settings_sendStopDisplay : s.sendStopDisplay.settings = s.settings :=
  s.sendStopDisplay_sameButSent.settings
@[simp] theorem State.settings_raise (src : Source) (key : Half) (k : Restraint) :
    (s.raise src key k).settings = s.settings := (s.raise_sameButSent src key k).settings
@[simp] theorem State.settings_lift (src : Source) (key : Half) : (s.lift src key).settings = s.settings :=
  (s.lift_sameButSent src key).settings
@[simp] theorem State.settings_releaseTest : s.releaseTest.settings = s.settings :=
  s.releaseTest_sameButSent.settings

/-! ### Sounders (chapter 9) -/

@[simp] theorem Sounder.withChannel_items (q : Sounder) (ch : Channel) (c : SoundChannel) :
    (q.withChannel ch c).items = q.items := by cases ch <;> rfl

@[simp] theorem Sounder.startFirst_items (q : Sounder) (ch : Channel) : (q.startFirst ch).items = q.items := by
  unfold Sounder.startFirst
  dsimp only
  split <;> simp

@[simp] theorem Sounder.enqueue_items (q : Sounder) (ch : Channel) (l : List SoundRequest) :
    (q.enqueue ch l).items = q.items := by
  unfold Sounder.enqueue
  dsimp only
  split <;> simp

@[simp] theorem Sounder.boundary_items (q : Sounder) (ch : Channel) (x : Playing) :
    (q.boundary ch x).items = q.items := by
  unfold Sounder.boundary
  dsimp only
  split
  · simp
  · split <;> simp

@[simp] theorem Sounder.endDirect_items (q : Sounder) : q.endDirect.items = q.items := by
  unfold Sounder.endDirect
  dsimp only
  split <;> simp

@[simp] theorem Sounder.silenced_items (q : Sounder) : q.silenced.items = q.items := (rfl)

@[simp] theorem State.settings_soundRequest (ch : Channel) (r : SoundRequest) :
    (s.soundRequest ch r).settings = s.settings := by
  simp [State.soundRequest]

@[simp] theorem State.settings_judgeLoad (ch : Channel) (load : Bool) :
    (s.judgeLoad ch load).settings = s.settings := by
  simp [State.judgeLoad]

@[simp] theorem State.settings_soundBoundary (ch : Channel) (load : Bool) :
    (s.soundBoundary ch load).settings = s.settings := by
  unfold State.soundBoundary
  split <;> simp

@[simp] theorem State.settings_hornPress : s.hornPress.settings = s.settings := by simp [State.hornPress]

@[simp] theorem State.settings_hornRelease : s.hornRelease.settings = s.settings := by
  unfold State.hornRelease
  split <;> simp

@[simp] theorem State.settings_hornMinEnd : s.hornMinEnd.settings = s.settings := by
  unfold State.hornMinEnd
  split <;> simp

@[simp] theorem State.settings_hornInterval (load : Bool) : (s.hornInterval load).settings = s.settings := by
  unfold State.hornInterval
  split <;> simp

/-! ### The route unit (chapter 6) -/

@[simp] theorem State.settings_countRetry : s.countRetry.settings = s.settings := by simp [State.countRetry]

@[simp] theorem State.settings_syncJunction (x : Transaction) : (s.syncJunction x).settings = s.settings := by
  unfold State.syncJunction
  split <;> simp

@[simp] theorem State.settings_startAttemptTimer : s.startAttemptTimer.settings = s.settings := rfl

@[simp] theorem State.settings_startAttempt : s.startAttempt.settings = s.settings := by
  unfold State.startAttempt
  split
  · rfl
  · split <;> simp

@[simp] theorem State.settings_makeUnconfirmed (x : Transaction) : (s.makeUnconfirmed x).settings = s.settings := by
  simp [State.makeUnconfirmed]

@[simp] theorem State.settings_failAttempt : s.failAttempt.settings = s.settings := by
  unfold State.failAttempt
  split <;> simp

@[simp] theorem State.settings_removeTransaction (x : Transaction) : (s.removeTransaction x).settings = s.settings := by
  unfold State.removeTransaction
  dsimp only
  split <;> simp

@[simp] theorem State.settings_liftRoute : s.liftRoute.settings = s.settings := by simp [State.liftRoute]

@[simp] theorem State.settings_afterRemoval (old : Option Half) : (s.afterRemoval old).settings = s.settings := by
  unfold State.afterRemoval
  dsimp only
  split <;> simp

@[simp] theorem State.settings_passTransaction (x : Transaction) : (s.passTransaction x).settings = s.settings := by
  simp [State.passTransaction]

@[simp] theorem State.settings_autoBell (j : Half) : (s.autoBell j).settings = s.settings := by
  unfold State.autoBell
  split <;> simp

@[simp] theorem State.settings_announce (j : Half) (d : Nat) : (s.announce j d).settings = s.settings := by
  unfold State.announce
  dsimp only
  cases (s.rtu.newTransaction j d).restraint s.rtu.items <;> simp

@[simp] theorem State.settings_refuseApproach : s.refuseApproach.settings = s.settings := by simp [State.refuseApproach]

@[simp] theorem State.settings_approach (j : Half) (d : Nat) : (s.approach j d).settings = s.settings := by
  unfold State.approach
  split <;> simp

@[simp] theorem State.settings_actOnConfirm (x : Transaction) (d : PointDir) (c : ConfirmState) :
    (s.actOnConfirm x d c).settings = s.settings := by
  cases c <;> simp [State.actOnConfirm]

@[simp] theorem State.settings_confirm (j tram : Half) (q : Byte) (d : PointDir) (c : ConfirmState) :
    (s.confirm j tram q d c).settings = s.settings := by
  unfold State.confirm
  split
  · rfl
  · split <;> simp

@[simp] theorem State.settings_clearJunction (j : Half) : (s.clearJunction j).settings = s.settings := by
  unfold State.clearJunction
  split <;> simp

@[simp] theorem State.settings_deliverTelegram (m : Telegram) : (s.deliverTelegram m).settings = s.settings := by
  cases m <;> simp [State.deliverTelegram]

@[simp] theorem State.settings_linkFaulted : s.linkFaulted.settings = s.settings := by
  simp [State.linkFaulted, State.settings_foldl State.settings_makeUnconfirmed]

@[simp] theorem State.settings_requestSent (q : Byte) : (s.requestSent q).settings = s.settings := by
  unfold State.requestSent
  split <;> simp

@[simp] theorem State.settings_judgeDistance (x : Transaction) : (s.judgeDistance x).settings = s.settings := by
  simp [State.judgeDistance]

@[simp] theorem State.settings_periodDistance (d : Nat) : (s.periodDistance d).settings = s.settings := by
  simp [State.periodDistance, State.settings_foldl State.settings_judgeDistance]

@[simp] theorem State.settings_routeButton (d : PointDir) : (s.routeButton d).settings = s.settings := by
  unfold State.routeButton
  split
  · rfl
  · split <;> simp

@[simp] theorem State.settings_proceedPress : s.proceedPress.settings = s.settings := by
  unfold State.proceedPress
  split
  · rfl
  · split <;> simp

@[simp] theorem State.settings_reversal : s.reversal.settings = s.settings := by
  simp [State.reversal, State.settings_foldl State.settings_removeTransaction]

/-! ### Stops, doors and slots (chapters 2 and 8) -/

@[simp] theorem State.settings_firstEntry (k : StopKind) (l : List StopEntry) :
    (s.firstEntry k l).settings = s.settings := by
  cases k <;> simp [State.firstEntry]

@[simp] theorem State.settings_registerSource (n : Nat) : (s.registerSource n).settings = s.settings := by
  simp [State.registerSource]

@[simp] theorem State.settings_treatSource (image : Word) (n : Nat) :
    (State.treatSource image s n).settings = s.settings := by
  simp [State.treatSource]

@[simp] theorem State.settings_stopButtons (image : Word) : (s.stopButtons image).settings = s.settings := by
  simp [State.stopButtons, State.settings_foldl (fun u n => State.settings_treatSource u image n)]

@[simp] theorem State.settings_stopButtonsStale : s.stopButtonsStale.settings = s.settings := rfl

@[simp] theorem State.settings_sourceEnabled (n : Nat) : (s.sourceEnabled n).settings = s.settings := by
  simp [State.sourceEnabled]

@[simp] theorem State.settings_doorsTest : s.doorsTest.settings = s.settings := by
  unfold State.doorsTest
  split
  · rfl
  · split <;> simp

@[simp] theorem State.settings_doorSummary (v : DoorView) : (s.doorSummary v).settings = s.settings := by
  simp [State.doorSummary]

@[simp] theorem State.settings_doorSummaryStale : s.doorSummaryStale.settings = s.settings := by
  simp [State.doorSummaryStale]

@[simp] theorem State.settings_doorReleasePress (side : Side) : (s.doorReleasePress side).settings = s.settings := by
  simp [State.doorReleasePress, State.releaseDoors]

@[simp] theorem State.settings_doorClosePress : s.doorClosePress.settings = s.settings := by
  unfold State.doorClosePress
  split <;> simp

@[simp] theorem State.settings_stopCancelPress : s.stopCancelPress.settings = s.settings := by
  simp [State.stopCancelPress]

@[simp] theorem State.settings_doorSlotEvent (b : Option Nat) : (s.doorSlotEvent b).settings = s.settings := by
  unfold State.doorSlotEvent
  split <;> simp

@[simp] theorem State.settings_stopSlotEvent (b : Option Nat) : (s.stopSlotEvent b).settings = s.settings := by
  unfold State.stopSlotEvent
  split <;> simp

@[simp] theorem State.settings_slotEvent (i : Nat) : (s.slotEvent i).settings = s.settings := by
  simp [State.slotEvent]

@[simp] theorem State.settings_classify (f : Frame) : (s.classify f).settings = s.settings := by
  have update (i limit : Nat) : (s.updateSlot i f limit).settings = s.settings := by simp [State.updateSlot]
  have process : (s.takeProcess f).settings = s.settings := by
    unfold State.takeProcess
    split
    · rfl
    · split <;> simp [update]
  have request : (s.takeManage f).settings = s.settings := by simp [State.takeManage]
  unfold State.classify
  split <;> simp [process, request]

@[simp] theorem State.settings_ageSlots : s.ageSlots.settings = s.settings := by
  simp [State.ageSlots, State.settings_foldl State.settings_slotEvent, SignalTable.aged]

end Sys2Proof.Machine
end

section
/-! SUPPORT. The traction unit, the modes, the desk, the track link, the ports and the requests leave the settings as
they are, but for WRITE_ITEM and SET_ROUTE, which store them within their ranges, and POWER_ON (chapters 1, 3, 4, 7,
10, 11). -/

namespace Sys2Proof.Machine

variable (s : State)

/-! ### Traction (chapter 4) -/

@[simp] theorem State.settings_findSpeed : s.findSpeed.settings = s.settings := by
  unfold State.findSpeed
  split <;> simp

@[simp] theorem State.settings_superviseSpeed : s.superviseSpeed.settings = s.settings := by
  unfold State.superviseSpeed
  split <;> simp

@[simp] theorem State.settings_advanceOdometer : s.advanceOdometer.1.settings = s.settings := by
  unfold State.advanceOdometer
  split <;> simp

@[simp] theorem State.settings_evaluateSpeed : s.evaluateSpeed.1.settings = s.settings := by simp [State.evaluateSpeed]

@[simp] theorem State.settings_settleDirection : s.settleDirection.1.settings = s.settings := by
  unfold State.settleDirection
  dsimp only
  split
  · simp
  · split
    · split <;> simp
    · split <;> simp

@[simp] theorem State.settings_judgeBrake : s.judgeBrake.settings = s.settings := by
  unfold State.judgeBrake
  dsimp only
  split
  · simp
  · split <;> simp

@[simp] theorem State.settings_superviseUnits (w : Nat) : (s.superviseUnits w).settings = s.settings := by
  unfold State.superviseUnits
  split <;> simp

@[simp] theorem State.settings_finishPeriod (stepped : Bool) (y : Summary) (target : Int) (limb : Option (Limb × Nat)) :
    (s.finishPeriod stepped y target limb).settings = s.settings := by
  simp [State.finishPeriod]

@[simp] theorem State.settings_computePeriod : s.computePeriod.1.settings = s.settings := by simp [State.computePeriod]

@[simp] theorem State.settings_computeStep : s.computeStep.1.settings = s.settings := by simp [State.computeStep]

@[simp] theorem State.settings_publishSetpoint : s.publishSetpoint.settings = s.settings := by
  unfold State.publishSetpoint
  split <;> simp

@[simp] theorem State.settings_publishHold : s.publishHold.settings = s.settings := by simp [State.publishHold]

@[simp] theorem Traction.vigilCleared_items (t : Traction) : t.vigilCleared.items = t.items := (rfl)

@[simp] theorem State.settings_supervise : s.supervise.settings = s.settings := by
  have warning (u : State) : u.vigilWarning.settings = u.settings := by simp [State.vigilWarning]
  have trip (u : State) : u.vigilTrip.settings = u.settings := by simp [State.vigilTrip]
  simp [State.supervise, warning, trip]

@[simp] theorem State.settings_deadmanHeld : s.deadmanHeld.settings = s.settings := by simp [State.deadmanHeld]

@[simp] theorem State.settings_emergencyHandle (level : Bool) : (s.emergencyHandle level).settings = s.settings := by
  simp [State.emergencyHandle]

/-! ### Changes of mode (chapter 11) -/

@[simp] theorem State.settings_deliverTraction (o : Option View) (n : View) :
    (s.deliverTraction o n).settings = s.settings := by
  simp [State.deliverTraction]

@[simp] theorem State.settings_deliverHorn (o : Option View) (n : View) :
    (s.deliverHorn o n).settings = s.settings := by
  simp [State.deliverHorn]

@[simp] theorem State.settings_deliverLevels (o : Option View) (n : View) :
    (s.deliverLevels o n).settings = s.settings := by
  simp [State.deliverLevels]

@[simp] theorem State.settings_changeMode (m : Mode) : (s.changeMode m).settings = s.settings := by
  have silent : ((s.withMode m).withSsq s.ssq.silenced).settings = s.settings := rfl
  simp [State.changeMode, silent]

@[simp] theorem State.settings_enterStandby : s.enterStandby.settings = s.settings := rfl

@[simp] theorem State.settings_standbyTest : s.standbyTest.settings = s.settings := by simp [State.standbyTest]

@[simp] theorem State.settings_enterHold : s.enterHold.settings = s.settings := by simp [State.enterHold]

@[simp] theorem State.settings_completionTest : s.completionTest.settings = s.settings := by simp [State.completionTest]

@[simp] theorem State.settings_completionAfter (before : State) :
    (State.completionAfter before s).settings = s.settings := by
  simp [State.completionAfter]

@[simp] theorem State.settings_restartBlocks : s.restartBlocks.settings = s.settings := by
  unfold State.restartBlocks
  rw [State.settings_raise]
  rfl

@[simp] theorem State.settings_keyChanged : s.keyChanged.settings = s.settings := by simp [State.keyChanged]

@[simp] theorem State.settings_enterService : s.enterService.settings = s.settings := by simp [State.enterService]

@[simp] theorem State.settings_endCheck (pass : Bool) : (s.endCheck pass).settings = s.settings := by
  simp [State.endCheck]

@[simp] theorem State.settings_startPeriod : s.startPeriod.settings = s.settings := rfl

@[simp] theorem State.settings_periodWork : s.periodWork.settings = s.settings := by
  unfold State.periodWork
  dsimp only
  cases s.mcr.mode with
  | starting | failed | standby => rfl
  | step => simp
  | configure | hold =>
    dsimp only
    split <;> simp
  | service | holdPending =>
    dsimp only
    cases s.computePeriod.2.distance <;> simp

/-! ### The desk (chapter 3) -/

@[simp] theorem State.settings_routePress (i : DeskInput) : (s.routePress i).settings = s.settings := by
  unfold State.routePress
  split <;> simp

@[simp] theorem State.settings_stopPress (i : DeskInput) : (s.stopPress i).settings = s.settings := by
  unfold State.stopPress
  split <;> simp

@[simp] theorem State.settings_deliverSound (c : ScanChange) : (s.deliverSound c).settings = s.settings := by
  simp [State.deliverSound]

@[simp] theorem State.settings_deliverTo (c : ScanChange) (x : Consumer) :
    (State.deliverTo c s x).settings = s.settings := by
  cases x <;>
    simp [State.deliverTo, State.settings_foldl State.settings_routePress,
      State.settings_foldl State.settings_stopPress]

@[simp] theorem State.settings_deliverScan (c : ScanChange) : (s.deliverScan c).settings = s.settings :=
  State.settings_foldl (fun u x => u.settings_deliverTo c x) _ s

@[simp] theorem State.settings_raiseDesk (k : DeskKind) : (s.raiseDesk k).settings = s.settings := by
  simp [State.raiseDesk]

@[simp] theorem State.settings_loseDesk : s.loseDesk.settings = s.settings := by simp [State.loseDesk]

@[simp] theorem State.settings_recoverDesk : s.recoverDesk.settings = s.settings := by simp [State.recoverDesk]

@[simp] theorem State.settings_escalateDesk : s.escalateDesk.settings = s.settings := by
  unfold State.escalateDesk
  split
  · split <;> simp
  · rfl

@[simp] theorem State.settings_badScan : s.badScan.settings = s.settings := by
  unfold State.badScan
  dsimp only
  split <;> simp

@[simp] theorem State.settings_goodScan (image : Word) (handle : Int) :
    (s.goodScan image handle).settings = s.settings := by
  unfold State.goodScan
  dsimp only
  split <;> simp

@[simp] theorem State.settings_scanExpiry : s.scanExpiry.settings = s.settings := by simp [State.scanExpiry]

@[simp] theorem State.settings_judgeScan (bytes : List Byte) : (s.judgeScan bytes).settings = s.settings := by
  unfold State.judgeScan
  dsimp only
  split <;> simp

/-! ### The track link (chapter 7) -/

@[simp] theorem State.settings_arrivalStart : s.arrivalStart.settings = s.settings :=
  s.arrivalStart_sameButSent.settings

@[simp] theorem State.settings_badTelegram : s.badTelegram.settings = s.settings := by simp [State.badTelegram]

@[simp] theorem State.settings_goodTelegram (m : Telegram) : (s.goodTelegram m).settings = s.settings := by
  simp [State.goodTelegram]

@[simp] theorem State.settings_arrivalEnd (bytes : List Byte) : (s.arrivalEnd bytes).settings = s.settings := by
  unfold State.arrivalEnd
  dsimp only
  split
  · simp
  · split
    · rfl
    · cases acceptTelegram bytes <;> simp

@[simp] theorem State.settings_transmissionDone : s.transmissionDone.settings = s.settings := by
  unfold State.transmissionDone
  split <;> simp

/-! ### The line ports (chapter 1) -/

@[simp] theorem State.settings_activityExpiry (p : Line) : (s.activityExpiry p).settings = s.settings := by
  unfold State.activityExpiry
  split <;> simp

@[simp] theorem State.settings_handleFrame (p : Line) : (s.handleFrame p).settings = s.settings := by
  unfold State.handleFrame
  split
  · rfl
  · dsimp only
    split <;> simp [State.decideForwarding, State.forwardFrom_eq]

/-! ### Requests that set nothing (chapter 10) -/

/-- A request that leaves the settings. -/
def ActLeavesSettings (act : Request → State → State × Answer) : Prop := ∀ r s, (act r s).1.settings = s.settings

@[simp] theorem State.settings_loadSource (n : Nat) (e : StopSource) : (s.loadSource n e).settings = s.settings := by
  simp [State.loadSource]

@[simp] theorem State.settings_replaceEntry (i : Index) (e : LoadedEntry) :
    (s.replaceEntry i e).settings = s.settings := by
  cases e <;> simp [State.replaceEntry]

@[simp] theorem State.settings_load (n : TableName) (bank : Byte) (bytes : List Byte) :
    (s.load n bank bytes).1.settings = s.settings := by
  unfold State.load State.loadInRange
  split
  · rfl
  · split
    · split
      · simp
      · split <;> simp [State.addLoadSum]
    · rfl

@[simp] theorem State.settings_commitTable (n : Option TableName) : (s.commitTable n).1.settings = s.settings := by
  unfold State.commitTable State.commitCurve State.commitAllocation State.commitRoute
  repeat' split
  all_goals simp

theorem actLoadEntry_leaves : ActLeavesSettings actLoadEntry := fun r s => by
  unfold actLoadEntry
  split
  · rfl
  · exact s.settings_load _ _ _

theorem actCommit_leaves : ActLeavesSettings actCommit := fun _ s => s.settings_commitTable _

theorem actReadItem_leaves : ActLeavesSettings actReadItem := fun r s => by
  unfold actReadItem
  split <;> rfl

theorem actReadLoadSum_leaves : ActLeavesSettings actReadLoadSum := fun _ _ => rfl
theorem actReadRestrictions_leaves : ActLeavesSettings actReadRestrictions := fun _ _ => rfl
theorem actReadJunctions_leaves : ActLeavesSettings actReadJunctions := fun _ _ => rfl
theorem actReadStops_leaves : ActLeavesSettings actReadStops := fun _ _ => rfl
theorem actUnknown_leaves : ActLeavesSettings actUnknown := fun _ _ => rfl

theorem actReadEntry_leaves : ActLeavesSettings actReadEntry := fun r s => by
  unfold actReadEntry
  split
  · rfl
  · split <;> rfl

theorem actReadFlags_leaves : ActLeavesSettings actReadFlags := fun r s => by
  unfold actReadFlags
  dsimp only
  split <;> simp

theorem actSetEnables_leaves : ActLeavesSettings actSetEnables := fun r s => by
  unfold actSetEnables
  dsimp only
  split <;> simp

theorem actReadStep_leaves : ActLeavesSettings actReadStep := fun r s => by
  unfold actReadStep
  dsimp only
  split <;> rfl

theorem actHoldSoft_leaves : ActLeavesSettings actHoldSoft := fun r s => by
  unfold actHoldSoft
  split <;> simp

theorem actHoldHard_leaves : ActLeavesSettings actHoldHard := fun r s => by
  unfold actHoldHard
  repeat' split
  all_goals simp

theorem actRelease_leaves : ActLeavesSettings actRelease := fun r s => by
  unfold actRelease
  split <;> simp

theorem actStepEnter_leaves : ActLeavesSettings actStepEnter := fun r s => by
  unfold actStepEnter
  split <;> simp

theorem actStepOne_leaves : ActLeavesSettings actStepOne := fun r s => by
  unfold actStepOne State.stepOnce
  split <;> simp

theorem actStepExit_leaves : ActLeavesSettings actStepExit := fun r s => by
  unfold actStepExit
  split <;> simp

theorem actEnterService_leaves : ActLeavesSettings actEnterService := fun r s => by
  unfold actEnterService
  split
  · rfl
  · split <;> simp

theorem actRestart_leaves : ActLeavesSettings actRestart := fun r s => by
  unfold actRestart
  repeat' split
  all_goals simp

/-! ### Requests that set an item (R101, R177, R178) -/

variable {s}

/-- A request that keeps the settings within their ranges. -/
def ActKeepsRanges (act : Request → State → State × Answer) : Prop :=
  ∀ r s, s.ItemsInRange → (act r s).1.ItemsInRange

theorem ActLeavesSettings.keepsRanges {act : Request → State → State × Answer} (h : ActLeavesSettings act) :
    ActKeepsRanges act :=
  fun r s hs => hs.of_settings (h r s)

/-- A written value lies in its range (R178). -/
theorem clampTo_mem {lo hi : Int} (h : lo ≤ hi) (v : Int) : lo ≤ clampTo lo hi v ∧ clampTo lo hi v ≤ hi :=
  ⟨le_max_left _ _, max_le h (min_le_left _ _)⟩

/-- A value of whole twenties is brought into a range of whole twenties as such (R76, R100). -/
theorem clampTo_truncate20_emod {lo hi : Int} (hlo : lo % 20 = 0) (hhi : hi % 20 = 0) (v : Int) :
    clampTo lo hi (truncate20 v) % 20 = 0 := by
  unfold clampTo truncate20
  omega

/-- The traction item written stays in range, for the range of each vigilance item leaves the other 500 (R76). -/
theorem TractionItems.InRange.write {i : TractionItems} (h : i.InRange) (t : TractionItem) (v : Int) :
    (i.write (i.fit t v).toNat t).InRange := by
  obtain ⟨h1, h2, h3, h4, h5, h6, h7, h8, h9, h10, h11, h12, h13, h14⟩ := h
  have hrange : 0 ≤ (i.range t).1 ∧ (i.range t).1 ≤ (i.range t).2 := by
    cases t <;> simp only [TractionItems.range] <;> omega
  obtain ⟨hlo, hle⟩ := hrange
  have hfit (w : Int) := clampTo_mem hle w
  cases t
  all_goals
    simp only [TractionItems.InRange, TractionItems.write, TractionItems.fit, TractionItems.range] at *
  case vigilWarn =>
    have := clampTo_truncate20_emod (lo := 1000) (hi := i.vigilLimit - 500) rfl (by omega) v
    have := hfit (truncate20 v)
    omega
  case vigilLimit =>
    have := clampTo_truncate20_emod (lo := i.vigilWarn + 500) (hi := 15000) (by omega) rfl v
    have := hfit (truncate20 v)
    omega
  all_goals
    have := hfit v
    omega

theorem RouteItems.InRange.write {i : RouteItems} (h : i.InRange) (r : RouteItem) (v : Int) :
    (i.write (r.fit v).toNat r).InRange := by
  obtain ⟨h1, h2, h3, h4, h5, h6, h7⟩ := h
  cases r with
  | confirmTimeout =>
    have := clampTo_truncate20_emod (lo := 100) (hi := 1000) rfl rfl v
    have := clampTo_mem (lo := 100) (hi := 1000) (by decide) (truncate20 v)
    simp only [RouteItems.InRange, RouteItems.write, RouteItem.fit]
    omega
  | _ =>
    simp only [RouteItems.InRange, RouteItems.write, RouteItem.fit, clampTo]
    omega

theorem PatternItems.InRange.write {i : PatternItems} (h : i.InRange) (p : PatternItem) {n : Nat} (hn : n ≤ 15) :
    (i.write n p).InRange := by
  obtain ⟨h1, h2, h3, h4, h5, h6⟩ := h
  cases p <;> exact ⟨by assumption, by assumption, by assumption, by assumption, by assumption, by assumption⟩

/-- A written binding is a slot of the table, or none (R32). -/
theorem slotBound_bindingSlot (v : Int) : slotBound (bindingSlot (fitBinding v).toNat) := by
  unfold bindingSlot fitBinding clampTo
  split_ifs <;> simp only [slotBound, Option.getD_none, Option.getD_some] <;> omega

theorem State.ItemsInRange.writeBinding (h : s.ItemsInRange) (b : Binding) {slot : Option Nat} (hs : slotBound slot) :
    (s.writeBinding b slot).ItemsInRange := by
  obtain ⟨h1, h2, h3, h4, h5, h6, h7, h8⟩ := h
  have bound : ((s.withSgt (s.sgt.bind slot b)).bumpFree).ItemsInRange := by
    cases b with
    | brake => exact ⟨h1, h2, h3, h4, hs, h6, h7, h8⟩
    | door => exact ⟨h1, h2, h3, h4, h5, hs, h7, h8⟩
    | stop => exact ⟨h1, h2, h3, h4, h5, h6, hs, h8⟩
  refine bound.of_settings ?_
  unfold State.writeBinding
  cases b <;> simp

/-- The notify channels keep their destinations within range where one is replaced by a channel that has its own so. -/
theorem State.ItemsInRange.withNotifyChannel (h : s.ItemsInRange) (c : Nat) {x : NotifyChannel} (hx : x.dest ≤ 63) :
    (s.withEfn (s.efn.withChannel c x)).ItemsInRange := by
  obtain ⟨h1, h2, h3, h4, h5, h6, h7, h8⟩ := h
  refine ⟨h1, h2, h3, h4, h5, h6, h7, fun y hy => ?_⟩
  obtain hy | rfl := List.mem_or_eq_of_mem_set hy
  · exact h8 y hy
  · exact hx

theorem State.ItemsInRange.channel_dest (h : s.ItemsInRange) (c : Nat) : (s.efn.channel c).dest ≤ 63 := by
  obtain ⟨-, -, -, -, -, -, -, hdest⟩ := h
  unfold Notifier.channel
  rw [List.getD_eq_getElem?_getD]
  cases hc : s.efn.channels[c]? with
  | none => exact Nat.zero_le 63
  | some x => exact hdest x (List.mem_of_getElem? hc)

/-- A settable item stores a value of its range (R177, R178). -/
theorem State.ItemsInRange.storeItem (h : s.ItemsInRange) (i : Item) (v : Int) : (s.storeItem i v).1.ItemsInRange := by
  obtain ⟨h1, h2, h3, h4, h5, h6, h7, h8⟩ := id h
  cases i with
  | traction t => exact ⟨h1.write t v, h2, h3, h4, h5, h6, h7, h8⟩
  | route r => exact ⟨h1, h2.write r v, h3, h4, h5, h6, h7, h8⟩
  | binding b => exact h.writeBinding b (slotBound_bindingSlot v)
  | pattern p =>
    have hp : (clampTo 0 15 v).toNat ≤ 15 := by have := clampTo_mem (lo := 0) (hi := 15) (by decide) v; omega
    exact ⟨h1, h2, h3.write p hp, h4, h5, h6, h7, h8⟩
  | notifyEnable c =>
    have on : (s.withEfn (s.efn.withChannel c { s.efn.channel c with
        enable := (s.fitItem (.notifyEnable c) v).toNat != 0 })).ItemsInRange :=
      h.withNotifyChannel c (h.channel_dest c)
    refine on.of_settings ?_
    simp only [State.storeItem, State.setItem, State.writeNotifyEnable, State.settings_ite, State.settings_sendNotify,
      ite_self]
  | notifyDest c =>
    refine h.withNotifyChannel c (x := { s.efn.channel c with dest := _ }) ?_
    have := clampTo_mem (lo := 0) (hi := 63) (by decide) v
    change (clampTo 0 63 v).toNat ≤ 63
    omega
  | notifyMap =>
    refine h.of_settings ?_
    simp [State.storeItem, State.setItem, State.writeNotifyMap]
  | _ => exact h

theorem actWriteItem_keepsRanges : ActKeepsRanges actWriteItem := fun r s h => by
  unfold actWriteItem
  split
  · unfold State.writeItem
    split
    · exact h
    · split
      · exact h.storeItem _ _
      · exact h
    · exact h.storeItem _ _
    · refine h.of_settings ?_
      unfold State.clearItem
      split <;> simp
  · exact h

/-- SET_ROUTE stores a route number of 1..999 (R101). -/
theorem actSetRoute_keepsRanges : ActKeepsRanges actSetRoute := fun r s ⟨h1, h2, h3, _, h5, h6, h7, h8⟩ =>
  ⟨h1, h2, h3, max_le (by decide) (min_le_left _ _), h5, h6, h7, h8⟩

/-! ### Every command -/

theorem State.ItemsInRange.manage (h : s.ItemsInRange) (row : Row) {act : Request → State → State × Answer}
    (ha : ActKeepsRanges act) : (manage row act s).ItemsInRange := by
  have decided (r : Request) {u : State} (hu : u.ItemsInRange) : (decideRequest act r u).1.ItemsInRange := by
    unfold decideRequest
    split
    · exact hu
    · exact ha r u hu
  unfold Machine.manage
  split
  · exact h
  · split
    · rename_i r rest _ _
      have hd := decided r (u := s.withFcl { s.fcl with requests := rest }) h
      exact hd.of_settings (State.settings_respond _ _ _)
    · exact h

/-- A command that leaves the settings keeps them in range. -/
theorem State.ItemsInRange.of_next {t u : State} (h : s.ItemsInRange) (hu : u.settings = s.settings)
    (ht : (.next u : Host.Outcome State Fault Refusal) = .next t) : t.ItemsInRange :=
  Host.Outcome.next.inj ht ▸ h.of_settings hu

/-- A request command keeps the settings in range where its request does. -/
theorem State.ItemsInRange.of_manage {t : State} (h : s.ItemsInRange) {row : Row}
    {act : Request → State → State × Answer} (ha : ActKeepsRanges act)
    (ht : (.next (Machine.manage row act s) : Host.Outcome State Fault Refusal) = .next t) : t.ItemsInRange :=
  Host.Outcome.next.inj ht ▸ h.manage row ha

/-- Every command but POWER_ON keeps the settings in range. -/
theorem exec_itemsInRange {c : Instr} {t : State} (hc : ∀ n, c ≠ .powerOn n) (k : s.ItemsInRange)
    (h : exec c s = .next t) : t.ItemsInRange := by
  cases c with
  | powerOn n => exact absurd rfl (hc n)
  | idleMarkerArrival p | frameArrivalStart p | frameArrivalEnd p bytes | idleTimerExpiry p | idleMarkerEnd p
  | transmissionEnd p => exact .of_next k (State.settings_withPort s p _) h
  | frameHandling p => exact .of_next k (State.settings_handleFrame s p) h
  | activityTimerExpiry p => exact .of_next k (State.settings_activityExpiry s p) h
  | classifyFrame p =>
    simp only [exec, execClassifyFrame] at h
    split at h
    · exact .of_next k rfl h
    · exact .of_next k (by simp) h
  | ageTick => exact .of_next k (by simp) h
  | scanTimerExpiry => exact .of_next k (by simp) h
  | scanArrivalEnd scan => exact .of_next k (by simp) h
  | controlPeriod => exact .of_next k (by simp) h
  | attemptTimerExpiry => exact .of_next k (by simp) h
  | telegramArrivalStart => exact .of_next k (by simp) h
  | telegramArrivalEnd bytes => exact .of_next k (by simp) h
  | requestTransmissionEnd => exact .of_next k (by simp) h
  | soundStepBoundary ch load => exact .of_next k (by simp) h
  | directHornMinEnd => exact .of_next k (by simp) h
  | directHornInterval load => exact .of_next k (by simp) h
  | startupCheckEnd pass => exact .of_next k (by simp) h
  | readItem => exact .of_manage k actReadItem_leaves.keepsRanges h
  | writeItem => exact .of_manage k actWriteItem_keepsRanges h
  | loadEntry => exact .of_manage k actLoadEntry_leaves.keepsRanges h
  | readEntry => exact .of_manage k actReadEntry_leaves.keepsRanges h
  | commit => exact .of_manage k actCommit_leaves.keepsRanges h
  | readLoadSum => exact .of_manage k actReadLoadSum_leaves.keepsRanges h
  | readFlags => exact .of_manage k actReadFlags_leaves.keepsRanges h
  | setEnables => exact .of_manage k actSetEnables_leaves.keepsRanges h
  | readRestrictions => exact .of_manage k actReadRestrictions_leaves.keepsRanges h
  | readJunctions => exact .of_manage k actReadJunctions_leaves.keepsRanges h
  | readStops => exact .of_manage k actReadStops_leaves.keepsRanges h
  | readStep => exact .of_manage k actReadStep_leaves.keepsRanges h
  | holdSoft => exact .of_manage k actHoldSoft_leaves.keepsRanges h
  | holdHard => exact .of_manage k actHoldHard_leaves.keepsRanges h
  | release => exact .of_manage k actRelease_leaves.keepsRanges h
  | stepEnter => exact .of_manage k actStepEnter_leaves.keepsRanges h
  | stepOne => exact .of_manage k actStepOne_leaves.keepsRanges h
  | stepExit => exact .of_manage k actStepExit_leaves.keepsRanges h
  | enterService => exact .of_manage k actEnterService_leaves.keepsRanges h
  | restart => exact .of_manage k actRestart_leaves.keepsRanges h
  | setRoute => exact .of_manage k actSetRoute_keepsRanges h
  | unknownRequest => exact .of_manage k actUnknown_leaves.keepsRanges h

/-- Settles O58: a step leaves the settings or stores one within its range, or it is a power-on and leaves those of
reset. -/
theorem stepKeepsItemsInRange : Obligations.StepKeepsItemsInRange := by
  intro s t hs h
  obtain rfl | ⟨u, c, rfl, -⟩ | ⟨c, rest, hc, hx⟩ := step_cases h
  · exact hs
  · exact State.reset_itemsInRange
  · exact exec_itemsInRange (s := s.withPending rest) hc hs hx

end Sys2Proof.Machine
end

section
/-! SUPPORT. What an event delivered to the stop request unit may change (R34), with the statements about the classifier
and the signal table (chapter 2). -/

namespace Sys2Proof.Machine

variable {s t u : State}

/-! ### What serving the stops and the doors changes -/

/-- From `s` to `t` the stop request unit has acted: its state, the list, the sounders and what sending changes are all
that may differ, and no flag is cleared. -/
structure State.Serves (s t : State) : Prop where
  same : (((s.withSru t.sru).withRsl t.rsl).withSsq t.ssq).sameButSent t
  flags : s.flagsKept t

theorem State.Serves.refl (s : State) : s.Serves s := ⟨rfl, BitVec.and_self⟩

theorem State.Serves.trans (h : s.Serves t) (k : t.Serves u) : s.Serves u where
  same := State.sameButSent_of (k.same.fcl.trans h.same.fcl) (k.same.sgt.trans h.same.sgt) (k.same.dci.trans h.same.dci)
    (k.same.tdu.trans h.same.tdu) rfl (k.same.rtu.trans h.same.rtu) (k.same.tlk.trans h.same.tlk) rfl rfl
    (k.same.mcr.trans h.same.mcr) (k.same.env.trans h.same.env) (k.same.pending.trans h.same.pending)
    (k.same.enables.trans h.same.enables) (k.same.channels.trans h.same.channels) (k.same.map.trans h.same.map)
  flags := State.flagsKept_iff.mpr fun n hn => State.flagsKept_iff.mp k.flags n (State.flagsKept_iff.mp h.flags n hn)

theorem State.Serves.ite {c : Prop} {_ : Decidable c} (h : s.Serves t) (k : s.Serves u) :
    s.Serves (if c then t else u) := by
  split
  · exact h
  · exact k

theorem State.Serves.foldl {α : Type} {f : State → α → State} (hf : ∀ (u : State) x, u.Serves (f u x)) :
    ∀ (l : List α) {t : State}, s.Serves t → s.Serves (l.foldl f t)
  | [], _, h => h
  | x :: l, t, h => State.Serves.foldl hf l (h.trans (hf t x))

theorem State.Sends.serves (h : s.Sends t) : s.Serves t where
  same := State.sameButSent_of h.same.fcl h.same.sgt h.same.dci h.same.tdu rfl h.same.rtu h.same.tlk rfl rfl h.same.mcr
    h.same.env h.same.pending h.same.enables h.same.channels h.same.map
  flags := h.flags

theorem State.Serves.sends (h : s.Serves t) (k : t.Sends u) : s.Serves u := h.trans k.serves

theorem State.Serves.setFlag (h : s.Serves t) (f : Flag) : s.Serves (t.setFlag f) := h.sends (t.sends_setFlag f)

theorem State.Serves.withSru (h : s.Serves t) (x : StopUnit) : s.Serves (t.withSru x) :=
  h.trans ⟨rfl, BitVec.and_self⟩

theorem State.Serves.withRsl (h : s.Serves t) (x : List Restriction) : s.Serves (t.withRsl x) :=
  h.trans ⟨rfl, BitVec.and_self⟩

theorem State.Serves.withSsq (h : s.Serves t) (x : Sounder) : s.Serves (t.withSsq x) :=
  h.trans ⟨rfl, BitVec.and_self⟩

/-- A flag that is set stays set. -/
theorem State.Serves.isSet (h : s.Serves t) {f : Flag} (hf : s.efn.isSet f = true) : t.efn.isSet f = true :=
  State.flagsKept_iff.mp h.flags _ hf

/-- A flag that has been set is set (R187). -/
@[simp] theorem State.setFlag_isSet (s : State) (f : Flag) : (s.setFlag f).efn.isSet f = true :=
  State.setFlagTo_isSet 4 f s

theorem State.Serves.raise (h : s.Serves t) (src : Source) (key : Half) (k : Restraint) :
    s.Serves (t.raise src key k) := by
  unfold State.raise
  refine h.ite ?_
  split
  · exact (h.withRsl _).setFlag _
  · exact h.ite ((h.withRsl _).setFlag _)

theorem State.Serves.lift (h : s.Serves t) (src : Source) (key : Half) : s.Serves (t.lift src key) := by
  unfold State.lift
  split
  · exact h
  · split
    · exact h
    · exact (h.withRsl _).setFlag _
    · exact (h.withRsl _).setFlag _

theorem State.Serves.soundRequest (h : s.Serves t) (ch : Channel) (r : SoundRequest) :
    s.Serves (t.soundRequest ch r) := by
  unfold State.soundRequest
  exact h.ite ((h.setFlag _).ite (h.ite ((h.withSsq _).ite (((h.withSsq _).setFlag _).ite (h.setFlag _)))))

theorem State.Serves.doorsTest (h : s.Serves t) : s.Serves t.doorsTest := by
  unfold State.doorsTest
  refine h.ite ?_
  split
  · exact (h.withSru _).raise _ _ _
  · exact (h.withSru _).lift _ _
  · exact h

theorem State.Serves.registerSource (h : s.Serves t) (n : Nat) : s.Serves (t.registerSource n) := by
  have first (k : StopKind) (l : List StopEntry) {u : State} (hu : s.Serves u) : s.Serves (u.firstEntry k l) := by
    cases k with
    | normal => exact ((hu.soundRequest _ _).setFlag _).ite hu
    | assist => exact hu.ite ((hu.soundRequest _ _).setFlag _)
  unfold State.registerSource
  exact h.ite ((first _ _ (h.withSru _)).sends (State.sends_reportStops _ _))

theorem State.Serves.treatSource (h : s.Serves t) (image : Word) (n : Nat) :
    s.Serves (State.treatSource image t n) := by
  unfold State.treatSource
  exact State.Serves.ite (h.withSru _) (((h.registerSource n).withSru _).ite h)

theorem State.Serves.stopButtons (h : s.Serves t) (image : Word) : s.Serves (t.stopButtons image) := by
  unfold State.stopButtons
  exact State.Serves.withSru ((h.withSru _).ite ((h.withSru _).ite
    (State.Serves.foldl (fun u n => (State.Serves.refl u).treatSource image n) _ h))) _

/-- A slot's event is served by the stop request unit (R34). -/
theorem State.serves_slotEvent (s : State) (i : Nat) : s.Serves (s.slotEvent i) := by
  have door (b : Option Nat) : s.Serves (s.doorSlotEvent b) := by
    have stale : s.Serves s.doorSummaryStale := ((State.Serves.refl s).withSru _).doorsTest
    unfold State.doorSlotEvent
    split
    · exact State.Serves.ite ((State.Serves.refl s).withSru _).doorsTest stale
    · exact stale
  have stops (b : Option Nat) {t : State} (h : s.Serves t) : s.Serves (t.stopSlotEvent b) := by
    unfold State.stopSlotEvent
    split
    · exact (h.stopButtons _).ite (h.withSru _)
    · exact h.withSru _
  have first : s.Serves (if s.sgt.doorSlot = some i then s.doorSlotEvent (some i) else s) :=
    (door _).ite (.refl s)
  exact (stops _ first).ite first

theorem State.Serves.slotEvent (h : s.Serves t) (i : Nat) : s.Serves (t.slotEvent i) := h.trans (t.serves_slotEvent i)

/-! ### The classifier (R19 to R24) -/

/-- CLASSIFY_FRAME takes the oldest frame handed over and acts on it (R11, R19). -/
theorem exec_classifyFrame {p : Line} {f : Frame} {rest : List Frame} (h : (s.port p).handed = f :: rest) :
    exec (.classifyFrame p) s = .next ((s.withPort p { s.port p with handed := rest }).classify f) := by
  rw [exec, execClassifyFrame, h]

theorem Mode.storing_iff (m : Mode) : m.storing = true ↔ m ≠ .standby ∧ m ≠ .failed := by
  cases m <;> simp [Mode.storing]

theorem State.classify_stored {f : Frame} (h : f.kind = .process) (hm : s.mcr.mode ≠ .standby)
    (hf : s.mcr.mode ≠ .failed) : s.classify f = s.takeProcess f := by
  rw [State.classify, h]
  exact if_pos ((Mode.storing_iff _).mpr ⟨hm, hf⟩)

theorem State.classify_discarded {f : Frame} (h : f.kind = .process)
    (hm : s.mcr.mode = .standby ∨ s.mcr.mode = .failed) :
    s.classify f = s := by
  rw [State.classify, h]
  refine if_neg fun hst => ?_
  obtain ⟨h1, h2⟩ := (Mode.storing_iff _).mp hst
  exact hm.elim h1 h2

theorem State.classify_manage {f : Frame} (h : f.kind = .manage) : s.classify f = s.takeManage f := by
  rw [State.classify, h]

theorem State.classify_other {f : Frame} (h : f.kind = .response ∨ f.kind = .notify) : s.classify f = s := by
  unfold State.classify
  obtain h | h := h <;> rw [h]

/-! ### The windows (R21, R22) -/

theorem State.takeProcess_of_none {f : Frame} (h : s.fcl.windows.find? (·.hits f.id) = none) : s.takeProcess f = s := by
  rw [State.takeProcess, h]

theorem State.takeProcess_of_ignore {f : Frame} {w : Window} (h : s.fcl.windows.find? (·.hits f.id) = some w)
    (ha : w.action = .ignore) : s.takeProcess f = s := by
  simp only [State.takeProcess, h, ha]

theorem State.takeProcess_of_consume {f : Frame} {w : Window} (h : s.fcl.windows.find? (·.hits f.id) = some w)
    (ha : w.action = .consume) :
    s.takeProcess f =
      if w.index f.id < 128 then s.updateSlot (w.index f.id) f w.limit else s.setFlag .slotRange := by
  simp only [State.takeProcess, h, ha]
  rfl

/-! ### An update (R27, R28) -/

/-- The slot as an update stores it, FRESH or short of what its bindings require (R27, R28). -/
def State.stored (s : State) (i : Nat) (f : Frame) (limit : Nat) (short : Bool) : State :=
  s.withSlot i ((s.sgt.slot i).updated f.src f.payload limit (if short then .stale else .fresh))

/-- The flag of a value that was cut (R27). -/
def State.flagTrunc (s : State) (f : Frame) : State := if 8 < f.payload.length then s.setFlag .slotTrunc else s

theorem State.updateSlot_of_fresh {i : Nat} {f : Frame} (limit : Nat)
    (h : ¬ min 8 f.payload.length < s.requiredLength i) :
    s.updateSlot i f limit = ((s.stored i f limit false).flagTrunc f).slotEvent i := by
  simp only [State.updateSlot, List.length_take, h, decide_false, Bool.false_eq_true, if_false]
  rfl

/-- A short update of a slot that was STALE delivers nothing (R28). -/
theorem State.updateSlot_of_staying {i : Nat} {f : Frame} (limit : Nat)
    (h : min 8 f.payload.length < s.requiredLength i)
    (hs : (s.sgt.slot i).state = .stale) :
    s.updateSlot i f limit = ((s.stored i f limit true).flagTrunc f).setFlag .slotShort := by
  simp only [State.updateSlot, List.length_take, h, hs, decide_true, if_true]
  rfl

theorem State.updateSlot_of_short {i : Nat} {f : Frame} (limit : Nat) (h : min 8 f.payload.length < s.requiredLength i)
    (hs : (s.sgt.slot i).state ≠ .stale) :
    s.updateSlot i f limit = (((s.stored i f limit true).flagTrunc f).setFlag .slotShort).slotEvent i := by
  simp only [State.updateSlot, List.length_take, h, hs, decide_true, if_true, if_false]
  rfl

theorem State.serves_flagTrunc (s : State) (f : Frame) : s.Serves (s.flagTrunc f) :=
  ((State.Serves.refl s).setFlag _).ite (.refl s)

theorem State.flagTrunc_isSet {f : Frame} (h : 8 < f.payload.length) : (s.flagTrunc f).efn.isSet .slotTrunc = true := by
  rw [State.flagTrunc, if_pos h]
  exact State.setFlag_isSet _ _

theorem State.flagTrunc_of_fit {f : Frame} (h : f.payload.length ≤ 8) : s.flagTrunc f = s := if_neg (Nat.not_lt.mpr h)

/-- What follows the flag of a cut value is served by the stop request unit. -/
theorem State.serves_updateSlot (s : State) (i : Nat) (f : Frame) (limit : Nat) {short : Bool}
    (hs : short = decide (min 8 f.payload.length < s.requiredLength i)) :
    ((s.stored i f limit short).flagTrunc f).Serves (s.updateSlot i f limit) := by
  have k := (State.Serves.refl ((s.stored i f limit short).flagTrunc f)).setFlag .slotShort
  cases short with
  | false =>
    rw [State.updateSlot_of_fresh limit (of_decide_eq_false hs.symm)]
    exact State.serves_slotEvent _ i
  | true =>
    have hlt := of_decide_eq_true hs.symm
    by_cases hst : (s.sgt.slot i).state = .stale
    · rw [State.updateSlot_of_staying limit hlt hst]
      exact k
    · rw [State.updateSlot_of_short limit hlt hst]
      exact k.slotEvent i

/-- A short update sets SLOT_SHORT (R28). -/
theorem State.updateSlot_short_isSet {i : Nat} {f : Frame} (limit : Nat)
    (h : min 8 f.payload.length < s.requiredLength i) : (s.updateSlot i f limit).efn.isSet .slotShort = true := by
  by_cases hst : (s.sgt.slot i).state = .stale
  · rw [State.updateSlot_of_staying limit h hst]
    exact State.setFlag_isSet _ _
  · rw [State.updateSlot_of_short limit h hst]
    exact (State.serves_slotEvent _ i).isSet (State.setFlag_isSet _ _)

/-- Settles O13, by the kind of the frame and the places of the request queue. -/
theorem requestsQueueUp : Obligations.RequestsQueueUp := by
  intro p s f rest hh
  rw [exec_classifyFrame hh]
  refine ⟨fun hk hq => ?_, fun hk hq => ?_, fun hk => ?_⟩
  · rw [State.classify_manage hk]
    exact congrArg _ (if_pos hq)
  · rw [State.classify_manage hk]
    exact congrArg _ (if_neg (Nat.not_lt.mpr hq))
  · rw [State.classify_other hk]

/-- Settles O12: the mode, then the window that hits, then its action and its slot, then the update's length. -/
theorem windowsDecideFrames : Obligations.WindowsDecideFrames := by
  intro p s f rest hh hk
  rw [exec_classifyFrame hh]
  set v := s.withPort p { s.port p with handed := rest }
  refine ⟨fun hm => by rw [State.classify_discarded (s := v) hk hm], fun hsb hfa => ?_⟩
  rw [State.classify_stored (s := v) hk hsb hfa]
  refine ⟨fun w hw => ⟨fun ha => ?_, fun ha hr => ?_, fun i short ha hi hr hs => ?_⟩, fun hw => ?_⟩
  · rw [State.takeProcess_of_ignore (s := v) hw ha]
  · rw [State.takeProcess_of_consume (s := v) hw ha, if_neg (show ¬ w.index f.id < 128 from Nat.not_lt.mpr hr)]
  · rw [State.takeProcess_of_consume (s := v) hw ha, Window.index, ← hi, if_pos hr]
    have hserves : ((v.stored i f w.limit short).flagTrunc f).Serves (v.updateSlot i f w.limit) :=
      v.serves_updateSlot i f w.limit hs
    have hall := (State.serves_flagTrunc (v.stored i f w.limit short) f).trans hserves
    refine ⟨_, rfl, hall.same.sgt, fun h => ?_, fun hl => hserves.isSet (State.flagTrunc_isSet hl), fun h hst => ?_,
      fun u hu hl => ?_, hall.same.fcl, hall.same.dci, hall.same.rtu, hall.same.tlk⟩
    · exact State.updateSlot_short_isSet w.limit (of_decide_eq_true (hs.symm.trans h))
    · rw [State.updateSlot_of_staying (s := v) w.limit (of_decide_eq_true (hs.symm.trans h)) hst]
      unfold State.flagTrunc
      split <;> simp [State.stored, v]
    · have hu' : u = v.stored i f w.limit short := hu.trans (congrArg v.withSgt hall.same.sgt)
      subst hu'
      refine ⟨fun h => ?_, fun h hst => ?_⟩ <;> subst h
      · rw [State.updateSlot_of_fresh (s := v) w.limit (of_decide_eq_false hs.symm), State.flagTrunc_of_fit hl]
      · rw [State.updateSlot_of_short (s := v) w.limit (of_decide_eq_true hs.symm) hst, State.flagTrunc_of_fit hl]
  · rw [State.takeProcess_of_none (s := v) hw]

end Sys2Proof.Machine
end

section
/-! SUPPORT. Aging of the signal table (R29 to R31), with the statement about it. -/

namespace Sys2Proof.Machine

variable {s : State}

/-! ### The slots that go stale (R29) -/

/-- A slot reaches its limit on the tick. -/
def Slot.expires (x : Slot) : Prop := x.state = .fresh ∧ x.limit ≤ min 255 (x.age + 1)

theorem Slot.expires_iff (x : Slot) : (x.state == .fresh && x.aged.state == .stale) = true ↔ x.expires := by
  unfold Slot.expires Slot.aged
  cases h : x.state <;> simp

theorem SignalTable.mem_goingStale {t : SignalTable} {i : Nat} :
    i ∈ t.goingStale ↔ ∃ x, t.slots[i]? = some x ∧ x.expires := by
  simp only [SignalTable.goingStale, List.mem_map, List.mem_filter, Prod.exists, exists_eq_right,
    List.mem_zipIdx_iff_getElem?, Slot.expires_iff]

/-- They are noted in the order of their indices. -/
theorem SignalTable.goingStale_ascends (t : SignalTable) : t.goingStale.Pairwise (· < ·) := by
  have hall : (t.slots.zipIdx.map Prod.snd).Pairwise (· < ·) := by
    rw [List.zipIdx_map_snd]
    exact List.pairwise_lt_range'
  exact hall.sublist (List.filter_sublist.map Prod.snd)

/-- With none at its limit no slot goes stale. -/
theorem SignalTable.goingStale_eq_nil {t : SignalTable} (h : ∀ x ∈ t.slots, ¬ x.expires) : t.goingStale = [] := by
  refine List.eq_nil_iff_forall_not_mem.mpr fun i hi => ?_
  obtain ⟨x, hx, he⟩ := SignalTable.mem_goingStale.mp hi
  exact h x (List.mem_of_getElem? hx) he

/-- The highest slot that goes stale is the last noted. -/
theorem SignalTable.goingStale_concat {t : SignalTable} {i : Nat} (hi : i ∈ t.goingStale)
    (hlast : ∀ j ∈ t.goingStale, j ≤ i) : ∃ l, t.goingStale = l ++ [i] ∧ ∀ j ∈ l, j < i := by
  have hne : t.goingStale ≠ [] := List.ne_nil_of_mem hi
  obtain ⟨l, m, hl⟩ : ∃ l m, t.goingStale = l ++ [m] := ⟨_, _, (List.dropLast_append_getLast hne).symm⟩
  have hasc := t.goingStale_ascends
  rw [hl] at hi hlast hasc
  obtain ⟨-, -, hlt⟩ := List.pairwise_append.mp hasc
  have hm : m = i := by
    refine le_antisymm (hlast m (by simp)) ?_
    obtain hi | hi := List.mem_append.mp hi
    · exact (hlt i hi m (by simp)).le
    · exact (List.mem_singleton.mp hi).le
  subst hm
  exact ⟨l, hl, fun j hj => hlt j hj m (by simp)⟩

/-! ### The age tick (R29, R31) -/

/-- AGE_TICK restarts the timer and, outside STEP, ages the table. -/
theorem exec_ageTick_of_step (h : s.mcr.mode = .step) :
    exec .ageTick s = .next (s.withSgt { s.sgt with tickLeft := 20 }) :=
  congrArg _ (if_pos h)

theorem exec_ageTick (h : s.mcr.mode ≠ .step) :
    exec .ageTick s = .next (s.withSgt { s.sgt with tickLeft := 20 }).ageSlots :=
  congrArg _ (if_neg h)

theorem State.serves_ageSlots (s : State) : (s.withSgt s.sgt.aged).Serves s.ageSlots := by
  have events := State.Serves.foldl State.serves_slotEvent s.sgt.goingStale (State.Serves.refl (s.withSgt s.sgt.aged))
  exact events.ite (events.setFlag _)

/-- An age tick leaves the aged table. -/
theorem State.ageSlots_sgt (s : State) : s.ageSlots.sgt = s.sgt.aged := s.serves_ageSlots.same.sgt

theorem State.ageSlots_of_nil (h : s.sgt.goingStale = []) : s.ageSlots = s.withSgt s.sgt.aged := by
  simp [State.ageSlots, h]

theorem State.ageSlots_of_ne_nil (h : s.sgt.goingStale ≠ []) :
    s.ageSlots = (s.sgt.goingStale.foldl State.slotEvent (s.withSgt s.sgt.aged)).setFlag .slotStale := by
  simp [State.ageSlots, h]

theorem SignalTable.aged_lastStale_of_nil {t : SignalTable} (h : t.goingStale = []) :
    t.aged.lastStale = t.lastStale := by
  simp [SignalTable.aged, h]

theorem SignalTable.aged_lastStale_of_concat {t : SignalTable} {l : List Nat} {i : Nat} (h : t.goingStale = l ++ [i]) :
    t.aged.lastStale = some i := by
  simp [SignalTable.aged, h]

/-- One slot's part of an age tick (R29). -/
theorem Slot.aged_spec (x : Slot) :
    x.aged.value = x.value ∧ x.aged.source = x.source ∧ x.aged.limit = x.limit ∧ x.aged.updates = x.updates ∧
      (x.state = .never → x.aged = x) ∧ (x.state ≠ .never → x.aged.age = min 255 (x.age + 1)) ∧
      (x.state = .stale → x.aged.state = .stale) ∧
      (x.state = .fresh → (x.aged.state = .stale ↔ x.limit ≤ min 255 (x.age + 1)) ∧ x.aged.state ≠ .never) := by
  unfold Slot.aged
  cases h : x.state with
  | never | stale => simp [h]
  | fresh =>
    by_cases hl : x.limit ≤ min 255 (x.age + 1)
    · simp [hl]
    · simp [hl]

/-- Settles O14: the slots that expire are those that go stale, in the order of their indices, and the table's change
and their events follow. -/
theorem ageTickAgesSlots : Obligations.AgeTickAgesSlots := by
  intro s
  refine ⟨exec_ageTick_of_step, fun hm => ⟨_, exec_ageTick hm, ?_⟩⟩
  set v := s.withSgt { s.sgt with tickLeft := 20 }
  have hsgt : v.ageSlots.sgt = v.sgt.aged := v.ageSlots_sgt
  have fresh {x : Slot} (h : x.state = .fresh → min 255 (x.age + 1) < x.limit) : ¬ x.expires :=
    fun ⟨hf, hl⟩ => Nat.not_le.mpr (h hf) hl
  refine ⟨by rw [hsgt]; rfl, by rw [hsgt]; exact List.length_map .., fun i x hx => ⟨x.aged, ?_, x.aged_spec⟩,
    fun h => ?_, fun i x hx hf hl hhigh => ?_⟩
  · rw [hsgt]
    exact List.getElem?_map.trans (congrArg _ hx)
  · have hnil : v.sgt.goingStale = [] := SignalTable.goingStale_eq_nil fun x hx => fresh (h x hx)
    have hlast := SignalTable.aged_lastStale_of_nil hnil
    rw [State.ageSlots_of_nil hnil]
    change s.withSgt v.sgt.aged = s.withSgt { v.sgt.aged with lastStale := v.sgt.lastStale }
    rw [← hlast]
  · have mem {j : Nat} (hj : j ∈ v.sgt.goingStale) : ∃ y, s.sgt.slots[j]? = some y ∧ y.expires :=
      SignalTable.mem_goingStale.mp hj
    have hi : i ∈ v.sgt.goingStale := SignalTable.mem_goingStale.mpr ⟨x, hx, hf, hl⟩
    obtain ⟨l, hconcat, hlow⟩ := SignalTable.goingStale_concat hi fun j hj => by
      obtain ⟨y, hy, he⟩ := mem hj
      exact Nat.le_of_not_lt fun hlt => fresh (hhigh j y hlt hy) he
    have hne : v.sgt.goingStale ≠ [] := List.ne_nil_of_mem hi
    refine ⟨by rw [hsgt]; exact SignalTable.aged_lastStale_of_concat hconcat, ?_, fun halone => ?_⟩
    · rw [State.ageSlots_of_ne_nil hne]
      exact State.setFlag_isSet _ _
    · have hl0 : l = [] := List.eq_nil_iff_forall_not_mem.mpr fun j hj => by
        obtain ⟨y, hy, he⟩ := mem (hconcat ▸ List.mem_append_left _ hj)
        exact fresh (halone j y (hlow j hj) hy) he
      rw [hsgt, State.ageSlots_of_ne_nil hne, hconcat, hl0]
      rfl

end Sys2Proof.Machine
end

section
/-! SUPPORT. What the route unit's actions at a control period change (R117, R122): the route unit, the track link, the
JUNCTION and ROUTE entries and what sending changes. -/

namespace Sys2Proof.Machine

variable {s t u : State}

/-! ### Entries of another source (R84 to R88) -/

/-- A replacement of other elements leaves the membership of an element. -/
theorem mem_replaceFirst_iff {α : Type} {q : α → Bool} {x y : α} (hq : q y = false) (hx : y ≠ x) (l : List α) :
    y ∈ replaceFirst q x l ↔ y ∈ l := by
  induction l with
  | nil => rfl
  | cons z l ih =>
    unfold replaceFirst
    split
    · rename_i hz
      have hy : y ≠ z := fun h => by rw [h, hz] at hq; cases hq
      simp [hx, hy]
    · simp [ih]

theorem Restriction.names_eq_false {e : Restriction} {src : Source} (h : e.source ≠ src) (key : Half) :
    e.names src key = false := by
  simp [Restriction.names, h]

theorem source_of_findRestriction {l : List Restriction} {src : Source} {key : Half} {e : Restriction}
    (h : findRestriction l src key = some e) : e.source = src :=
  congrArg Prod.fst (findRestriction_identity h)

/-- A raise leaves the entries of the other sources. -/
theorem State.mem_raise_iff {src : Source} {e : Restriction} (he : e.source ≠ src) (s : State) (key : Half)
    (k : Restraint) : e ∈ (s.raise src key k).rsl ↔ e ∈ s.rsl := by
  rw [State.raise_rsl]
  split
  · rfl
  · split
    · rw [List.mem_append, List.mem_singleton, or_iff_left]
      rintro rfl
      exact he rfl
    · rename_i x hx
      split
      · rfl
      · refine mem_replaceFirst_iff (q := fun x : Restriction => x.names src key) (Restriction.names_eq_false he key)
          (fun h => he ?_) _
        rw [h]
        exact source_of_findRestriction (e := x) hx

/-- A lift leaves the entries of the other sources. -/
theorem State.mem_lift_iff {src : Source} {e : Restriction} (he : e.source ≠ src) (s : State) (key : Half) :
    e ∈ (s.lift src key).rsl ↔ e ∈ s.rsl := by
  have hn := Restriction.names_eq_false he key
  rw [State.lift_rsl]
  split
  · rfl
  · rename_i x hx
    split
    · rfl
    · refine mem_replaceFirst_iff (q := fun x : Restriction => x.names src key) hn (fun h => he ?_) _
      rw [h]
      exact source_of_findRestriction (e := x) hx
    · exact List.mem_eraseP_of_neg (by simp [hn])

/-! ### The route unit's actions -/

/-- From `s` to `t` the route unit has acted: it, the track link, the list and what sending changes are all that may
differ, the entries of the other sources stand, and no flag is cleared. -/
structure State.Routes (s t : State) : Prop where
  same : (((s.withRtu t.rtu).withTlk t.tlk).withRsl t.rsl).sameButSent t
  flags : s.flagsKept t
  entries : ∀ e, e.source ≠ .junction → e.source ≠ .route → (e ∈ t.rsl ↔ e ∈ s.rsl)

theorem State.Routes.refl (s : State) : s.Routes s := ⟨rfl, BitVec.and_self, fun _ _ _ => .rfl⟩

theorem State.Routes.trans (h : s.Routes t) (k : t.Routes u) : s.Routes u where
  same := State.sameButSent_of (k.same.fcl.trans h.same.fcl) (k.same.sgt.trans h.same.sgt) (k.same.dci.trans h.same.dci)
    (k.same.tdu.trans h.same.tdu) rfl rfl rfl (k.same.sru.trans h.same.sru) (k.same.ssq.trans h.same.ssq)
    (k.same.mcr.trans h.same.mcr) (k.same.env.trans h.same.env) (k.same.pending.trans h.same.pending)
    (k.same.enables.trans h.same.enables) (k.same.channels.trans h.same.channels) (k.same.map.trans h.same.map)
  flags := State.flagsKept_iff.mpr fun n hn => State.flagsKept_iff.mp k.flags n (State.flagsKept_iff.mp h.flags n hn)
  entries := fun e hj hr => (k.entries e hj hr).trans (h.entries e hj hr)

theorem State.Routes.ite {c : Prop} {_ : Decidable c} (h : s.Routes t) (k : s.Routes u) :
    s.Routes (if c then t else u) := by
  split
  · exact h
  · exact k

theorem State.Routes.foldl {α : Type} {f : State → α → State} (hf : ∀ (u : State) x, u.Routes (f u x)) :
    ∀ (l : List α) {t : State}, s.Routes t → s.Routes (l.foldl f t)
  | [], _, h => h
  | x :: l, t, h => State.Routes.foldl hf l (h.trans (hf t x))

theorem State.Routes.withRtu (h : s.Routes t) (x : RouteUnit) : s.Routes (t.withRtu x) :=
  h.trans ⟨rfl, BitVec.and_self, fun _ _ _ => .rfl⟩

theorem State.Routes.withQueue (h : s.Routes t) (q : List Transaction) : s.Routes (t.withQueue q) := h.withRtu _

theorem State.Routes.withAttempt (h : s.Routes t) (a : Option Nat) : s.Routes (t.withAttempt a) := h.withRtu _

theorem State.Routes.withTlk (h : s.Routes t) (x : TrackLink) : s.Routes (t.withTlk x) :=
  h.trans ⟨rfl, BitVec.and_self, fun _ _ _ => .rfl⟩

theorem State.Routes.setFlag (h : s.Routes t) (f : Flag) : s.Routes (t.setFlag f) :=
  h.trans
    { same := State.sameButSent_of (by simp) (by simp) (by simp) (by simp) rfl rfl rfl (by simp) (by simp) (by simp)
        (by simp) (by simp) (t.setFlag_sameButSent f).enables (t.setFlag_sameButSent f).channels
        (t.setFlag_sameButSent f).map
      flags := (t.sends_setFlag f).flags
      entries := fun _ _ _ => by rw [State.setFlag_rsl] }

/-- A raise clears no flag. -/
theorem State.flagsKept_raise (s : State) (src : Source) (key : Half) (k : Restraint) :
    s.flagsKept (s.raise src key k) := ((State.Serves.refl s).raise src key k).flags

theorem State.flagsKept_lift (s : State) (src : Source) (key : Half) : s.flagsKept (s.lift src key) :=
  ((State.Serves.refl s).lift src key).flags

/-- The route unit raises JUNCTION and ROUTE alone. -/
theorem State.Routes.raise (h : s.Routes t) {src : Source} (hsrc : src = .junction ∨ src = .route) (key : Half)
    (k : Restraint) : s.Routes (t.raise src key k) :=
  h.trans
    { same := State.sameButSent_of (by simp) (by simp) (by simp) (by simp) rfl rfl rfl (by simp) (by simp) (by simp)
        (by simp) (by simp) (t.raise_sameButSent src key k).enables (t.raise_sameButSent src key k).channels
        (t.raise_sameButSent src key k).map
      flags := t.flagsKept_raise src key k
      entries := fun e hj hr => State.mem_raise_iff (by obtain rfl | rfl := hsrc <;> assumption) t key k }

theorem State.Routes.lift (h : s.Routes t) {src : Source} (hsrc : src = .junction ∨ src = .route) (key : Half) :
    s.Routes (t.lift src key) :=
  h.trans
    { same := State.sameButSent_of (by simp) (by simp) (by simp) (by simp) rfl rfl rfl (by simp) (by simp) (by simp)
        (by simp) (by simp) (t.lift_sameButSent src key).enables (t.lift_sameButSent src key).channels
        (t.lift_sameButSent src key).map
      flags := t.flagsKept_lift src key
      entries := fun e hj hr => State.mem_lift_iff (by obtain rfl | rfl := hsrc <;> assumption) t key }

theorem State.Routes.startAttempt (h : s.Routes t) : s.Routes t.startAttempt := by
  unfold State.startAttempt
  split
  · exact h
  · split
    · exact h
    · exact (h.withRtu _).withTlk _

theorem State.Routes.makeUnconfirmed (h : s.Routes t) (x : Transaction) : s.Routes (t.makeUnconfirmed x) := by
  have sync (y : Transaction) {v : State} (hv : s.Routes v) : s.Routes (v.syncJunction y) := by
    unfold State.syncJunction
    split
    · exact hv.raise (.inl rfl) _ _
    · exact hv.lift (.inl rfl) _
  exact (sync _ (((h.withQueue _).withAttempt none).ite (h.withQueue _))).setFlag _

theorem State.Routes.removeTransaction (h : s.Routes t) (x : Transaction) : s.Routes (t.removeTransaction x) := by
  have removed := h.withQueue (t.rtu.queue.eraseP (·.junction == x.junction))
  have stopped : s.Routes (if t.rtu.isHead x.junction then _ else _) := (removed.withAttempt none).ite removed
  unfold State.removeTransaction
  dsimp only
  split
  · exact stopped.lift (.inl rfl) _
  · exact stopped

theorem State.Routes.liftRoute (h : s.Routes t) : s.Routes t.liftRoute := by
  unfold State.liftRoute
  exact State.Routes.ite ((h.withRtu _).lift (.inr rfl) _) h

theorem State.Routes.afterRemoval (h : s.Routes t) (old : Option Half) : s.Routes (t.afterRemoval old) := by
  unfold State.afterRemoval
  dsimp only
  split
  · exact h.liftRoute
  · exact h.liftRoute.startAttempt.ite h.liftRoute

theorem State.Routes.judgeDistance (h : s.Routes t) (x : Transaction) : s.Routes (t.judgeDistance x) := by
  unfold State.judgeDistance
  exact (h.removeTransaction x).ite ((h.makeUnconfirmed x).ite h)

/-- A period-distance event is the route unit's alone (R117). -/
theorem State.routes_periodDistance (s : State) (d : Nat) : s.Routes (s.periodDistance d) := by
  have judged (q : List Transaction) : s.Routes (q.foldl State.judgeDistance (s.withQueue q)) :=
    State.Routes.foldl (fun u x => (State.Routes.refl u).judgeDistance x) q
      ((State.Routes.refl s).withQueue q)
  unfold State.periodDistance
  exact (State.Routes.refl s).ite (((judged _).afterRemoval _).ite (judged _))

/-- A reversal is the route unit's alone (R122). -/
theorem State.routes_reversal (s : State) : s.Routes s.reversal := by
  have removed := State.Routes.foldl (fun u x => (State.Routes.refl u).removeTransaction x) s.rtu.queue
    (State.Routes.refl s)
  have stopped := removed.withAttempt none
  unfold State.reversal
  exact (State.Routes.refl s).ite (stopped.ite (stopped.setFlag _)).liftRoute

end Sys2Proof.Machine
end

section
/-! SUPPORT. Stage 0 of a period and what follows it (R53 to R55): everything after the supervision of the speed leaves
the speed, its mark and its restriction as they are; with the statement about it. -/

namespace Sys2Proof.Machine

variable {s t u : State}

/-! ### What the rest of a period keeps of the speed -/

/-- From `s` to `t` the speed knowledge, its mark and the desk stay, no flag is cleared, no SPEED_LOST entry comes, and
none goes that is a HOLD. -/
structure State.KeepsSpeed (s t : State) : Prop where
  speed : t.tdu.speed = s.tdu.speed
  lastV : t.tdu.lastV = s.tdu.lastV
  mark : t.tdu.marks.speedLost = s.tdu.marks.speedLost
  dci : t.dci = s.dci
  flags : s.flagsKept t
  comes : ∀ e ∈ t.rsl, e.source = .speedLost → e ∈ s.rsl
  stays : ∀ e ∈ s.rsl, e.source = .speedLost → e.kind = .hold → e ∈ t.rsl

theorem State.KeepsSpeed.refl (s : State) : s.KeepsSpeed s :=
  ⟨rfl, rfl, rfl, rfl, BitVec.and_self, fun _ h _ => h, fun _ h _ _ => h⟩

theorem State.KeepsSpeed.trans (h : s.KeepsSpeed t) (k : t.KeepsSpeed u) : s.KeepsSpeed u where
  speed := k.speed.trans h.speed
  lastV := k.lastV.trans h.lastV
  mark := k.mark.trans h.mark
  dci := k.dci.trans h.dci
  flags := State.flagsKept_iff.mpr fun n hn => State.flagsKept_iff.mp k.flags n (State.flagsKept_iff.mp h.flags n hn)
  comes := fun e he hs => h.comes e (k.comes e he hs) hs
  stays := fun e he hs hk => k.stays e (h.stays e he hs hk) hs hk

theorem State.KeepsSpeed.ite {c : Prop} {_ : Decidable c} (h : s.KeepsSpeed t) (k : s.KeepsSpeed u) :
    s.KeepsSpeed (if c then t else u) := by
  split
  · exact h
  · exact k

/-- A change that leaves the traction unit, the desk and the entries of SPEED_LOST. -/
theorem State.KeepsSpeed.of_same (h : s.KeepsSpeed t) (ht : u.tdu = t.tdu) (hd : u.dci = t.dci) (hf : t.flagsKept u)
    (hr : ∀ e, e.source = .speedLost → (e ∈ u.rsl ↔ e ∈ t.rsl)) : s.KeepsSpeed u :=
  h.trans ⟨by rw [ht], by rw [ht], by rw [ht], hd, hf, fun e he hs => (hr e hs).mp he,
    fun e he hs _ => (hr e hs).mpr he⟩

theorem State.KeepsSpeed.withTdu (h : s.KeepsSpeed t) {x : Traction} (hs : x.speed = t.tdu.speed)
    (hv : x.lastV = t.tdu.lastV) (hm : x.marks.speedLost = t.tdu.marks.speedLost) : s.KeepsSpeed (t.withTdu x) :=
  h.trans ⟨hs, hv, hm, rfl, BitVec.and_self, fun _ h _ => h, fun _ h _ _ => h⟩

theorem State.KeepsSpeed.withMarks (h : s.KeepsSpeed t) {m : Marks} (hm : m.speedLost = t.tdu.marks.speedLost) :
    s.KeepsSpeed (t.withMarks m) := h.withTdu rfl rfl hm

theorem State.KeepsSpeed.withSsq (h : s.KeepsSpeed t) (x : Sounder) : s.KeepsSpeed (t.withSsq x) :=
  h.of_same rfl rfl BitVec.and_self fun _ _ => .rfl

theorem State.KeepsSpeed.withSru (h : s.KeepsSpeed t) (x : StopUnit) : s.KeepsSpeed (t.withSru x) :=
  h.of_same rfl rfl BitVec.and_self fun _ _ => .rfl

theorem State.KeepsSpeed.withMode (h : s.KeepsSpeed t) (m : Mode) : s.KeepsSpeed (t.withMode m) :=
  h.of_same rfl rfl BitVec.and_self fun _ _ => .rfl

theorem State.KeepsSpeed.sends (h : s.KeepsSpeed t) (k : t.Sends u) : s.KeepsSpeed u :=
  h.of_same k.same.tdu k.same.dci k.flags fun _ _ => by rw [k.same.rsl]

theorem State.KeepsSpeed.setFlag (h : s.KeepsSpeed t) (f : Flag) : s.KeepsSpeed (t.setFlag f) :=
  h.sends (t.sends_setFlag f)

theorem State.KeepsSpeed.publish (h : s.KeepsSpeed t) (i : Half) (b : List Byte) : s.KeepsSpeed (t.publish i b) :=
  h.sends (t.sends_publish i b)

theorem State.KeepsSpeed.routes (h : s.KeepsSpeed t) (k : t.Routes u) : s.KeepsSpeed u :=
  h.of_same k.same.tdu k.same.dci k.flags fun e he => k.entries e (by rw [he]; decide) (by rw [he]; decide)

theorem State.KeepsSpeed.raise (h : s.KeepsSpeed t) {src : Source} (hsrc : .speedLost ≠ src) (key : Half)
    (k : Restraint) : s.KeepsSpeed (t.raise src key k) :=
  h.of_same (by simp) (by simp) (t.flagsKept_raise src key k) fun _ he => State.mem_raise_iff (he ▸ hsrc) t key k

theorem State.KeepsSpeed.lift (h : s.KeepsSpeed t) {src : Source} (hsrc : .speedLost ≠ src) (key : Half) :
    s.KeepsSpeed (t.lift src key) :=
  h.of_same (by simp) (by simp) (t.flagsKept_lift src key) fun _ he => State.mem_lift_iff (he ▸ hsrc) t key

/-- The release test takes EMERGENCY entries alone (R88). -/
theorem State.KeepsSpeed.releaseTest (h : s.KeepsSpeed t) : s.KeepsSpeed t.releaseTest := by
  have hflags : t.flagsKept t.releaseTest := by
    unfold State.releaseTest
    exact State.Serves.flags
      ((((State.Serves.refl t).withRsl _).setFlag _).ite (State.Serves.refl t))
  refine h.trans ⟨by simp, by simp, by simp, by simp, hflags, fun e he _ => ?_, fun e he _ hk => ?_⟩
  · rw [State.releaseTest_rsl] at he
    split at he
    · exact List.mem_of_mem_filter he
    · exact he
  · rw [State.releaseTest_rsl]
    split
    · exact List.mem_filter.mpr ⟨he, by rw [hk]; rfl⟩
    · exact he

theorem State.KeepsSpeed.soundRequest (h : s.KeepsSpeed t) (ch : Channel) (r : SoundRequest) :
    s.KeepsSpeed (t.soundRequest ch r) :=
  h.of_same (by simp) (by simp) ((State.Serves.refl t).soundRequest ch r).flags fun _ _ => by simp

theorem State.KeepsSpeed.doorsTest (h : s.KeepsSpeed t) : s.KeepsSpeed t.doorsTest := by
  unfold State.doorsTest
  refine h.ite ?_
  split
  · exact (h.withSru _).raise (by decide) _ _
  · exact (h.withSru _).lift (by decide) _
  · exact h

/-! ### The stages after the speed (R55 to R75) -/

theorem State.KeepsSpeed.advanceOdometer (h : s.KeepsSpeed t) : s.KeepsSpeed t.advanceOdometer.1 := by
  unfold State.advanceOdometer
  split
  · exact h
  · exact h.withTdu rfl rfl rfl

theorem State.KeepsSpeed.settleDirection (h : s.KeepsSpeed t) : s.KeepsSpeed t.settleDirection.1 := by
  unfold State.settleDirection
  dsimp only
  split
  · exact h.withTdu rfl rfl rfl
  · split
    · split
      · exact h.withTdu rfl rfl rfl
      · exact h.withTdu rfl rfl rfl
    · split
      · exact (h.withTdu (by exact rfl) (by exact rfl) (by exact rfl)).setFlag _
      · exact h.withTdu rfl rfl rfl

theorem State.KeepsSpeed.judgeBrake (h : s.KeepsSpeed t) : s.KeepsSpeed t.judgeBrake := by
  have lifted : s.KeepsSpeed ((t.withMarks { t.tdu.marks with brake := false }).lift .brake 0) :=
    (h.withMarks (by exact rfl)).lift (by decide) _
  unfold State.judgeBrake
  dsimp only
  split
  · exact lifted.ite h
  · split
    · exact ((h.withMarks (by exact rfl)).raise (by decide) _ _).setFlag _
    · exact lifted
    · exact h

theorem State.KeepsSpeed.finishPeriod (h : s.KeepsSpeed t) (stepped : Bool) (y : Summary) (target : Int)
    (limb : Option (Limb × Nat)) : s.KeepsSpeed (t.finishPeriod stepped y target limb) := by
  have units (w : Nat) {v : State} (hv : s.KeepsSpeed v) : s.KeepsSpeed (v.superviseUnits w) := by
    unfold State.superviseUnits
    split
    · exact ((hv.withMarks (by exact rfl)).raise (by decide) _ _).setFlag _
    · exact (hv.withMarks (by exact rfl)).lift (by decide) _
    · exact hv
  exact units _ (h.withTdu rfl rfl rfl)

theorem State.KeepsSpeed.publishSetpoint (h : s.KeepsSpeed t) : s.KeepsSpeed t.publishSetpoint := by
  unfold State.publishSetpoint
  split
  · exact h.publish _ _
  · exact h

theorem State.KeepsSpeed.supervise (h : s.KeepsSpeed t) : s.KeepsSpeed t.supervise := by
  have warning {v : State} (hv : s.KeepsSpeed v) : s.KeepsSpeed v.vigilWarning :=
    ((hv.withTdu (by exact rfl) (by exact rfl) (by exact rfl)).soundRequest _ _).setFlag _
  have trip {v : State} (hv : s.KeepsSpeed v) : s.KeepsSpeed v.vigilTrip :=
    (((hv.withMarks (by exact rfl)).raise (by decide) _ _).setFlag _).soundRequest _ _
  have counted := h.withTdu (x := { t.tdu with vigil := t.tdu.vigil + 20 }) rfl rfl rfl
  have warned : s.KeepsSpeed (if t.tdu.vigil + 20 = t.tdu.items.vigilWarn then _ else _) :=
    (warning counted).ite counted
  unfold State.supervise
  exact (h.withTdu (x := t.tdu.vigilCleared) rfl rfl rfl).ite (((trip warned).ite warned).ite h)

/-- After the supervision of the speed, a period of a mode that evaluates it keeps it (R50). -/
theorem State.keepsSpeed_periodWork (h : s.mcr.mode.evaluates = true) :
    s.findSpeed.superviseSpeed.KeepsSpeed s.periodWork := by
  have evaluated := (State.KeepsSpeed.refl s.findSpeed.superviseSpeed).advanceOdometer
  have holding : s.findSpeed.superviseSpeed.KeepsSpeed s.evaluateSpeed.1.releaseTest.publishHold :=
    evaluated.releaseTest.publish _ _
  have serving : s.findSpeed.superviseSpeed.KeepsSpeed s.computePeriod.1.publishSetpoint.supervise :=
    (evaluated.settleDirection.judgeBrake.releaseTest.finishPeriod _ _ _ _).publishSetpoint.supervise
  unfold State.periodWork
  dsimp only
  cases hm : s.mcr.mode with
  | starting | failed | standby | step =>
    rw [hm] at h
    cases h
  | configure | hold =>
    dsimp only
    split
    · exact holding.routes (State.routes_periodDistance _ _)
    · exact holding
  | service | holdPending =>
    dsimp only
    cases s.computePeriod.2.distance with
    | some d =>
      have passed := serving.routes (State.routes_periodDistance _ d)
      exact (passed.routes (State.routes_reversal _)).ite passed
    | none => exact (serving.routes (State.routes_reversal _)).ite serving

/-! ### The tests at the end of a period (R198, R200) -/

/-- With the key on there is no standby (R200). -/
theorem State.standbyTest_of_key (h : s.dci.heldKey = true) : s.standbyTest = s := if_neg (by simp [h])

theorem State.KeepsSpeed.deadmanHeld (h : s.KeepsSpeed t) : s.KeepsSpeed t.deadmanHeld := by
  have cleared := h.withTdu (x := t.tdu.vigilCleared) rfl rfl rfl
  unfold State.deadmanHeld
  exact ((cleared.withMarks (by exact rfl)).lift (by decide) _).ite cleared

theorem State.KeepsSpeed.emergencyHandle (h : s.KeepsSpeed t) (level : Bool) :
    s.KeepsSpeed (t.emergencyHandle level) := by
  unfold State.emergencyHandle
  exact (((h.withMarks (by exact rfl)).raise (by decide) _ _).setFlag _).ite
    (((h.withMarks (by exact rfl)).lift (by decide) _).ite h)

theorem State.KeepsSpeed.deliverLevels (h : s.KeepsSpeed t) (o : Option View) (n : View) :
    s.KeepsSpeed (t.deliverLevels o n) := by
  have inputs := h.withTdu (x := { t.tdu with inputs := t.tdu.inputs.deliver o n }) rfl rfl rfl
  have deadman : s.KeepsSpeed (if levelDue o n .deadman && heldIn n.image .deadman then _ else _) :=
    inputs.deadmanHeld.ite inputs
  have delivered : s.KeepsSpeed (t.deliverTraction o n) := (deadman.emergencyHandle _).ite deadman
  exact delivered.of_same (by simp [State.deliverLevels]) (by simp [State.deliverLevels])
    (by simp [State.deliverLevels, State.flagsKept]) fun _ _ => by simp [State.deliverLevels]

theorem State.KeepsSpeed.changeMode (h : s.KeepsSpeed t) (m : Mode) : s.KeepsSpeed (t.changeMode m) := by
  have mode := h.withMode m
  have silent : s.KeepsSpeed (if t.mcr.mode.sounding && !m.sounding then _ else _) :=
    (mode.withSsq (t.withMode m).ssq.silenced).ite mode
  have awake : s.KeepsSpeed (if t.mcr.mode.driving && !m.driving then _ else _) :=
    (silent.withTdu (x := Traction.vigilCleared _) rfl rfl rfl).ite silent
  have reported : s.KeepsSpeed (if !t.mcr.mode.sounding && m.sounding then _ else _) :=
    (awake.sends (State.sends_reportChannels _)).ite awake
  have served (v : View) : s.KeepsSpeed (if !t.mcr.mode.active && m.active then _ else _) :=
    (reported.deliverLevels none v).ite reported
  exact (served _).doorsTest.ite (served _)

/-- The MCR's tests at the end of a period keep the speed while the key is on. -/
theorem State.KeepsSpeed.endTests (h : s.KeepsSpeed t) (hk : s.dci.heldKey = true) :
    s.KeepsSpeed t.completionTest.standbyTest := by
  have held := (h.changeMode .hold).raise (src := .mode) (by decide) 0 .hold
  have complete : s.KeepsSpeed t.completionTest := by
    unfold State.completionTest State.enterHold
    rw [State.standbyTest_of_key (by rw [held.dci]; exact hk)]
    exact held.ite h
  rw [State.standbyTest_of_key (by rw [complete.dci]; exact hk)]
  exact complete

end Sys2Proof.Machine
end

section
/-! SUPPORT. How a unit's slots are read, the highest and lowest axle speed, the odometer (R33, R53 to R55), with the
statement about stage 0. -/

namespace Sys2Proof.Machine

variable {s t u : State}

/-! ### Slots read (R33) -/

/-- A value that is long enough has no free bytes. -/
theorem State.slotBytes_of_le {i n : Nat} (h : n ≤ (s.sgt.slot i).value.length) :
    s.slotBytes i n = (s.sgt.slot i).value.take n := by
  refine List.ext_getElem (by simp [State.slotBytes, h]) fun p hp _ => ?_
  have hlt : p < n := by simpa [State.slotBytes] using hp
  simp [State.slotBytes, List.getD_eq_getElem?_getD, List.getElem?_eq_getElem (hlt.trans_le h)]

theorem SignalTable.isFresh_iff {x : SignalTable} {b : Option Nat} {i : Nat} (h : b = some i) :
    x.isFresh b = true ↔ (x.slot i).state = .fresh := by
  rw [h]
  exact beq_iff_eq

theorem numberAt_pair (b1 b0 : Byte) : numberAt [b1, b0] 0 = 256 * b1.toNat + b0.toNat := by
  change (be2 b1 b0).toNat = _
  rw [be2_toNat, Nat.mul_comm]

theorem numberAt_last (b2 b1 b0 : Byte) : numberAt [b2, b1, b0] 1 = 256 * b1.toNat + b0.toNat := numberAt_pair b1 b0

/-- A present unit's axle speed from a FRESH slot, at most 1500 (R33, R53). -/
theorem State.axleSpeed_of_fresh {x : UnitEntry} {i : Nat} {b1 b0 : Byte} (hp : x.present = true) (ha : x.axle = some i)
    (hf : (s.sgt.slot i).state = .fresh) (hb : s.slotBytes i 2 = [b1, b0]) :
    s.axleSpeed x = some (min 1500 (256 * b1.toNat + b0.toNat)) := by
  have hfresh := (SignalTable.isFresh_iff (x := s.sgt) ha).mpr hf
  rw [ha] at hfresh
  simp only [State.axleSpeed, ha, hp, hfresh, hb, Bool.and_self, if_true, numberAt_pair]

theorem State.axleSpeed_eq_none {x : UnitEntry}
    (h : x.present = false ∨ x.axle = none ∨ ∃ i, x.axle = some i ∧ (s.sgt.slot i).state ≠ .fresh) :
    s.axleSpeed x = none := by
  unfold State.axleSpeed
  split
  · rename_i i hi
    refine if_neg fun hc => ?_
    obtain ⟨hp, hf⟩ := Bool.and_eq_true_iff.mp hc
    obtain h | h | ⟨j, hj, hn⟩ := h
    · exact Bool.false_ne_true (h.symm.trans hp)
    · exact Option.some_ne_none i (hi.symm.trans h)
    · exact hn ((SignalTable.isFresh_iff hj).mp hf)
  · rfl

theorem State.viewUnit_of_none {x : UnitEntry} (h : x.status = none) :
    s.viewUnit x = ⟨x, s.axleSpeed x, false, 0⟩ := by
  simp only [State.viewUnit, h]

theorem State.viewUnit_of_some {x : UnitEntry} {i : Nat} (h : x.status = some i) :
    s.viewUnit x =
      ⟨x, s.axleSpeed x, s.sgt.isFresh x.status && (s.slotBytes i 3).getD 0 1 == 0,
        min 1000 (numberAt (s.slotBytes i 3) 1)⟩ := by
  simp only [State.viewUnit, h]

/-! ### Highest and lowest axle speed (R53) -/

/-- Folding with a choice between two elements gives one of the elements. -/
theorem foldl_choice_mem {f : Nat → Nat → Nat} (hf : ∀ a b, f a b = a ∨ f a b = b) (l : List Nat) :
    ∀ x, l.foldl f x ∈ x :: l := by
  induction l with
  | nil => exact fun x => List.mem_singleton.mpr rfl
  | cons y l ih =>
    intro x
    have h := ih (f x y)
    rw [List.foldl_cons]
    obtain hx | hy := hf x y
    · rw [hx] at h ⊢
      exact (List.mem_cons.mp h).elim (fun h => by rw [h]; exact List.mem_cons_self ..)
        fun h => List.mem_cons_of_mem _ (List.mem_cons_of_mem _ h)
    · rw [hy] at h ⊢
      exact List.mem_cons_of_mem _ h

theorem le_foldl_max (l : List Nat) : ∀ x, ∀ a ∈ x :: l, a ≤ l.foldl max x := by
  induction l with
  | nil => simp
  | cons y l ih =>
    intro x a ha
    rw [List.foldl_cons]
    obtain rfl | ha := List.mem_cons.mp ha
    · exact (le_max_left _ _).trans (ih _ _ (List.mem_cons_self ..))
    obtain rfl | ha := List.mem_cons.mp ha
    · exact (le_max_right _ _).trans (ih _ _ (List.mem_cons_self ..))
    · exact ih _ _ (List.mem_cons_of_mem _ ha)

theorem foldl_min_le (l : List Nat) : ∀ x, ∀ a ∈ x :: l, l.foldl min x ≤ a := by
  induction l with
  | nil => simp
  | cons y l ih =>
    intro x a ha
    rw [List.foldl_cons]
    obtain rfl | ha := List.mem_cons.mp ha
    · exact (ih _ _ (List.mem_cons_self ..)).trans (min_le_left _ _)
    obtain rfl | ha := List.mem_cons.mp ha
    · exact (ih _ _ (List.mem_cons_self ..)).trans (min_le_right _ _)
    · exact ih _ _ (List.mem_cons_of_mem _ ha)

/-- With an axle speed seen, the highest and the lowest are among those seen and bound them. -/
theorem speedOf_of_ne_nil {l : List Nat} (h : l ≠ []) :
    ∃ x, speedOf l = some x ∧ x.v ∈ l ∧ x.vMin ∈ l ∧ ∀ a ∈ l, x.vMin ≤ a ∧ a ≤ x.v := by
  cases l with
  | nil => exact absurd rfl h
  | cons y l =>
    exact ⟨⟨l.foldl max y, l.foldl min y⟩, rfl, foldl_choice_mem max_choice l y, foldl_choice_mem min_choice l y,
      fun a ha => ⟨foldl_min_le l y a ha, le_foldl_max l y a ha⟩⟩

theorem State.findSpeed_of_nil (h : s.tdu.units.filterMap s.axleSpeed = []) :
    s.findSpeed = s.withTdu { s.tdu with speed := none } := by
  rw [State.findSpeed, h]
  rfl

theorem State.findSpeed_of_some {x : Speed} (h : speedOf (s.tdu.units.filterMap s.axleSpeed) = some x) :
    s.findSpeed = s.withTdu { s.tdu with speed := some x, lastV := x.v } := by
  rw [State.findSpeed, h]

/-- The speed evaluation changes the speed and its last value alone. -/
theorem State.findSpeed_eq (s : State) :
    s.findSpeed = s.withTdu { s.tdu with speed := s.findSpeed.tdu.speed, lastV := s.findSpeed.tdu.lastV } := by
  unfold State.findSpeed
  split <;> rfl

/-! ### SPEED_LOST (R54) -/

theorem State.superviseSpeed_of_lost (h : s.tdu.speed = none) (hm : s.tdu.marks.speedLost = false) :
    s.superviseSpeed =
      ((s.withMarks { s.tdu.marks with speedLost := true }).raise .speedLost 0 .hold).setFlag .speedLost := by
  simp only [State.superviseSpeed, h, hm]

theorem State.superviseSpeed_of_found (h : s.tdu.speed ≠ none) (hm : s.tdu.marks.speedLost = true) :
    s.superviseSpeed = (s.withMarks { s.tdu.marks with speedLost := false }).lift .speedLost 0 := by
  obtain ⟨x, hx⟩ := Option.ne_none_iff_exists'.mp h
  simp only [State.superviseSpeed, hx, hm]

theorem State.superviseSpeed_of_same (h : s.tdu.marks.speedLost = decide (s.tdu.speed = none)) :
    s.superviseSpeed = s := by
  unfold State.superviseSpeed
  cases hx : s.tdu.speed <;> rw [hx] at h <;> simp [h]

/-- A raise of a source under a key that the list does not hold appends its entry (R84). -/
theorem State.mem_raise_of_none {src : Source} {key : Half} {k : Restraint} (hm : s.mcr.mode ≠ .standby)
    (h : findRestriction s.rsl src key = none) : ⟨src, key, k, s.tdu.periodCount⟩ ∈ (s.raise src key k).rsl := by
  rw [State.raise_rsl, if_neg hm, h]
  exact List.mem_append_right _ (List.mem_singleton.mpr rfl)

/-- A lift takes a source's only entry where that is no EMERGENCY (R86). -/
theorem State.not_mem_lift {src : Source} (hd : (identities s.rsl).Nodup) (hk : ∀ e ∈ s.rsl, e.source = src → e.key = 0)
    (hh : onlyHold s.rsl src) : ∀ e ∈ (s.lift src 0).rsl, e.source ≠ src := by
  intro e he hs
  have named {x : Restriction} (hx : x ∈ s.rsl) (h : x.source = src) : x.names src 0 = true := by
    simp [Restriction.names, h, hk x hx h]
  rw [State.lift_rsl] at he
  cases hf : findRestriction s.rsl src 0 with
  | none =>
    rw [hf] at he
    exact List.find?_eq_none.mp hf e he (named he hs)
  | some x =>
    have hx : x.kind = .hold := hh x (List.mem_of_find?_eq_some hf) (source_of_findRestriction hf)
    simp only [hf, hx] at he
    obtain ⟨y, l, l', -, hy, hl, herase⟩ := List.exists_of_eraseP
      (p := fun x : Restriction => x.names src 0) (List.mem_of_find?_eq_some hf)
      (List.find?_some (p := fun x : Restriction => x.names src 0) hf)
    rw [herase] at he
    have hmem : e ∈ s.rsl := by rw [hl]; simp only [List.mem_append, List.mem_cons] at he ⊢; tauto
    have hid : e.identity = y.identity := (identity_of_names (named hmem hs)).trans (identity_of_names hy).symm
    rw [hl, identities, List.map_append, List.map_cons, List.nodup_middle] at hd
    refine (List.nodup_cons.mp hd).1 ?_
    rw [← List.map_append, ← hid]
    exact List.mem_map_of_mem he

/-! ### The odometer (R55) -/

theorem State.advanceOdometer_of_none (h : s.tdu.speed = none) : s.advanceOdometer = (s, none) := by
  rw [State.advanceOdometer, h]

theorem State.advanceOdometer_of_some {x : Speed} (h : s.tdu.speed = some x) :
    s.advanceOdometer =
      (s.withTdu { s.tdu with
        odometer := s.tdu.odometer + BitVec.ofNat 32 ((s.tdu.acc9 + 5 * x.v) / 9)
        acc9 := (s.tdu.acc9 + 5 * x.v) % 9 }, some ((s.tdu.acc9 + 5 * x.v) / 9)) := by
  rw [State.advanceOdometer, h]
  rfl

/-! ### The statement -/

/-- The clause of O20 about a period: SPEED_LOST follows the speed that stage 0 finds (R54). -/
theorem speedLost_follows (hk : s.dci.heldKey = true)
    (hm : s.mcr.mode = .configure ∨ s.mcr.mode = .service ∨ s.mcr.mode = .holdPending ∨ s.mcr.mode = .hold)
    (h : exec .controlPeriod s = .next t) :
    t.tdu.speed = s.startPeriod.findSpeed.tdu.speed ∧ t.tdu.lastV = s.startPeriod.findSpeed.tdu.lastV ∧
      t.tdu.marks.speedLost = decide (t.tdu.speed = none) ∧
      (t.tdu.speed = none → s.tdu.marks.speedLost = false → t.efn.isSet .speedLost = true ∧
        (findRestriction s.rsl .speedLost 0 = none → standsAs t.rsl .speedLost .hold)) ∧
      (t.tdu.speed ≠ none → s.tdu.marks.speedLost = true → s.Distinct → s.KeysZero → onlyHold s.rsl .speedLost →
        ∀ e ∈ t.rsl, e.source ≠ .speedLost) ∧
      (s.tdu.marks.speedLost = decide (t.tdu.speed = none) → onlyHold s.rsl .speedLost →
        ∀ e, e.source = .speedLost → (e ∈ t.rsl ↔ e ∈ s.rsl)) := by
  have heval : s.mcr.mode.evaluates = true := by obtain h | h | h | h := hm <;> rw [h] <;> rfl
  have hsb : s.mcr.mode ≠ .standby := by obtain h | h | h | h := hm <;> rw [h] <;> decide
  set f := s.startPeriod.findSpeed with hf
  have hfeq : f = s.startPeriod.withTdu { s.startPeriod.tdu with speed := f.tdu.speed, lastV := f.tdu.lastV } :=
    s.startPeriod.findSpeed_eq
  have hmarks : f.tdu.marks = s.tdu.marks := by rw [hfeq]; rfl
  have hrsl : f.rsl = s.rsl := by rw [hfeq]; rfl
  have hmode : f.mcr.mode = s.mcr.mode := by rw [hfeq]; rfl
  have hdci : f.superviseSpeed.dci = s.dci := by rw [f.superviseSpeed_sameButSent.dci, hfeq]; rfl
  have work : f.superviseSpeed.KeepsSpeed s.startPeriod.periodWork := State.keepsSpeed_periodWork heval
  obtain rfl : s.startPeriod.periodWork.completionTest.standbyTest = t := by
    injection h with h
    rwa [if_pos heval] at h
  have k := work.endTests (by rw [hdci]; exact hk)
  set t := s.startPeriod.periodWork.completionTest.standbyTest
  have hspeed : t.tdu.speed = f.tdu.speed := k.speed.trans (by rw [State.superviseSpeed_tdu])
  refine ⟨hspeed, k.lastV.trans (by rw [State.superviseSpeed_tdu]), ?_, fun hnone hoff => ?_,
    fun hsome hon hd hz hh => ?_, fun hsame hh e he => ?_⟩
  · rw [k.mark, State.superviseSpeed_tdu, hspeed]
    cases f.tdu.speed <;> rfl
  · have hlost := State.superviseSpeed_of_lost (hspeed.symm.trans hnone) (by rw [hmarks]; exact hoff)
    refine ⟨State.flagsKept_iff.mp k.flags _ (by rw [hlost]; exact State.setFlag_isSet _ _), fun hfree => ?_⟩
    refine ⟨_, k.stays ⟨.speedLost, 0, .hold, f.tdu.periodCount⟩ ?_ rfl rfl, rfl, rfl, rfl⟩
    rw [hlost, State.setFlag_rsl]
    exact State.mem_raise_of_none (s := f.withMarks _) (by rw [← hmode] at hsb; exact hsb)
      (by rw [← hrsl] at hfree; exact hfree)
  · intro e he hs
    have hfound := State.superviseSpeed_of_found (s := f) (by rw [← hspeed]; exact hsome) (by rw [hmarks]; exact hon)
    have hcame := k.comes e he hs
    obtain ⟨-, -, hnodup, -, -⟩ := hd
    rw [hfound] at hcame
    rw [← hrsl] at hh hnodup
    refine State.not_mem_lift (s := f.withMarks { f.tdu.marks with speedLost := false }) hnodup
      (fun x hx hxs => ?_) hh e hcame hs
    exact hz x (hrsl ▸ hx) (by rw [hxs]; decide)
  · have hkeep := State.superviseSpeed_of_same (s := f) (by rw [hmarks, hsame, hspeed])
    rw [hkeep] at k
    rw [← hrsl] at hh ⊢
    exact ⟨fun h => k.comes e h he, fun h => k.stays e h he (hh e h he)⟩

/-- Settles O20, clause by clause: the slots' readings, the period of R54, the axle speeds, the odometer. -/
theorem speedAndOdometer : Obligations.SpeedAndOdometer := by
  refine ⟨fun s i n h => State.slotBytes_of_le h, fun s x => ⟨fun i b1 b0 => State.axleSpeed_of_fresh,
    State.axleSpeed_eq_none, ?_, ?_, fun h => by rw [State.viewUnit_of_none h], fun i b2 b1 b0 h hb => ?_⟩,
    fun s u t hk hm hu h => ?_, fun s => ⟨State.findSpeed_of_nil, fun h => ?_⟩,
    fun s => ⟨State.advanceOdometer_of_none, fun x h => ?_⟩⟩
  · unfold State.viewUnit
    split <;> rfl
  · unfold State.viewUnit
    split <;> rfl
  · rw [State.viewUnit_of_some h, hb, numberAt_last]
    refine ⟨?_, rfl⟩
    rw [Bool.and_eq_true_iff, SignalTable.isFresh_iff h]
    simp
  · subst hu
    exact speedLost_follows hk hm h
  · obtain ⟨x, hx, hv, hmin, hall⟩ := speedOf_of_ne_nil h
    exact ⟨x, State.findSpeed_of_some hx, hv, hmin, hall⟩
  · refine ⟨_, _, State.advanceOdometer_of_some h, ?_, Nat.mod_lt _ (by decide), rfl, rfl⟩
    exact Nat.div_add_mod _ 9

end Sys2Proof.Machine
end

section
/-! SUPPORT. Stepping (R31, R78, R199): what the stages of a computation keep before its record is made, the record, and
the changes between HOLD and STEP; with the statement about them. -/

namespace Sys2Proof.Machine

variable {s t u : State}

/-! ### The stages before the record -/

/-- From `s` to `t` a step's computation has been prepared: E_cmd, the odometer, the vigilance timer, the period count,
the slots and the mode stay. -/
structure State.Prepares (s t : State) : Prop where
  eCmd : t.tdu.eCmd = s.tdu.eCmd
  odometer : t.tdu.odometer = s.tdu.odometer
  acc9 : t.tdu.acc9 = s.tdu.acc9
  vigil : t.tdu.vigil = s.tdu.vigil
  periodCount : t.tdu.periodCount = s.tdu.periodCount
  slots : t.sgt.slots = s.sgt.slots
  mode : t.mcr.mode = s.mcr.mode

theorem State.Prepares.trans (h : s.Prepares t) (k : t.Prepares u) : s.Prepares u :=
  ⟨k.eCmd.trans h.eCmd, k.odometer.trans h.odometer, k.acc9.trans h.acc9, k.vigil.trans h.vigil,
    k.periodCount.trans h.periodCount, k.slots.trans h.slots, k.mode.trans h.mode⟩

/-- A stage that touches neither the traction unit, nor the slots, nor the mode prepares. -/
theorem State.Prepares.of_same (hd : t.tdu = s.tdu) (hg : t.sgt = s.sgt) (hm : t.mcr = s.mcr) : s.Prepares t := by
  constructor <;> simp [hd, hg, hm]

theorem State.prepares_findSpeed (s : State) : s.Prepares s.findSpeed := by
  rw [s.findSpeed_eq]
  constructor <;> rfl

theorem State.prepares_superviseSpeed (s : State) : s.Prepares s.superviseSpeed := by
  have hsame := s.superviseSpeed_sameButSent
  constructor <;> simp [hsame.sgt, hsame.mcr]

theorem State.prepares_releaseTest (s : State) : s.Prepares s.releaseTest :=
  .of_same (State.releaseTest_tdu s) (State.releaseTest_sgt s) s.releaseTest_sameButSent.mcr

theorem State.prepares_settleDirection (s : State) : s.Prepares s.settleDirection.1 := by
  unfold State.settleDirection
  dsimp only
  repeat' split
  all_goals constructor <;> simp

theorem State.prepares_judgeBrake (s : State) : s.Prepares s.judgeBrake := by
  have hsame := s.judgeBrake_sameButSent
  constructor <;> simp [hsame.sgt, hsame.mcr]

theorem State.prepares_superviseUnits (s : State) (w : Nat) : s.Prepares (s.superviseUnits w) := by
  have hsame := s.superviseUnits_sameButSent w
  constructor <;> simp [hsame.sgt, hsame.mcr]

/-! ### The record (R77) -/

theorem State.superviseUnits_record (s : State) (w : Nat) : (s.superviseUnits w).tdu.record = s.tdu.record := by
  rw [State.superviseUnits_tdu]

/-- Stages 3 and 4 record the period with the old and the new E_cmd, and keep the rest of what a step keeps. -/
theorem State.finishPeriod_record (s : State) (stepped : Bool) (y : Summary) (target : Int)
    (limb : Option (Limb × Nat)) :
    ∃ x, (s.finishPeriod stepped y target limb).tdu.record = some x ∧ x.stepped = stepped ∧
      x.period = s.tdu.periodCount ∧ x.cmdOld = s.tdu.eCmd ∧
      (s.withTdu { s.tdu with eCmd := x.cmd }).Prepares (s.finishPeriod stepped y target limb) := by
  obtain ⟨v, x, w, heq, hx, hstep, hperiod, hold, k⟩ : ∃ (v : Traction) (x : StepRecord) (w : Nat),
      s.finishPeriod stepped y target limb = (s.withTdu v).superviseUnits w ∧ v.record = some x ∧
        x.stepped = stepped ∧ x.period = s.tdu.periodCount ∧ x.cmdOld = s.tdu.eCmd ∧
        (s.withTdu { s.tdu with eCmd := x.cmd }).Prepares (s.withTdu v) :=
    ⟨_, _, _, rfl, rfl, rfl, rfl, rfl, rfl, rfl, rfl, rfl, rfl, rfl, rfl⟩
  rw [heq]
  exact ⟨x, (State.superviseUnits_record _ w).trans hx, hstep, hperiod, hold,
    k.trans (State.prepares_superviseUnits _ w)⟩

/-- The computation of STEP_ONE (R78). -/
theorem State.computeStep_record (s : State) :
    ∃ x, s.computeStep.1.tdu.record = some x ∧ x.stepped = true ∧ x.period = s.tdu.periodCount ∧
      x.cmdOld = s.tdu.eCmd ∧ (s.withTdu { s.tdu with eCmd := x.cmd }).Prepares s.computeStep.1 := by
  have hstages := ((((s.prepares_findSpeed.trans (State.prepares_superviseSpeed _)).trans
    (State.prepares_releaseTest _)).trans (State.prepares_settleDirection _)).trans (State.prepares_judgeBrake _))
  obtain ⟨x, hx, hstep, hperiod, hold, k⟩ := State.finishPeriod_record
    s.findSpeed.superviseSpeed.releaseTest.settleDirection.1.judgeBrake true (summarise _) _ _
  refine ⟨x, hx, hstep, hperiod.trans hstages.periodCount, hold.trans hstages.eCmd, ?_⟩
  exact ⟨k.eCmd, k.odometer.trans hstages.odometer, k.acc9.trans hstages.acc9, k.vigil.trans hstages.vigil,
    k.periodCount.trans hstages.periodCount, k.slots.trans hstages.slots, k.mode.trans hstages.mode⟩

/-- One step: the slots age one tick, the computation runs, and a reversal goes to the route unit. -/
theorem State.stepOnce_record (s : State) :
    ∃ x, s.stepOnce.tdu.record = some x ∧ x.stepped = true ∧ x.period = s.tdu.periodCount ∧ x.cmdOld = s.tdu.eCmd ∧
      ((s.withSgt s.sgt.aged).withTdu { s.tdu with eCmd := x.cmd }).Prepares s.stepOnce := by
  have haged := s.bumpFree.serves_ageSlots.same
  have htdu : s.bumpFree.ageSlots.tdu = s.tdu := haged.tdu
  obtain ⟨x, hx, hstep, hperiod, hold, k⟩ := s.bumpFree.ageSlots.computeStep_record
  rw [htdu] at hperiod hold k
  have kept : ((s.withSgt s.sgt.aged).withTdu { s.tdu with eCmd := x.cmd }).Prepares
      s.bumpFree.ageSlots.computeStep.1 := by
    refine ⟨k.eCmd, k.odometer, k.acc9, k.vigil, k.periodCount, k.slots.trans ?_, k.mode.trans ?_⟩
    · exact congrArg SignalTable.slots haged.sgt
    · exact congrArg Control.mode haged.mcr
  have heq : s.stepOnce = if s.bumpFree.ageSlots.computeStep.2.reversal then s.bumpFree.ageSlots.computeStep.1.reversal
    else s.bumpFree.ageSlots.computeStep.1 := rfl
  rw [heq]
  generalize s.bumpFree.ageSlots.computeStep = c at hx kept
  have hrev := (State.routes_reversal c.1).same
  split
  · exact ⟨x, (congrArg Traction.record hrev.tdu).trans hx, hstep, hperiod, hold,
      kept.trans (.of_same hrev.tdu hrev.sgt hrev.mcr)⟩
  · exact ⟨x, hx, hstep, hperiod, hold, kept⟩

/-! ### Between HOLD and STEP (R199) -/

/-- A change between HOLD and STEP changes the mode and tests DOORS. -/
theorem State.changeMode_stepping {m : Mode} (h : s.mcr.mode = .hold ∧ m = .step ∨ s.mcr.mode = .step ∧ m = .hold) :
    s.changeMode m = (s.withMode m).doorsTest := by
  obtain ⟨hs, rfl⟩ | ⟨hs, rfl⟩ := h <;> (unfold State.changeMode; rw [hs]; rfl)

/-- DOORS, held as it should be in one of the two modes, is so in the other, and the test leaves the list. -/
theorem State.withMode_doorsTest {m : Mode} (hs : s.mcr.mode.active = true) (hm : m.active = true) (h : s.DoorsHeld) :
    (s.withMode m).doorsTest = s.withMode m := by
  obtain ⟨hl, hmark, hset⟩ := h
  refine State.doorsTest_of_held ⟨hl, fun _ => hmark hs, fun hmk => ⟨fun hsb => ?_, (hset hmk).2⟩⟩
  obtain rfl : m = .standby := hsb
  cases hm

/-- What a change between HOLD and STEP leaves as it is. -/
theorem State.changeMode_keeps {m : Mode} (h : s.mcr.mode = .hold ∧ m = .step ∨ s.mcr.mode = .step ∧ m = .hold) :
    (s.changeMode m).mcr.mode = m ∧ (s.changeMode m).tdu = s.tdu ∧ (s.changeMode m).rtu = s.rtu ∧
      (s.changeMode m).ssq = s.ssq ∧ (s.DoorsHeld → (s.changeMode m).rsl = s.rsl) := by
  rw [State.changeMode_stepping h]
  refine ⟨by rw [State.doorsTest_mcr]; rfl, State.doorsTest_tdu _, State.doorsTest_rtu _, State.doorsTest_ssq _,
    fun hd => ?_⟩
  rw [State.withMode_doorsTest ?_ ?_ hd]
  · rfl
  all_goals obtain ⟨hs, rfl⟩ | ⟨hs, rfl⟩ := h
  · rw [hs]; rfl
  · rw [hs]; rfl
  · rfl
  · rfl

/-! ### The statement -/

/-- Settles O48, command by command. -/
theorem stepsComputeOnce : Obligations.StepsComputeOnce := by
  intro s r hk
  refine ⟨fun h hm => ?_, fun h hm => ?_, fun h hm => ?_⟩
  · have hact : actStepEnter r s.taken = (s.taken.changeMode .step, .plain .done) := by
      unfold actStepEnter
      rw [show s.taken.mcr.mode = .hold from hm]
    refine ⟨_, congrArg Host.Outcome.next (manage_of_asked h (by decide) actStepEnter), ?_⟩
    rw [hact]
    simp only [State.respond_mcr, State.respond_tdu, State.respond_rtu, State.respond_ssq, State.respond_rsl]
    exact State.changeMode_keeps (s := s.taken) (.inl ⟨hm, rfl⟩)
  · have hact : actStepExit r s.taken = (s.taken.changeMode .hold, .plain .done) := by
      unfold actStepExit
      rw [if_pos (by exact hm), State.standbyTest_of_key (by rw [State.changeMode_dci]; exact hk)]
    refine ⟨_, congrArg Host.Outcome.next (manage_of_asked h (by decide) actStepExit), ?_⟩
    rw [hact]
    simp only [State.respond_mcr, State.respond_tdu, State.respond_rtu, State.respond_ssq, State.respond_rsl]
    exact State.changeMode_keeps (s := s.taken) (.inr ⟨hm, rfl⟩)
  · have hact : actStepOne r s.taken = (s.taken.stepOnce, .plain .done) := if_pos hm
    obtain ⟨x, hx, hstep, hperiod, hold, k⟩ := s.taken.stepOnce_record
    refine ⟨_, x, congrArg Host.Outcome.next (manage_of_asked h (by decide) actStepOne), ?_⟩
    rw [hact]
    simp only [State.respond_tdu, State.respond_sgt, State.respond_mcr]
    exact ⟨hx, hstep, hperiod, hold, k.eCmd, k.odometer, k.acc9, k.vigil, k.periodCount, k.slots, k.mode.trans hm⟩

end Sys2Proof.Machine
end

section
/-! SUPPORT. Loads (R179 to R181) and writes (R177, R178): the banks, what replaces an entry, the fitted values; with
the statements about them. -/

namespace Sys2Proof.Machine

variable {s t u : State}

/-! ### Banks and modes -/

theorem TableName.banked_eq (t : TableName) : t.banked = decide (t = .curve ∨ t = .allocation ∨ t = .route) := by
  cases t <;> rfl

theorem Bank.ofCode_eq_none {b : Byte} (h0 : b ≠ 0) (h1 : b ≠ 1) : Bank.ofCode b = none := by
  unfold Bank.ofCode
  split
  · next h => exact absurd (BitVec.eq_of_toNat_eq h) h0
  · next h => exact absurd (BitVec.eq_of_toNat_eq h) h1
  · rfl

theorem readBank_of_unbanked {t : TableName} (h : t.banked = false) (b : Byte) : readBank t b = some .shadow := by
  rw [readBank, h]
  rfl

theorem readBank_of_banked {t : TableName} (h : t.banked = true) (b : Byte) : readBank t b = Bank.ofCode b := if_pos h

theorem Mode.held_iff (m : Mode) : m.held = true ↔ m = .configure ∨ m = .hold := by cases m <;> simp [Mode.held]

theorem Sounder.isPlaying_iff (q : Sounder) (n : Nat) :
    q.isPlaying n = true ↔ ∃ ch x, (q.channel ch).playing = some x ∧ x.request.pattern = n := by
  have hall (ch : Channel) : ch ∈ [Channel.horn, .bell, .chime] := by cases ch <;> decide
  simp only [Sounder.isPlaying, List.any_eq_true, Option.any_eq_true, beq_iff_eq]
  exact ⟨fun ⟨ch, _, h⟩ => ⟨ch, h⟩, fun ⟨ch, h⟩ => ⟨ch, hall ch, h⟩⟩

/-! ### An entry replaced -/

/-- An entry replaced leaves the mode control: a stop source that becomes enabled only registers (R145). -/
theorem State.replaceEntry_mcr (s : State) (i : Index) (e : LoadedEntry) : (s.replaceEntry i e).mcr = s.mcr := by
  cases e with
  | window => rfl
  | breakpoint => rfl
  | unit => rfl
  | route => rfl
  | pattern => rfl
  | source e =>
    change (s.loadSource i.number e).mcr = s.mcr
    unfold State.loadSource
    dsimp only
    split
    · unfold State.sourceEnabled
      split
      · exact ((State.Serves.refl _).registerSource _).same.mcr
      · rfl
    · rfl

/-! ### LOAD_ENTRY, case by case (R179) -/

theorem exec_loadEntry {r : Request} (h : s.asked r .loadEntry) :
    exec .loadEntry s = .next ((actLoadEntry r s.taken).1.respond r (actLoadEntry r s.taken).2) :=
  congrArg Host.Outcome.next (manage_of_asked h (by decide) actLoadEntry)

/-- A load of a known table, by what `State.load` makes of it. -/
theorem exec_loadEntry_of_load {r : Request} {t : TableName} {v : State} {st : Status} (h : s.asked r .loadEntry)
    (ht : TableName.ofCode (r.byte 0) = some t) (hl : s.taken.load t (r.byte 1) (r.payload.drop 2) = (v, st)) :
    exec .loadEntry s = .next (v.respond r ⟨st, []⟩) := by
  rw [exec_loadEntry h, actLoadEntry, ht]
  simp only [hl]

theorem State.load_of_mode (s : State) (bank : Byte) (bytes : List Byte) (h : s.mcr.mode.held = false) :
    s.load .window bank bytes = (s, .refusedMode) := if_pos ⟨rfl, h⟩

/-- A table that the mode allows. -/
def State.allowsLoad (s : State) (t : TableName) : Prop := t ≠ .window ∨ s.mcr.mode.held = true

theorem State.not_windowRefused {t : TableName} (h : s.allowsLoad t) : ¬ (t = .window ∧ s.mcr.mode.held = false) := by
  rintro ⟨rfl, hm⟩
  obtain h | h := h
  · exact h rfl
  · rw [h] at hm
    cases hm

theorem State.load_inRange {t : TableName} {bank : Byte} {b : Bank} {i : Index} {e : LoadedEntry} {bytes : List Byte}
    (h : s.allowsLoad t) (hb : readBank t bank = some b) (hi : readIndex t (bytes.take t.indexBytes) = some i)
    (he : readLoaded t (bytes.drop t.indexBytes) = some e) : s.load t bank bytes = s.loadInRange t b i e bytes := by
  rw [State.load, if_neg (State.not_windowRefused h), hb, hi, he]

theorem State.load_refusedRange {t : TableName} {bank : Byte} {bytes : List Byte} (h : s.allowsLoad t)
    (hn : readIndex t (bytes.take t.indexBytes) = none ∨ readLoaded t (bytes.drop t.indexBytes) = none ∨
      readBank t bank = none) : s.load t bank bytes = (s, .refusedRange) := by
  rw [State.load, if_neg (State.not_windowRefused h)]
  split
  · next hb hi he =>
    rw [hi, he, hb] at hn
    obtain hn | hn | hn := hn <;> cases hn
  · rfl

/-- Settles O42, answer by answer. -/
theorem loadsAreDecided : Obligations.LoadsAreDecided := by
  intro s r h
  refine ⟨fun hnone => by rw [exec_loadEntry h, actLoadEntry, hnone], ?_⟩
  intro t banked index entry ht hb hindex hentry
  rw [← TableName.banked_eq] at hb
  subst hb hindex hentry
  refine ⟨?_, fun hmode => ?_⟩
  · rintro rfl hc hh
    refine exec_loadEntry_of_load h ht (State.load_of_mode s.taken _ _ ?_)
    rw [← Bool.not_eq_true, Mode.held_iff]
    exact fun hm => hm.elim hc hh
  have hallow : s.taken.allowsLoad t := hmode.imp_right (Mode.held_iff _).mpr
  have into {v : State} {st : Status} (hl : s.taken.load t (r.byte 1) (r.payload.drop 2) = (v, st)) :=
    exec_loadEntry_of_load h ht hl
  refine ⟨fun hout => into (State.load_refusedRange hallow ?_), fun i e hi he => ?_⟩
  · exact hout.imp_right (Or.imp_right fun ⟨hbk, h0, h1⟩ => by rw [readBank_of_banked hbk, Bank.ofCode_eq_none h0 h1])
  refine ⟨fun hbk h0 => into ?_, fun hp hplay => into ?_, fun hok => ?_⟩
  · rw [State.load_inRange (b := .active) hallow (by rw [readBank_of_banked hbk, h0]; rfl) hi he]
    exact if_pos ⟨hbk, rfl⟩
  · subst hp
    rw [State.load_inRange hallow (readBank_of_unbanked rfl _) hi he]
    exact (if_neg (by simp)).trans (if_pos ⟨rfl, (Sounder.isPlaying_iff _ _).mpr hplay⟩)
  · have hshadow : readBank t (r.byte 1) = some .shadow := by
      obtain ⟨hbk, h1⟩ | rfl | rfl | ⟨rfl, -⟩ := hok
      · rw [readBank_of_banked hbk, h1]; rfl
      all_goals rfl
    have hidle : ¬ (t = .pattern ∧ s.taken.ssq.isPlaying i.number = true) := by
      rintro ⟨rfl, hplay⟩
      obtain ⟨ch, x, hx, hn⟩ := (Sounder.isPlaying_iff _ _).mp hplay
      obtain ⟨hbk, -⟩ | hw | hw | ⟨-, hidle⟩ := hok
      · cases hbk
      · cases hw
      · cases hw
      · exact hidle ch x hx hn
    have hload : s.taken.load t (r.byte 1) (r.payload.drop 2) =
        ((s.taken.replaceEntry i e).addLoadSum (r.payload.drop 2), .done) := by
      rw [State.load_inRange hallow hshadow hi he]
      exact (if_neg fun hx => Bank.noConfusion hx.2).trans (if_neg hidle)
    rw [into hload, State.addLoadSum, State.replaceEntry_mcr]
    rfl

/-! ### WRITE_ITEM, class by class (R177) -/

theorem exec_writeItem {r : Request} (h : s.asked r .writeItem) :
    exec .writeItem s = .next ((actWriteItem r s.taken).1.respond r (actWriteItem r s.taken).2) :=
  congrArg Host.Outcome.next (manage_of_asked h (by decide) actWriteItem)

/-- A write to a known item, by what `State.writeItem` makes of it. -/
theorem exec_writeItem_of_write {r : Request} {i : Item} {v : State} {a : Answer} (h : s.asked r .writeItem)
    (hi : Item.ofNumber (r.half 0).toNat = some i) (hw : s.taken.writeItem i (r.int 2) = (v, a)) :
    exec .writeItem s = .next (v.respond r a) := by
  rw [exec_writeItem h, actWriteItem, hi]
  simp only [hw]

theorem State.writeItem_of_readOnly {i : Item} (h : i.writeClass = .readOnly) (s : State) (v : Int) :
    s.writeItem i v = (s, ⟨.badItem, []⟩) := by
  rw [State.writeItem, h]

theorem State.writeItem_of_clearOnWrite {i : Item} (h : i.writeClass = .clearOnWrite) (s : State) (v : Int) :
    s.writeItem i v = (s.clearItem i, ⟨.done, int4 0⟩) := by
  rw [State.writeItem, h]

theorem State.writeItem_of_notHeld {i : Item} (h : i.writeClass = .heldConfiguration) (hm : s.mcr.mode.held = false)
    (v : Int) : s.writeItem i v = (s, ⟨.refusedMode, []⟩) := by
  rw [State.writeItem, h]
  simp only [hm]
  rfl

/-- A settable item is stored where its class and the mode allow it. -/
theorem State.writeItem_of_settable {i : Item}
    (h : (i.writeClass = .heldConfiguration ∧ s.mcr.mode.held = true) ∨ i.writeClass = .notification) (v : Int) :
    s.writeItem i v = s.storeItem i v := by
  obtain ⟨h, hm⟩ | h := h
  · rw [State.writeItem, h]
    simp only [hm]
    rfl
  · rw [State.writeItem, h]

theorem PortCounters.read_clear (x : PortCounters) (c : PortCounter) : (x.clear c).read c = 0 := by cases c <;> rfl

theorem TrackLink.read_clear (x : TrackLink) (t : TrackItem) : (x.clear t).read t = 0 := by cases t <;> rfl

theorem single_zero : single 0 = [0, 0, 0, 0] := by decide

/-- A cleared item reads as 0. -/
theorem State.clearItem_itemValue {i : Item} (h : i.writeClass = .clearOnWrite) (s : State) :
    (s.clearItem i).itemValue i = [0, 0, 0, 0] := by
  cases i with
  | port p c =>
    change singleHalf (((s.withPort p _).port p).counters.read c) = _
    rw [State.port_withPort, PortCounters.read_clear]
    exact single_zero
  | deskBadScans => exact single_zero
  | track t =>
    change single ((s.tlk.clear t).read t) = _
    rw [TrackLink.read_clear, single_zero]
  | _ => cases h

/-! ### Fitted values (R178) -/

theorem truncate20_eq (v : Int) : truncate20 v = 20 * (v / 20) := by
  have := Int.mul_ediv_add_emod v 20
  unfold truncate20
  omega

/-- Settles O40: the answers by write class, then the fitted value of each settable item. -/
theorem writesFollowTheirClass : Obligations.WritesFollowTheirClass := by
  refine ⟨fun s r h => ⟨fun hnone => by rw [exec_writeItem h, actWriteItem, hnone], fun i hi => ?_⟩, fun s v => ?_⟩
  · refine ⟨fun hro => ?_, fun hheld hc hh => ?_, fun hcl => ⟨?_, State.clearItem_itemValue hcl _⟩, ?_⟩
    · exact exec_writeItem_of_write h hi (State.writeItem_of_readOnly hro _ _)
    · refine exec_writeItem_of_write h hi (State.writeItem_of_notHeld hheld ?_ _)
      rw [← Bool.not_eq_true, Mode.held_iff]
      exact fun hm => hm.elim hc hh
    · exact exec_writeItem_of_write h hi (State.writeItem_of_clearOnWrite hcl _ _)
    · rintro v w rfl rfl hset
      rw [← Mode.held_iff] at hset
      refine (exec_writeItem_of_write h hi (State.writeItem_of_settable (s := s.taken) hset _)).trans
        (congrArg (fun st => Host.Outcome.next ((s.taken.setItem i _).respond r ⟨st, _⟩)) ?_)
      cases i with
      | route x => cases x <;> rfl
      | _ => rfl
  · simp only [← truncate20_eq]
    exact ⟨rfl, rfl, rfl, rfl, rfl, rfl, rfl, rfl, rfl, rfl, rfl, rfl, rfl, rfl, rfl, rfl, rfl, fun _ => rfl, rfl, rfl,
      fun _ => rfl, fun _ => rfl, fun _ => rfl, rfl⟩

end Sys2Proof.Machine
end

section
/-! SUPPORT. The read requests (R176, R182, R184, R185): the bytes of the records (R207) and of the items (R208); with
the statement about them. -/

namespace Sys2Proof.Machine

variable {s t u : State}

/-! ### Bytes of single fields (R204) -/

theorem flag1_eq (b : Bool) : flag1 b = [if b then 1 else 0] := by cases b <;> rfl

theorem singleFlag_eq (b : Bool) : singleFlag b = int4 (if b then 1 else 0) := by cases b <;> rfl

/-- A number below 256 in two bytes. -/
theorem nat2_toNat (q : Byte) : nat2 q.toNat = [0, q] := by
  have hq := q.isLt
  unfold nat2 half2
  congr 1
  · apply BitVec.eq_of_toNat_eq
    simp only [BitVec.extractLsb'_toNat, BitVec.toNat_ofNat, Nat.shiftRight_eq_div_pow, BitVec.ofNat_eq_ofNat]
    omega
  · congr 1
    apply BitVec.eq_of_toNat_eq
    simp only [BitVec.extractLsb'_toNat, BitVec.toNat_ofNat, Nat.shiftRight_eq_div_pow]
    omega

theorem optional1_toNat (o : Option Byte) :
    optional1 (o.map BitVec.toNat) = [match o with | some a => a | none => 255] := by
  cases o with
  | none => rfl
  | some a => exact congrArg (· :: []) (by simp)

theorem optional2_toNat (o : Option Byte) :
    optional2 (o.map BitVec.toNat) = match o with | some q => [0, q] | none => [255, 255] := by
  cases o with
  | none => rfl
  | some q => exact nat2_toNat q

/-- Eight bits of a byte, bit 0 first. -/
theorem bits1_eight (b0 b1 b2 b3 b4 b5 b6 b7 : Bool) :
    bits1 [b0, b1, b2, b3, b4, b5, b6, b7] =
      [BitVec.ofNat 8 ((if b0 then 1 else 0) + (if b1 then 2 else 0) + (if b2 then 4 else 0) + (if b3 then 8 else 0) +
        (if b4 then 16 else 0) + (if b5 then 32 else 0) + (if b6 then 64 else 0) + (if b7 then 128 else 0))] := by
  simp [bits1, byte1, List.zipIdx_cons, Nat.add_assoc]

theorem byte1_directionCode (d : Option PointDir) :
    byte1 (directionCode d) = [match d with | some .l => 0 | some .s => 1 | some .r => 2 | none => 3] := by
  rcases d with _ | _ | _ | _ <;> rfl

theorem byte1_txState (x : TxState) :
    byte1 x.code = [match x with
      | .announced => 0 | .requesting => 1 | .confirmed => 2 | .unconfirmed => 3 | .proceed => 4 | .awaitDriver => 5
      | .notRequired => 6] := by
  cases x <;> rfl

theorem byte1_sourceCode (x : Source) :
    byte1 x.code = [match x with
      | .doors => 0 | .junction => 1 | .route => 2 | .speedLost => 3 | .unitsLost => 4 | .brake => 5 | .vigil => 6
      | .handle => 7 | .desk => 8 | .mode => 9] := by
  cases x <;> rfl

theorem Restraint.liftBytes_eq (k : Restraint) :
    k.liftBytes = [match k with | .emergency true => 1 | .emergency false => 0 | _ => 255] := by
  rcases k with _ | _ | (_ | _) <;> rfl

theorem byte1_stopKindCode (x : StopKind) : byte1 x.code = [match x with | .normal => 0 | .assist => 1] := by
  cases x <;> rfl

theorem byte1_txSource (x : TxSource) : byte1 x.code = [match x with | .table => 0 | .manual => 1] := by
  cases x <;> rfl

/-! ### Records (R207) -/

theorem Restriction.record_length (e : Restriction) : e.record.length = 11 := by
  obtain ⟨source, key, kind, raisedAt⟩ := e
  cases kind <;> rfl

theorem Transaction.record_length (x : Transaction) : x.record.length = 17 := by
  obtain ⟨junction, entry, dir, source, state, attempts, lastSeq⟩ := x
  cases entry <;> cases lastSeq <;> rfl

theorem StepRecord.directionByte_eq (x : StepRecord) :
    x.directionByte = [BitVec.ofNat 8 ((match x.held with | .fwd => 0 | .rev => 1 | .neutral => 2) +
       (match x.limb with | none => 0 | some (.power, _) => 16 | some (.brake, _) => 32))] := by
  unfold StepRecord.directionByte
  rcases x.limb with _ | ⟨_ | _, e⟩ <;> cases x.held <;> rfl

theorem StepRecord.part0_length (x : StepRecord) : x.part0.length = 31 := by
  have hspeed : x.speedBytes.length = 4 := by unfold StepRecord.speedBytes; cases x.speed <;> rfl
  have hlimb : (optional2 (x.limb.map (·.2))).length = 2 := by cases x.limb <;> rfl
  simp only [StepRecord.part0, List.length_append, hspeed, hlimb]
  rfl

/-! ### The collection reads (R184) -/

/-- As many whole records as one answer carries, from the start on. -/
theorem collectionAnswer_map {α : Type} (k : Nat) (fixed : List Byte) (f : α → List Byte) (l : List α) (start : Nat) :
    collectionAnswer k fixed (l.map f) start =
      ⟨.done, [BitVec.ofNat 8 l.length, BitVec.ofNat 8 start, BitVec.ofNat 8 (min k (l.length - start))] ++ fixed ++
        (((l.drop start).take k).map f).flatten⟩ := by
  simp [collectionAnswer, byte1, List.map_drop, List.map_take]

/-! ### Values of items with a code, a flag or an absent value (R204, R207, R208) -/

theorem singleOption_eq (o : Option Nat) :
    singleOption o = match o with | some i => int4 i | none => [255, 255, 255, 255] := by
  cases o <;> rfl

theorem singleOption_toNat (o : Option Byte) :
    singleOption (o.map BitVec.toNat) = match o with | some x => int4 x.toNat | none => [255, 255, 255, 255] := by
  cases o <;> rfl

theorem byte1_deskStateCode (x : DeskState) :
    byte1 x.code = [match x with | .ok => 0 | .lost => 1] := by cases x <;> rfl

/-- The safe view stands in for the image while the desk is LOST (R42). -/
theorem Desk.view_bytes (d : Desk) :
    word4 d.view.image ++ int2 d.view.handle = match d.state with
      | .ok => word4 d.image ++ half2 (BitVec.ofInt 16 d.handle)
      | .lost => [0, 0, 0, (if d.heldKey then 1 else 0), 0, 0] := by
  unfold Desk.view
  cases d.state with
  | ok => rfl
  | lost =>
    have hsafe : ∀ b : Bool, word4 (if b then 1 else 0) ++ int2 0 = [0, 0, 0, (if b then 1 else 0), 0, 0] := by decide
    exact hsafe d.heldKey

theorem speedRecord_eq (o : Option Speed) :
    speedRecord o = match o with
      | some x => 1 :: half2 (BitVec.ofNat 16 x.v) ++ half2 (BitVec.ofNat 16 x.vMin)
      | none => [0, 255, 255, 255, 255] := by
  cases o <;> rfl

theorem single_directionCode (x : Direction) :
    single x.code = match x with | .fwd => int4 0 | .rev => int4 1 | .neutral => int4 2 := by
  cases x <;> rfl

theorem flag1_two (a b : Bool) : flag1 a ++ flag1 b = [if a then 1 else 0, if b then 1 else 0] := by
  rw [flag1_eq, flag1_eq]
  rfl

theorem flag1_three (a b c : Bool) :
    flag1 a ++ flag1 b ++ flag1 c = [if a then 1 else 0, if b then 1 else 0, if c then 1 else 0] := by
  rw [flag1_two, flag1_eq]
  rfl

theorem single_noMatchCode (x : NoMatch) : single x.code = match x with | .pass => int4 0 | .manual => int4 1 := by
  cases x <;> rfl

theorem single_transceiverCode (x : Transceiver) :
    single x.code = match x with | .listen => int4 0 | .receiving => int4 1 | .transmitting => int4 2 := by
  cases x <;> rfl

theorem single_linkCode (x : LinkCondition) : single x.code = match x with | .ok => int4 0 | .fault => int4 1 := by
  cases x <;> rfl

theorem single_doorCode (x : DoorState) :
    single x.code = match x with | .closedLocked => int4 0 | .released => int4 1 | .closing => int4 2 := by
  cases x <;> rfl

theorem single_sidesCode (x : Sides) :
    single x.code = int4 ((if x.left then 1 else 0) + (if x.right then 2 else 0)) := by
  unfold Sides.code
  cases x.left <;> cases x.right <;> rfl

theorem doorViewRecord_eq (o : Option DoorView) :
    doorViewRecord o = match o with
      | some x => [1, (if x.closed then 1 else 0), (if x.locked then 1 else 0)]
      | none => [0, 255, 255] := by
  cases o with
  | none => rfl
  | some x => exact flag1_three true x.closed x.locked

theorem directRecord_eq (o : Option DirectHorn) :
    directRecord o = match o with
      | none => [0, 255, 255, 255, 255]
      | some d => (if d.held then 1 else 2) :: word4 (Config.pressTimeReading d.pressTime) := by
  cases o with
  | none => rfl
  | some d =>
    have hheld : byte1 (if d.held then 1 else 2) = [if d.held then 1 else 2] := by cases d.held <;> rfl
    exact congrArg (· ++ word4 _) hheld

theorem single_mapCode (x : MapMode) :
    single (match x with | .block => 0 | .interleave => 1) =
      match x with | .block => int4 0 | .interleave => int4 1 := by
  cases x <;> rfl

theorem Control.modeRecord_eq (c : Control) :
    c.modeRecord = BitVec.ofNat 8 (match c.mode with
        | .starting => 0 | .failed => 1 | .configure => 2 | .service => 3 | .holdPending => 4 | .hold => 5 | .step => 6
        | .standby => 7) ::
      (if c.mode = .starting then half2 (BitVec.ofNat 16 c.checkLeft) else [255, 255]) := by
  unfold Control.modeRecord
  cases c.mode <;> rfl

/-! ### Items (R208) -/

/-- The item of a number reads as these bytes. -/
def State.Reads (s : State) (n : Nat) (bytes : List Byte) : Prop :=
  ∃ i, Item.ofNumber n = some i ∧ s.itemValue i = bytes

theorem State.reads_of_forall {l : List (Nat × List Byte)} {n : Nat} {bytes : List Byte} (h : ∀ p ∈ l, s.Reads p.1 p.2)
    (hm : (n, bytes) ∈ l) : ∃ i, Item.ofNumber n = some i ∧ s.itemValue i = bytes := h _ hm

theorem itemRow_eq_none_iff (base : Nat) (items : List Item) (n : Nat) :
    itemRow base items n = none ↔ n < base ∨ base + items.length ≤ n := by
  unfold itemRow
  split
  · rw [List.getElem?_eq_none_iff]
    omega
  · simp only [true_iff]
    omega

theorem Item.ofNumber_slot {n : Nat} (h : n < 128) : Item.ofNumber n = some (.slot n) := if_pos h

/-- Above the slots a number names an item in a row of R208. -/
theorem Item.ofNumber_eq_none_iff {n : Nat} (h : ¬ n < 128) :
    Item.ofNumber n = none ↔ ∀ row ∈ itemRows, n < row.1 ∨ row.1 + row.2.length ≤ n := by
  rw [Item.ofNumber, if_neg (c := n < Config.slotCount) h, List.findSome?_eq_none_iff]
  exact forall₂_congr fun row _ => itemRow_eq_none_iff row.1 row.2 n

theorem Sounder.suspended_iff (q : Sounder) (ch : Channel) : q.suspended ch = true ↔ ch = .horn ∧ q.direct ≠ none := by
  simp [Sounder.suspended, Option.isSome_iff_ne_none]

/-- A read that answers from a state as it stands. -/
theorem next_manage_of_read {r : Request} {row : Row} (h : s.asked r row) (hrow : row ≠ .unknown)
    {act : Request → State → State × Answer} {a : Answer} (ha : act r s.taken = (s.taken, a)) :
    Host.Outcome.next (φ := Fault) (ρ := Refusal) (manage row act s) = .next (s.taken.respond r a) := by
  rw [manage_of_asked h hrow act, ha]

/-! ### The statement -/

/-- Settles O39: the requests' answers, the records' layouts, the items' bytes, and the numbers that name an item. -/
theorem readsAnswerWhatStands : Obligations.ReadsAnswerWhatStands := by
  refine ⟨fun s r => ⟨fun h => ⟨fun i hi => ?_, fun hn => ?_⟩, fun h => ⟨fun t b i ht hb hi => ?_, fun hn => ?_,
      fun t ht hn => ?_⟩⟩,
    fun s r => ⟨fun h => ?_, fun h => ?_, fun h => ?_, fun h => ⟨fun hle => ?_, fun hlt => ?_⟩⟩,
    fun e => ⟨?_, e.record_length⟩, fun x => ⟨?_, x.record_length⟩, fun x => ⟨?_, rfl⟩,
    fun m left => ⟨rfl, fun hm => ?_, fun h1 h2 => ?_⟩, ⟨rfl, fun _ => rfl⟩, fun x => ⟨?_, x.part0_length⟩,
    fun x n y hy => ?_, fun s i hi => ⟨Item.ofNumber_slot hi, ?_⟩, fun s n ch c hn hc => ?_, fun x => ?_,
    fun s n bytes hm => State.reads_of_forall ?_ hm, fun n => ?_⟩
  · exact next_manage_of_read h (by decide) (by rw [actReadItem, hi]; rfl)
  · exact next_manage_of_read h (by decide) (by rw [actReadItem, hn])
  · exact next_manage_of_read h (by decide) (by rw [actReadEntry, ht]; simp only [hb, hi]; rfl)
  · exact next_manage_of_read h (by decide) (by rw [actReadEntry, hn])
  · refine next_manage_of_read h (by decide) ?_
    rw [actReadEntry, ht]
    cases hb : readBank t (r.byte 1) <;> simp only [hb, hn]
  · exact next_manage_of_read h (by decide) (congrArg (s.taken, ·) (collectionAnswer_map 2 _ _ _ _))
  · exact next_manage_of_read h (by decide) (congrArg (s.taken, ·) (collectionAnswer_map 1 _ _ _ _))
  · exact next_manage_of_read h (by decide) (congrArg (s.taken, ·) (collectionAnswer_map 4 _ _ _ _))
  · exact next_manage_of_read h (by decide) (if_neg (Nat.not_lt.mpr hle))
  · exact next_manage_of_read h (by decide) (if_pos hlt)
  · rw [Restriction.record, byte1_sourceCode, Restraint.liftBytes_eq]
    cases e.kind <;> rfl
  · rw [Transaction.record, byte1_directionCode, byte1_txSource, byte1_txState, optional2_toNat]
    cases x.entry <;> cases x.lastSeq <;> rfl
  · rw [StopEntry.record, byte1_stopKindCode]
    rfl
  · obtain rfl | rfl := hm <;> rfl
  · have hd : m.driving = false := by cases m <;> simp_all [Mode.driving]
    simp only [timerBytes, hd]
    rfl
  · change x.part0 = _
    rw [StepRecord.part0, StepRecord.flags, bits1_eight, StepRecord.directionByte_eq, StepRecord.speedBytes]
    cases x.speed <;> rcases x.limb with _ | ⟨l, e⟩ <;> simp [byte1, nat2, int2, optional2, absent, half2] <;> rfl
  · simp only [stepPart, hy, StepRecord.unitPart, bits1_eight]
    rfl
  · rintro x rfl
    change Slot.record _ = _
    rw [Slot.record, optional1_toNat]
    cases (s.sgt.slot i).state <;> rfl
  · subst hc
    refine ⟨by obtain ⟨rfl, rfl⟩ | ⟨rfl, rfl⟩ | ⟨rfl, rfl⟩ := hn <;> rfl,
      playingRecord (s.ssq.channel ch).playing (s.ssq.suspended ch), _, ?_, fun hp => ?_, fun x hp => ?_, rfl⟩
    · change s.ssq.channelRecord ch = _
      simp [Sounder.channelRecord, flag1_eq, absent, Config.soundPlaces]
    · rw [hp]
      rfl
    · have hb : byte1 (if x.second then 2 else 1) = [if x.second then 2 else 1] := by cases x.second <;> rfl
      rw [hp, playingRecord, flag1_eq, hb]
      simp only [Sounder.suspended_iff]
      simp [byte1]
  · rw [SoundRequest.record]
    cases x.source <;> rfl
  · simp only [List.forall_mem_append, List.forall_mem_cons, List.not_mem_nil, IsEmpty.forall_iff, implies_true,
      and_true, and_assoc]
    refine ⟨⟨.lastStale, rfl, singleOption_eq _⟩, ⟨.port .a .forwarded, rfl, rfl⟩, ⟨.port .a .checkFail, rfl, rfl⟩,
      ⟨.port .a .rxOverrun, rfl, rfl⟩, ⟨.port .a .loop, rfl, rfl⟩, ⟨.port .a .fwdDrop, rfl, rfl⟩,
      ⟨.port .a .ownDrop, rfl, rfl⟩, ⟨.port .a .linkDiscard, rfl, rfl⟩, ⟨.port .b .forwarded, rfl, rfl⟩,
      ⟨.port .b .checkFail, rfl, rfl⟩, ⟨.port .b .rxOverrun, rfl, rfl⟩, ⟨.port .b .loop, rfl, rfl⟩,
      ⟨.port .b .fwdDrop, rfl, rfl⟩, ⟨.port .b .ownDrop, rfl, rfl⟩, ⟨.port .b .linkDiscard, rfl, rfl⟩,
      ⟨.deskState, rfl, by exact congrArg (· ++ byte1 _ ++ byte1 _) (byte1_deskStateCode _)⟩, ⟨.inputImage, rfl, rfl⟩,
      ⟨.deliveredView, rfl, Desk.view_bytes _⟩, ⟨.lampImage, rfl, rfl⟩, ⟨.deskBadScans, rfl, rfl⟩,
      ⟨.traction .deadBand, rfl, rfl⟩, ⟨.traction .emergBrake, rfl, rfl⟩, ⟨.traction .holdBrake, rfl, rfl⟩,
      ⟨.traction .enforceBrake, rfl, rfl⟩, ⟨.traction .overspeedBand, rfl, rfl⟩, ⟨.traction .jerk, rfl, rfl⟩,
      ⟨.traction .vigilWarn, rfl, rfl⟩, ⟨.traction .vigilLimit, rfl, rfl⟩, ⟨.traction .slipThreshold, rfl, rfl⟩,
      ⟨.traction .setpointId, rfl, rfl⟩, ⟨.speed, rfl, speedRecord_eq _⟩, ⟨.odometer, rfl, rfl⟩, ⟨.eCmd, rfl, rfl⟩,
      ⟨.heldDirection, rfl, single_directionCode _⟩, ⟨.unitSlip 0, rfl, rfl⟩, ⟨.unitSlip 1, rfl, rfl⟩,
      ⟨.unitSlip 2, rfl, rfl⟩, ⟨.unitSlip 3, rfl, rfl⟩, ⟨.vigilance, rfl, rfl⟩, ⟨.indications, rfl, flag1_three _ _ _⟩,
      ⟨.curveBanks, rfl, flag1_two _ _⟩, ⟨.allocationBanks, rfl, flag1_two _ _⟩, ⟨.route .tramNumber, rfl, rfl⟩,
      ⟨.route .confirmTimeout, rfl, rfl⟩, ⟨.route .shortRetries, rfl, rfl⟩, ⟨.route .defaultCap, rfl, rfl⟩,
      ⟨.route .proceedCap, rfl, rfl⟩, ⟨.route .defaultClearance, rfl, rfl⟩,
      ⟨.route .noMatch, rfl, single_noMatchCode _⟩, ⟨.requestSeq, rfl, rfl⟩, ⟨.routeNumber, rfl, rfl⟩,
      ⟨.track .rxGood, rfl, rfl⟩, ⟨.track .rxBad, rfl, rfl⟩, ⟨.track .collide, rfl, rfl⟩, ⟨.track .txSent, rfl, rfl⟩,
      ⟨.track .retry, rfl, rfl⟩, ⟨.track .rollover, rfl, singleFlag_eq _⟩,
      ⟨.transceiver, rfl, single_transceiverCode _⟩, ⟨.linkCondition, rfl, single_linkCode _⟩, ⟨.failureRun, rfl, rfl⟩,
      ⟨.slotOccupied, rfl, singleFlag_eq _⟩, ⟨.doorState, rfl, single_doorCode _⟩,
      ⟨.releasedSides, rfl, single_sidesCode _⟩, ⟨.stopImage, rfl, rfl⟩, ⟨.armedFlags, rfl, rfl⟩,
      ⟨.doorView, rfl, doorViewRecord_eq _⟩, ⟨.doorsMark, rfl, singleFlag_eq _⟩, ⟨.doorCommandId, rfl, rfl⟩,
      ⟨.stopDisplayId, rfl, rfl⟩, ⟨.binding .brake, rfl, rfl⟩, ⟨.binding .door, rfl, rfl⟩, ⟨.binding .stop, rfl, rfl⟩,
      ⟨.pattern .stop, rfl, rfl⟩, ⟨.pattern .assist, rfl, rfl⟩, ⟨.pattern .doorClosing, rfl, rfl⟩,
      ⟨.pattern .vigil, rfl, rfl⟩, ⟨.pattern .driverBell, rfl, rfl⟩, ⟨.pattern .emergHorn, rfl, rfl⟩,
      ⟨.directHorn, rfl, directRecord_eq _⟩, ⟨.notifyEnable 0, rfl, singleFlag_eq _⟩,
      ⟨.notifyEnable 1, rfl, singleFlag_eq _⟩, ⟨.notifyEnable 2, rfl, singleFlag_eq _⟩,
      ⟨.notifyEnable 3, rfl, singleFlag_eq _⟩, ⟨.notifyDest 0, rfl, rfl⟩, ⟨.notifyDest 1, rfl, rfl⟩,
      ⟨.notifyDest 2, rfl, rfl⟩, ⟨.notifyDest 3, rfl, rfl⟩, ⟨.notifyMap, rfl, single_mapCode _⟩,
      ⟨.operatingMode, rfl, Control.modeRecord_eq _⟩, ⟨.nodeAddress, rfl, singleOption_toNat _⟩⟩
  · by_cases h : n < 128
    · simp only [Item.ofNumber_slot h]
      simp
      omega
    · rw [Ne, Item.ofNumber_eq_none_iff h]
      simp only [itemRows, portItems, List.forall_mem_cons, List.length_cons, List.length_nil, List.not_mem_nil,
        IsEmpty.forall_iff, implies_true, and_true]
      omega

end Sys2Proof.Machine
end

section
/-! SUPPORT. The stop request unit (chapter 8): STOP_DISPLAY, a registration, the button update treated source by
source, the slots' events, DOORS and the door buttons; with the statement about them. -/

namespace Sys2Proof.Machine

variable {s t u : State}

/-! ### STOP_DISPLAY (R148) -/

theorem bits1_two (a b : Bool) :
    bits1 [a, b] = [BitVec.ofNat 8 ((if a then 1 else 0) + (if b then 2 else 0))] := by
  cases a <;> cases b <;> rfl

@[simp] theorem State.reportStops_sru (s : State) (old : List StopEntry) : (s.reportStops old).sru = s.sru := by
  unfold State.reportStops State.sendStopDisplay
  split
  · rfl
  · exact State.publish_sru ..

theorem State.reportStops_eq (s : State) (old : List StopEntry) :
    s.reportStops old =
      if stopRequested s.sru.list = stopRequested old ∧ assistRequested s.sru.list = assistRequested old then s
      else s.publish s.sru.stopDisplayId
        [BitVec.ofNat 8 ((if stopRequested s.sru.list then 1 else 0) +
          (if assistRequested s.sru.list then 2 else 0))] := by
  rw [State.reportStops, State.sendStopDisplay, stopDisplayPayload, bits1_two]
  refine if_congr ?_ rfl rfl
  rw [Bool.and_eq_true_iff, beq_iff_eq, beq_iff_eq]
  exact and_congr eq_comm eq_comm

/-! ### A registration (R146, R147) -/

/-- The entry that a registration of a source appends. -/
def State.stopEntry (s : State) (n : Nat) : StopEntry := ⟨n, (s.sru.sources.getD n {}).kind, s.tdu.periodCount⟩

theorem State.stopEntry_of_source {n : Nat} {e : StopSource} (h : s.sru.sources[n]? = some e) :
    s.stopEntry n = ⟨n, e.kind, s.tdu.periodCount⟩ := by
  simp [State.stopEntry, List.getD, h]

/-- The state with the entry of a source appended. -/
def State.withStop (s : State) (n : Nat) : State :=
  s.withSru { s.sru with list := s.sru.list ++ [s.stopEntry n] }

/-- A source is listed. -/
def State.listed (s : State) (n : Nat) : Prop := ∃ x ∈ s.sru.list, x.source = n

theorem State.listed_iff (s : State) (n : Nat) : s.sru.list.any (·.source == n) = true ↔ s.listed n := by
  simp [State.listed]

theorem State.registerSource_of_listed {n : Nat} (h : s.listed n) : s.registerSource n = s :=
  if_pos ((s.listed_iff n).mpr h)

theorem State.registerSource_of_new {n : Nat} (h : ¬ s.listed n) :
    s.registerSource n =
      ((s.withStop n).firstEntry (s.sru.sources.getD n {}).kind s.sru.list).reportStops s.sru.list :=
  if_neg (mt (s.listed_iff n).mp h)

theorem State.firstEntry_of_firstNormal (s : State) {l : List StopEntry} (h : l = []) :
    s.firstEntry .normal l = (s.soundRequest .chime ⟨s.ssq.items.stopPat, .stops, 0⟩).setFlag .stopFirst :=
  if_pos (by rw [h]; rfl)

theorem State.firstEntry_of_laterNormal (s : State) {l : List StopEntry} (h : l ≠ []) : s.firstEntry .normal l = s :=
  if_neg (mt List.isEmpty_iff.mp h)

theorem State.firstEntry_of_firstAssist (s : State) {l : List StopEntry} (h : assistRequested l = false) :
    s.firstEntry .assist l = (s.soundRequest .chime ⟨s.ssq.items.assistPat, .stops, 0⟩).setFlag .assistFirst :=
  if_neg (by rw [h]; decide)

theorem State.firstEntry_of_laterAssist (s : State) {l : List StopEntry} (h : assistRequested l = true) :
    s.firstEntry .assist l = s := if_pos h

theorem State.firstEntry_sru (s : State) (k : StopKind) (l : List StopEntry) : (s.firstEntry k l).sru = s.sru := by
  cases k with
  | normal =>
    unfold State.firstEntry
    dsimp only
    split <;> simp
  | assist =>
    unfold State.firstEntry
    dsimp only
    split <;> simp

theorem State.registerSource_sru_of_new {n : Nat} (h : ¬ s.listed n) :
    (s.registerSource n).sru = { s.sru with list := s.sru.list ++ [s.stopEntry n] } := by
  rw [State.registerSource_of_new h, State.reportStops_sru, State.firstEntry_sru]
  rfl

/-- A registration keeps the sources and the armed flags, and appends at most the source's entry. -/
theorem State.registerSource_sru (s : State) (n : Nat) :
    ∃ l, (s.registerSource n).sru = { s.sru with list := l } ∧ s.sru.list <+: l ∧ (∃ x ∈ l, x.source = n) ∧
      ∀ x ∈ l, x ∈ s.sru.list ∨ x = s.stopEntry n := by
  by_cases h : s.listed n
  · rw [State.registerSource_of_listed h]
    exact ⟨s.sru.list, rfl, List.prefix_rfl, h, fun x hx => .inl hx⟩
  · refine ⟨_, State.registerSource_sru_of_new h, List.prefix_append _ _, ⟨s.stopEntry n, by simp, rfl⟩, fun x hx => ?_⟩
    simpa using hx

/-- A first NORMAL entry into an empty list sets STOP_FIRST. -/
theorem State.registerSource_stopFirst {n : Nat} (hk : (s.sru.sources.getD n {}).kind = .normal)
    (hl : s.sru.list = []) :
    (s.registerSource n).efn.isSet .stopFirst = true := by
  have hnew : ¬ s.listed n := by simp [State.listed, hl]
  rw [State.registerSource_of_new hnew, hk, State.firstEntry_of_firstNormal _ hl]
  exact (State.sends_reportStops _ _).serves.isSet (State.setFlag_isSet _ _)

/-- A first ASSIST entry sets ASSIST_FIRST. -/
theorem State.registerSource_assistFirst {n : Nat} (hk : (s.sru.sources.getD n {}).kind = .assist) (hnew : ¬ s.listed n)
    (hl : assistRequested s.sru.list = false) : (s.registerSource n).efn.isSet .assistFirst = true := by
  rw [State.registerSource_of_new hnew, hk]
  refine (State.sends_reportStops _ _).serves.isSet ?_
  rw [State.firstEntry_of_firstAssist _ hl]
  exact State.setFlag_isSet _ _

/-! ### One source of an update (R142) -/

/-- The update `image` registers the source: its input is active, and it is enabled and armed. -/
def State.registers (s : State) (image : Word) (n : Nat) : Prop :=
  image.getLsbD n = true ∧ (s.sru.sources.getD n {}).enabled = true ∧ s.sru.armed.getLsbD n = true

theorem State.treatSource_of_released {image : Word} {n : Nat} (h : image.getLsbD n = false) :
    State.treatSource image s n = s.withArmed n true := by
  rw [State.treatSource, h]
  rfl

theorem State.treatSource_of_registers {image : Word} {n : Nat} (h : s.registers image n) :
    State.treatSource image s n = (s.registerSource n).withArmed n false := by
  obtain ⟨hi, he, ha⟩ := h
  rw [State.treatSource, hi, he, ha]
  rfl

theorem State.treatSource_of_other {image : Word} {n : Nat} (hi : image.getLsbD n = true) (h : ¬ s.registers image n) :
    State.treatSource image s n = s := by
  have hea : ((s.sru.sources.getD n {}).enabled && s.sru.armed.getLsbD n) = false := by
    rw [← Bool.not_eq_true, Bool.and_eq_true_iff]
    exact fun hx => h ⟨hi, hx⟩
  rw [State.treatSource, hi, hea]
  rfl

theorem State.withArmed_getLsbD (s : State) {n : Nat} (hn : n < 32) (b : Bool) (m : Nat) :
    (s.withArmed n b).sru.armed.getLsbD m = if m = n then b else s.sru.armed.getLsbD m := by
  have hm : m = n → m < 32 := fun h => h ▸ hn
  change (if b then s.sru.armed ||| BitVec.twoPow 32 n else s.sru.armed &&& ~~~ BitVec.twoPow 32 n).getLsbD m = _
  by_cases h : m = n
  · subst h
    cases b <;> simp [hn]
  · cases b
    · by_cases hlt : m < 32
      · simp [h, hlt]
      · simp [h, BitVec.getLsbD_of_ge _ _ (Nat.not_lt.mp hlt)]
    · simp [BitVec.getLsbD_twoPow, h, Ne.symm h]

/-! ### The sources of an update, one after another -/

/-- The first `k` sources of an update treated. -/
def State.treated (s : State) (image : Word) (k : Nat) : State := (List.range k).foldl (State.treatSource image) s

theorem State.treated_succ (s : State) (image : Word) (k : Nat) :
    s.treated image (k + 1) = State.treatSource image (s.treated image k) k := by
  rw [State.treated, List.range_succ, List.foldl_append]
  rfl

theorem State.serves_treated (s : State) (image : Word) {j k : Nat} (h : j ≤ k) :
    (s.treated image j).Serves (s.treated image k) := by
  induction k, h using Nat.le_induction with
  | base => exact .refl _
  | succ k _ ih =>
    rw [State.treated_succ]
    exact ih.treatSource image k

/-- What the first `k` sources of an update have done: each of them that was to be registered is listed and disarmed,
each whose input is released is armed, and nothing else has changed in the list and the armed flags. -/
structure State.TreatedTo (s : State) (image : Word) (k : Nat) (u : State) : Prop where
  serves : s.Serves u
  sources : u.sru.sources = s.sru.sources
  armed : ∀ n < k, u.sru.armed.getLsbD n =
    (!image.getLsbD n || (s.sru.armed.getLsbD n && !(s.sru.sources.getD n {}).enabled))
  waiting : ∀ n, k ≤ n → u.sru.armed.getLsbD n = s.sru.armed.getLsbD n
  kept : s.sru.list <+: u.sru.list
  entries : ∀ x ∈ u.sru.list, x ∈ s.sru.list ∨ ∃ n < k, s.registers image n ∧ x = s.stopEntry n
  listed : ∀ n < k, s.registers image n → u.listed n
  assist : assistRequested s.sru.list = false → assistRequested u.sru.list = true → u.efn.isSet .assistFirst = true

theorem State.TreatedTo.zero (s : State) (image : Word) : s.TreatedTo image 0 s where
  serves := .refl s
  sources := rfl
  armed := fun _ h => absurd h (Nat.not_lt_zero _)
  waiting := fun _ _ => rfl
  kept := List.prefix_rfl
  entries := fun _ h => .inl h
  listed := fun _ h => absurd h (Nat.not_lt_zero _)
  assist := fun h h' => by rw [h] at h'; cases h'

theorem State.TreatedTo.stopEntry {image : Word} {k : Nat} (h : s.TreatedTo image k u) (n : Nat) :
    u.stopEntry n = s.stopEntry n := by
  rw [State.stopEntry, State.stopEntry, h.sources, h.serves.same.tdu]
  rfl

/-- A source that has not been treated is registered as the update found it. -/
theorem State.TreatedTo.registers_iff {image : Word} {k : Nat} (h : s.TreatedTo image k u) :
    u.registers image k ↔ s.registers image k := by
  rw [State.registers, State.registers, h.sources, h.waiting k le_rfl]

/-- The source that is treated next leaves its armed flag as the update says, and the other sources' as they are. -/
theorem State.TreatedTo.armed_succ {image : Word} {k : Nat} (h : s.TreatedTo image k u) {a : Word}
    (hk : a.getLsbD k = (!image.getLsbD k || (s.sru.armed.getLsbD k && !(s.sru.sources.getD k {}).enabled)))
    (ho : ∀ n, n ≠ k → a.getLsbD n = u.sru.armed.getLsbD n) :
    (∀ n < k + 1, a.getLsbD n =
      (!image.getLsbD n || (s.sru.armed.getLsbD n && !(s.sru.sources.getD n {}).enabled))) ∧
      ∀ n, k + 1 ≤ n → a.getLsbD n = s.sru.armed.getLsbD n := by
  refine ⟨fun n hn => ?_, fun n hn => (ho n (by omega)).trans (h.waiting n (by omega))⟩
  by_cases hnk : n = k
  · rw [hnk]
    exact hk
  · exact (ho n hnk).trans (h.armed n (by omega))

theorem State.TreatedTo.entries_succ {image : Word} {k : Nat} (h : s.TreatedTo image k u) :
    ∀ x ∈ u.sru.list, x ∈ s.sru.list ∨ ∃ n < k + 1, s.registers image n ∧ x = s.stopEntry n := fun x hx =>
  (h.entries x hx).imp_right fun ⟨n, hn, hx⟩ => ⟨n, Nat.lt_succ_of_lt hn, hx⟩

/-- A source that is not registered changes nothing in the list. -/
theorem State.TreatedTo.listed_succ {image : Word} {k : Nat} (h : s.TreatedTo image k u) (hk : ¬ s.registers image k) :
    ∀ n < k + 1, s.registers image n → u.listed n := fun n hn hr =>
  h.listed n (Nat.lt_of_le_of_ne (Nat.le_of_lt_succ hn) fun hnk => hk (hnk ▸ hr)) hr

theorem State.TreatedTo.released {image : Word} {k : Nat} (h : s.TreatedTo image k u) (hk : k < 32)
    (hi : image.getLsbD k = false) : s.TreatedTo image (k + 1) (u.withArmed k true) := by
  obtain ⟨harmed, hwait⟩ := h.armed_succ (a := (u.withArmed k true).sru.armed)
    (by rw [State.withArmed_getLsbD u hk, if_pos rfl, hi]; rfl)
    (fun n hn => by rw [State.withArmed_getLsbD u hk, if_neg hn])
  have hout : ¬ s.registers image k := fun hr => by rw [hr.1] at hi; cases hi
  exact ⟨h.serves.withSru _, h.sources, harmed, hwait, h.kept, h.entries_succ, h.listed_succ hout, h.assist⟩

theorem State.TreatedTo.other {image : Word} {k : Nat} (h : s.TreatedTo image k u) (hi : image.getLsbD k = true)
    (hout : ¬ s.registers image k) : s.TreatedTo image (k + 1) u := by
  have harm : u.sru.armed.getLsbD k =
      (!image.getLsbD k || (s.sru.armed.getLsbD k && !(s.sru.sources.getD k {}).enabled)) := by
    rw [h.waiting k le_rfl, hi]
    cases ha : s.sru.armed.getLsbD k with
    | false => rfl
    | true =>
      cases he : (s.sru.sources.getD k {}).enabled with
      | false => rfl
      | true => exact absurd ⟨hi, he, ha⟩ hout
  obtain ⟨harmed, hwait⟩ := h.armed_succ harm fun _ _ => rfl
  exact ⟨h.serves, h.sources, harmed, hwait, h.kept, h.entries_succ, h.listed_succ hout, h.assist⟩

/-- A registration that lists an ASSIST entry where there was none sets ASSIST_FIRST. -/
theorem State.registerSource_assist (n : Nat) (hl : assistRequested s.sru.list = false)
    (h : assistRequested (s.registerSource n).sru.list = true) :
      (s.registerSource n).efn.isSet .assistFirst = true := by
  by_cases hnew : s.listed n
  · rw [State.registerSource_of_listed hnew, hl] at h
    cases h
  · rw [State.registerSource_sru_of_new hnew] at h
    have hk : (s.sru.sources.getD n {}).kind = .assist := by
      simpa [assistRequested, List.any_append, State.stopEntry, show s.sru.list.any (·.kind == .assist) = false from hl]
        using h
    exact State.registerSource_assistFirst hk hnew hl

theorem State.TreatedTo.registered {image : Word} {k : Nat} (h : s.TreatedTo image k u) (hk : k < 32)
    (hr : s.registers image k) : s.TreatedTo image (k + 1) ((u.registerSource k).withArmed k false) := by
  obtain ⟨l, hsru, hpre, hin, hl⟩ := u.registerSource_sru k
  have hserves := (h.serves.registerSource k).withSru
  obtain ⟨harmed, hwait⟩ := h.armed_succ (a := ((u.registerSource k).withArmed k false).sru.armed)
    (by obtain ⟨hi, he, ha⟩ := hr; rw [State.withArmed_getLsbD _ hk, if_pos rfl, hi, he, ha]; rfl)
    (fun n hn => by rw [State.withArmed_getLsbD _ hk, if_neg hn, hsru])
  have hlist : ((u.registerSource k).withArmed k false).sru.list = l := congrArg StopUnit.list hsru
  refine ⟨hserves _, (congrArg StopUnit.sources hsru).trans h.sources, harmed, hwait, ?_, ?_, fun n hn hrn => ?_, ?_⟩
  · rw [hlist]
    exact h.kept.trans hpre
  · rw [hlist]
    intro x hx
    obtain hx | hx := hl x hx
    · exact h.entries_succ x hx
    · exact .inr ⟨k, Nat.lt_succ_self k, hr, hx.trans (h.stopEntry k)⟩
  · rw [State.listed, hlist]
    by_cases hnk : n = k
    · rw [hnk]
      exact hin
    · obtain ⟨x, hx, hxn⟩ := h.listed n (by omega) hrn
      exact ⟨x, hpre.subset hx, hxn⟩
  · intro hnone hsome
    cases hu : assistRequested u.sru.list with
    | false => exact State.registerSource_assist k hu hsome
    | true => exact ((State.Serves.refl u).registerSource k).isSet (h.assist hnone hu)

/-- The invariant of the update's sources, by induction on how many have been treated. -/
theorem State.treatedTo_treated (s : State) (image : Word) (k : Nat) (hk : k ≤ 32) :
    s.TreatedTo image k (s.treated image k) := by
  induction k with
  | zero => exact .zero s image
  | succ k ih =>
    have h := ih (by omega)
    rw [State.treated_succ]
    cases hi : image.getLsbD k with
    | false =>
      rw [State.treatSource_of_released hi]
      exact h.released (by omega) hi
    | true =>
      by_cases hr : s.registers image k
      · rw [State.treatSource_of_registers (h.registers_iff.mpr hr)]
        exact h.registered (by omega) hr
      · rw [State.treatSource_of_other hi (mt h.registers_iff.mp hr)]
        exact h.other hi hr

/-- A source that is registered into an empty list, with none registered before it, sets STOP_FIRST if it is NORMAL. -/
theorem State.treated_stopFirst {image : Word} {n : Nat} (hn : n < 32) (hr : s.registers image n)
    (hk : (s.sru.sources.getD n {}).kind = .normal) (hl : s.sru.list = []) (hfirst : ∀ m < n, ¬ s.registers image m) :
    (s.treated image 32).efn.isSet .stopFirst = true := by
  have h := s.treatedTo_treated image n (by omega)
  have hempty : (s.treated image n).sru.list = [] := by
    refine List.eq_nil_iff_forall_not_mem.mpr fun x hx => ?_
    obtain hx | ⟨m, hm, hrm, -⟩ := h.entries x hx
    · rw [hl] at hx
      cases hx
    · exact hfirst m hm hrm
  refine (s.serves_treated image (Nat.succ_le_of_lt hn)).isSet ?_
  rw [State.treated_succ, State.treatSource_of_registers (h.registers_iff.mpr hr)]
  exact State.registerSource_stopFirst (by rw [h.sources]; exact hk) hempty

/-! ### The button update (R142, R143) -/

theorem State.stopButtons_of_serving {image : Word} (ha : s.mcr.mode.active = true) (hd : s.sru.door ≠ .released) :
    s.stopButtons image = (s.treated image 32).withSru { (s.treated image 32).sru with image := image } := by
  rw [State.stopButtons, ha, if_neg hd]
  rfl

theorem State.stopButtons_of_released {image : Word} (ha : s.mcr.mode.active = true) (hd : s.sru.door = .released) :
    s.stopButtons image = s.withSru { s.sru with armed := ~~~ image, image := image } := by
  rw [State.stopButtons, ha, if_pos hd]
  rfl

theorem State.stopButtons_of_inactive {image : Word} (ha : s.mcr.mode.active = false) :
    s.stopButtons image = s.withSru { s.sru with armed := s.sru.armed ||| ~~~ image, image := image } := by
  rw [State.stopButtons, ha]
  rfl

/-! ### The slots' events (R33, R34, R153) -/

theorem State.slotEvent_of_stop {i : Nat} (hs : s.sgt.stopSlot = some i) (hd : s.sgt.doorSlot ≠ some i) :
    s.slotEvent i = s.stopSlotEvent (some i) := by
  rw [State.slotEvent, if_neg hd, if_pos hs]

theorem State.slotEvent_of_door {i : Nat} (hd : s.sgt.doorSlot = some i) (hs : s.sgt.stopSlot ≠ some i) :
    s.slotEvent i = s.doorSlotEvent (some i) := by
  rw [State.slotEvent, if_pos hd, if_neg hs]

theorem State.slotEvent_of_unbound {i : Nat} (hd : s.sgt.doorSlot ≠ some i) (hs : s.sgt.stopSlot ≠ some i) :
    s.slotEvent i = s := by
  rw [State.slotEvent, if_neg hd, if_neg hs]

theorem SignalTable.isFresh_of_fresh {x : SignalTable} {i : Nat} (h : (x.slot i).state = .fresh) :
    x.isFresh (some i) = true := (SignalTable.isFresh_iff rfl).mpr h

theorem SignalTable.isFresh_of_not {x : SignalTable} {i : Nat} (h : (x.slot i).state ≠ .fresh) :
    x.isFresh (some i) = false := by
  rw [← Bool.not_eq_true]
  exact mt (SignalTable.isFresh_iff rfl).mp h

theorem readDoors_eq {b : Byte} {closed locked : Bool}
    (hc : closed = true ↔ b.getLsbD 0 = true ∧ b.getLsbD 2 = false ∧ b.getLsbD 3 = false)
    (hl : locked = true ↔ closed = true ∧ b.getLsbD 1 = true) : readDoors b = ⟨closed, locked⟩ := by
  have hclosed : (b.getLsbD 0 && !b.getLsbD 2 && !b.getLsbD 3) = closed := by
    rw [Bool.eq_iff_iff, hc]
    simp [and_assoc]
  have hlocked : (closed && b.getLsbD 1) = locked := by
    rw [Bool.eq_iff_iff, hl, Bool.and_eq_true_iff]
  rw [readDoors, hclosed, hlocked]

theorem State.doorSummary_of_closing {v : DoorView} (hd : s.sru.door = .closing) (hv : (v.closed && v.locked) = true) :
    s.doorSummary v = (s.withSru { s.sru with view := some v, door := .closedLocked }).doorsTest := by
  rw [State.doorSummary, if_pos ⟨hd, hv⟩]

theorem State.doorSummary_of_other {v : DoorView} (h : ¬ (s.sru.door = .closing ∧ (v.closed && v.locked) = true)) :
    s.doorSummary v = (s.withSru { s.sru with view := some v }).doorsTest := by
  rw [State.doorSummary, if_neg h]

/-! ### DOORS (R154) -/

theorem doorsShut_iff (v : Option DoorView) : doorsShut v = true ↔ v = some ⟨true, true⟩ := by
  rcases v with _ | ⟨_ | _, _ | _⟩ <;> simp [doorsShut]

theorem StopUnit.doorsCondition_iff (x : StopUnit) :
    x.doorsCondition = true ↔ x.door ≠ .closedLocked ∨ x.view ≠ some ⟨true, true⟩ := by
  rw [StopUnit.doorsCondition, Bool.or_eq_true_iff, bne_iff_ne, Bool.not_eq_true', ← Bool.not_eq_true, doorsShut_iff]

theorem State.doorsTest_of_same (h : s.mcr.mode.active = false ∨ s.sru.mark = s.sru.doorsCondition) :
    s.doorsTest = s := by
  obtain h | h := h
  · rw [State.doorsTest, h]
    rfl
  · rw [State.doorsTest, h]
    cases s.mcr.mode.active <;> cases s.sru.doorsCondition <;> rfl

theorem State.doorsTest_raises (ha : s.mcr.mode.active = true) (hc : s.sru.doorsCondition = true)
    (hm : s.sru.mark = false) : s.doorsTest = (s.withSru { s.sru with mark := true }).raise .doors 0 .hold := by
  rw [State.doorsTest, ha, hc, hm]
  rfl

theorem State.doorsTest_lifts (ha : s.mcr.mode.active = true) (hc : s.sru.doorsCondition = false)
    (hm : s.sru.mark = true) : s.doorsTest = (s.withSru { s.sru with mark := false }).lift .doors 0 := by
  rw [State.doorsTest, ha, hc, hm]
  rfl

/-! ### The door buttons (R149 to R152) -/

theorem State.standstill_of_still (h : s.still) : s.standstill = true := by
  obtain ⟨x, hx, hv⟩ := h
  rw [State.standstill, hx]
  exact decide_eq_true hv

theorem State.stopCancelPress_of_nil (h : s.sru.list = []) : s.stopCancelPress = s := by
  have hsame : s.withSru { s.sru with list := [] } = s := by rw [← h]; rfl
  rw [State.stopCancelPress, hsame, State.reportStops_eq, if_pos ⟨rfl, rfl⟩]

theorem State.stopCancelPress_of_ne_nil (h : s.sru.list ≠ []) :
    s.stopCancelPress = (s.withSru { s.sru with list := [] }).publish s.sru.stopDisplayId [0] := by
  rw [State.stopCancelPress, State.reportStops_eq, if_neg]
  · rfl
  · rintro ⟨hstop, -⟩
    refine h (List.isEmpty_iff.mp ?_)
    rw [← Bool.not_eq_false', ← stopRequested, ← hstop]
    rfl

/-- The sides that a release leaves released: its own, and those already released (R150). -/
theorem Sides.add_eq (x : Sides) (side : Side) (released : Bool) :
    (if released then x else {}).add side =
      ⟨decide (side = .left) || (released && x.left), decide (side = .right) || (released && x.right)⟩ := by
  cases side <;> cases released <;> rfl

/-- Released doors call for DOORS. -/
theorem State.doorsTest_sru_of_released (ha : s.mcr.mode.active = true) (hd : s.sru.door = .released) :
    s.doorsTest.sru = { s.sru with mark := true } := by
  have hc : s.sru.doorsCondition = true := (StopUnit.doorsCondition_iff _).mpr (.inl (by rw [hd]; decide))
  rw [State.doorsTest_sru, if_pos ha, hc]

/-! ### The statement -/

/-- The first clause of O33: an update in a mode that registers, with the doors not released (R142, R146, R147). -/
theorem State.stopButtons_source {image : Word} (ha : s.mcr.mode.active = true) (hd : s.sru.door ≠ .released) {n : Nat}
    (hn : n < 32) :
    (s.stopButtons image).sru.armed.getLsbD n =
        (!image.getLsbD n || (s.sru.armed.getLsbD n && !(s.sru.sources.getD n {}).enabled)) ∧
      ((s.stopButtons image).listed n ↔ s.listed n ∨ s.registers image n) ∧
      (s.registers image n → ¬ s.listed n → s.stopEntry n ∈ (s.stopButtons image).sru.list ∧
        ((s.sru.sources.getD n {}).kind = .assist → assistRequested s.sru.list = false →
          (s.stopButtons image).efn.isSet .assistFirst = true) ∧
        ((s.sru.sources.getD n {}).kind = .normal → s.sru.list = [] → (∀ m < n, ¬ s.registers image m) →
          (s.stopButtons image).efn.isSet .stopFirst = true)) := by
  have h := s.treatedTo_treated image 32 le_rfl
  rw [State.stopButtons_of_serving ha hd]
  refine ⟨h.armed n hn, ⟨fun ⟨x, hx, hxn⟩ => ?_, ?_⟩, fun hr hnew => ?_⟩
  · obtain hx | ⟨m, -, hrm, rfl⟩ := h.entries x hx
    · exact .inl ⟨x, hx, hxn⟩
    · exact .inr (hxn ▸ hrm)
  · rintro (⟨x, hx, hxn⟩ | hr)
    · exact ⟨x, h.kept.subset hx, hxn⟩
    · exact h.listed n hn hr
  · have hentry : s.stopEntry n ∈ (s.treated image 32).sru.list := by
      obtain ⟨x, hx, hxn⟩ := h.listed n hn hr
      obtain hold | ⟨m, -, -, rfl⟩ := h.entries x hx
      · exact absurd ⟨x, hold, hxn⟩ hnew
      · exact hxn ▸ hx
    refine ⟨hentry, fun hk hl => h.assist hl ?_, fun hk hl hfirst => State.treated_stopFirst hn hr hk hl hfirst⟩
    exact List.any_eq_true.mpr ⟨_, hentry, by rw [State.stopEntry, hk]; rfl⟩

/-- Settles O33, clause by clause. -/
theorem buttonsRegisterOnce : Obligations.ButtonsRegisterOnce := by
  refine ⟨fun s image ha hd hlen => ?_, fun s u n e he hu => ⟨State.registerSource_of_listed, fun hnew => ?_⟩,
    fun s image => ⟨State.stopButtons_of_released, State.stopButtons_of_inactive⟩,
    fun s i => ⟨fun hs hd => ⟨fun b3 b2 b1 b0 hf hb => ?_, fun hf => ?_⟩,
      fun hd hs => ⟨fun b closed locked hf hb hc hl => ?_, fun hf => ?_⟩, State.slotEvent_of_unbound⟩,
    fun s calls hcalls => ?_, fun s side l r hm hstill hl hr => ?_, fun s => ⟨fun hd => ?_, fun hd => ?_, fun hd => ?_,
      fun hl => ?_, fun hl => ?_⟩, fun s old stop assist hstop hassist => ?_⟩
  · have h := s.treatedTo_treated image 32 le_rfl
    have heq := State.stopButtons_of_serving (image := image) ha hd
    have bound {n : Nat} {e : StopSource} (he : s.sru.sources[n]? = some e) : n < 32 ∧ s.sru.sources.getD n {} = e :=
      ⟨hlen ▸ (List.getElem?_eq_some_iff.mp he).1, by rw [List.getD, he]; rfl⟩
    refine ⟨by rw [heq]; rfl, by rw [heq]; exact h.sources, fun n e he => ?_, by rw [heq]; exact h.kept⟩
    obtain ⟨hn, rfl⟩ := bound he
    obtain ⟨harmed, hlisted, hnew⟩ := State.stopButtons_source (image := image) ha hd hn
    refine ⟨harmed, hlisted, fun hi hen har hfree => ?_⟩
    obtain ⟨hentry, hassist, hnormal⟩ := hnew ⟨hi, hen, har⟩ fun ⟨x, hx, hxn⟩ => hfree x hx hxn
    refine ⟨hentry, fun hk hl => hassist hk ?_, fun hk hl hfirst => hnormal hk hl fun m hm => ?_⟩
    · simpa [assistRequested] using hl
    · have hlt : m < s.sru.sources.length := by omega
      have hd := List.getElem?_eq_getElem hlt
      have hout := hfirst m _ hm hd
      rwa [← (bound hd).2] at hout
  · have hl : ¬ s.listed n := fun ⟨x, hx, hxn⟩ => hnew x hx hxn
    have hkind : (s.sru.sources.getD n {}).kind = e.kind := by rw [List.getD, he]; rfl
    have heq := State.registerSource_of_new hl
    rw [State.withStop, State.stopEntry_of_source he, ← hu, hkind] at heq
    rw [heq]
    refine ⟨fun hk hl => congrArg (State.reportStops · _) ?_, fun hk hl => congrArg (State.reportStops · _) ?_,
      fun hk => congrArg (State.reportStops · _) ?_⟩
    · rw [hk, hu]
      exact State.firstEntry_of_firstNormal _ hl
    · rw [hk, hu]
      exact State.firstEntry_of_firstAssist _ (by simpa [assistRequested] using hl)
    · obtain ⟨hk, hl⟩ | ⟨hk, hl⟩ := hk
      · rw [hk]
        exact State.firstEntry_of_laterNormal u hl
      · rw [hk]
        exact State.firstEntry_of_laterAssist u (by simpa [assistRequested] using hl)
  · rw [State.slotEvent_of_stop hs hd, State.stopSlotEvent, SignalTable.isFresh_of_fresh hf, hb]
    rfl
  · rw [State.slotEvent_of_stop hs hd, State.stopSlotEvent, SignalTable.isFresh_of_not hf]
    rfl
  · have heq : s.slotEvent i = s.doorSummary ⟨closed, locked⟩ := by
      rw [State.slotEvent_of_door hd hs, State.doorSlotEvent, SignalTable.isFresh_of_fresh hf, hb, ← readDoors_eq hc hl]
      rfl
    refine ⟨fun hclosing hlocked => ?_, fun hother => ?_⟩
    · obtain ⟨rfl, -⟩ := hl.mp hlocked
      subst hlocked
      exact heq.trans (State.doorSummary_of_closing hclosing rfl)
    · refine heq.trans (State.doorSummary_of_other fun ⟨hclosing, hv⟩ => ?_)
      obtain hother | hother := hother
      · exact hother hclosing
      · rw [hother, Bool.and_false] at hv
        cases hv
  · rw [State.slotEvent_of_door hd hs, State.doorSlotEvent, SignalTable.isFresh_of_not hf]
    rfl
  · obtain rfl : calls = s.sru.doorsCondition := by rw [Bool.eq_iff_iff, hcalls, StopUnit.doorsCondition_iff]
    exact ⟨State.doorsTest_of_same, State.doorsTest_raises, State.doorsTest_lifts⟩
  · have hdriving : s.mcr.mode.driving = true := by obtain h | h := hm <;> rw [h] <;> rfl
    have hactive : s.mcr.mode.active = true := by obtain h | h := hm <;> rw [h] <;> rfl
    have hsides : (if s.sru.door = .released then s.sru.sides else {}).add side = ⟨l, r⟩ := by
      rw [hl, hr, ← Sides.add_eq]
      simp
    have hpress : s.doorReleasePress side = s.releaseDoors side := by
      rw [State.doorReleasePress, hdriving, State.standstill_of_still hstill]
      rfl
    rw [hpress, State.releaseDoors, hsides, releasePayload, bits1_two]
    refine ⟨?_, rfl⟩
    rw [State.reportStops_sru, State.doorsTest_sru_of_released]
    · rw [State.publish_sru]
      rfl
    · rw [State.publish_mcr]
      exact hactive
    · rw [State.publish_sru]
      rfl
  · rw [State.doorClosePress, hd]
    dsimp only
    rw [State.publish_ssq]
    rfl
  · rw [State.doorClosePress, hd]
    rfl
  · rw [State.doorClosePress, hd]
  · exact State.stopCancelPress_of_nil hl
  · exact State.stopCancelPress_of_ne_nil hl
  · rw [State.reportStops_eq, hstop, hassist]
    rfl

end Sys2Proof.Machine
end

section
/-! SUPPORT. What the driver works with: the desk chain interface, the traction unit, the mode control and the HORN
level. The line ports, the classifier, the route unit, the track link and the stop request unit leave them as they are
(chapters 1, 2, 6 to 9). -/

namespace Sys2Proof.Machine

/-! ### The cab -/

/-- The blocks that a desk input, a period or a change of mode acts on before all others, with the HORN level as last
delivered (R44). -/
structure Cab where
  desk : Desk
  traction : Traction
  control : Control
  hornLevel : Bool

/-- The cab of the part. -/
def State.cab (s : State) : Cab := ⟨s.dci, s.tdu, s.mcr, s.ssq.hornLevel⟩

section
variable {s t : State}

theorem State.dci_of_cab (h : t.cab = s.cab) : t.dci = s.dci := congrArg Cab.desk h
theorem State.tdu_of_cab (h : t.cab = s.cab) : t.tdu = s.tdu := congrArg Cab.traction h
theorem State.mcr_of_cab (h : t.cab = s.cab) : t.mcr = s.mcr := congrArg Cab.control h
theorem State.hornLevel_of_cab (h : t.cab = s.cab) : t.ssq.hornLevel = s.ssq.hornLevel := congrArg Cab.hornLevel h

theorem State.sameButSent.cab (h : s.sameButSent t) : t.cab = s.cab := by
  unfold State.cab
  rw [h.dci, h.tdu, h.mcr, h.ssq]

end

variable (s : State)

/-! ### One block replaced -/

@[simp] theorem State.cab_withLine (x : LineBlock) : (s.withLine x).cab = s.cab := rfl
@[simp] theorem State.cab_withPort (p : Line) (x : LinePort) : (s.withPort p x).cab = s.cab := rfl
@[simp] theorem State.cab_withFcl (x : Classifier) : (s.withFcl x).cab = s.cab := rfl
@[simp] theorem State.cab_withSgt (x : SignalTable) : (s.withSgt x).cab = s.cab := rfl
@[simp] theorem State.cab_withSlot (i : Nat) (x : Slot) : (s.withSlot i x).cab = s.cab := rfl
@[simp] theorem State.cab_withRsl (x : List Restriction) : (s.withRsl x).cab = s.cab := rfl
@[simp] theorem State.cab_withRtu (x : RouteUnit) : (s.withRtu x).cab = s.cab := rfl
@[simp] theorem State.cab_withQueue (q : List Transaction) : (s.withQueue q).cab = s.cab := rfl
@[simp] theorem State.cab_withAttempt (a : Option Nat) : (s.withAttempt a).cab = s.cab := rfl
@[simp] theorem State.cab_withTlk (x : TrackLink) : (s.withTlk x).cab = s.cab := rfl
@[simp] theorem State.cab_withSru (x : StopUnit) : (s.withSru x).cab = s.cab := rfl
@[simp] theorem State.cab_withArmed (n : Nat) (a : Bool) : (s.withArmed n a).cab = s.cab := rfl
@[simp] theorem State.cab_withEfn (x : Notifier) : (s.withEfn x).cab = s.cab := rfl
@[simp] theorem State.cab_withEnv (x : Environment) : (s.withEnv x).cab = s.cab := rfl
@[simp] theorem State.cab_withPending (x : List Instr) : (s.withPending x).cab = s.cab := rfl
@[simp] theorem State.cab_bumpFree : s.bumpFree.cab = s.cab := rfl

@[simp] theorem State.cab_withSsq {x : Sounder} (h : x.hornLevel = s.ssq.hornLevel) : (s.withSsq x).cab = s.cab := by
  simp [State.cab, h]

@[simp] theorem State.cab_ite {c : Prop} {_ : Decidable c} (s t : State) :
    (if c then s else t).cab = if c then s.cab else t.cab := apply_ite _ _ _ _

/-- Operations that leave the cab leave it one after another. -/
theorem State.cab_foldl {α : Type} {f : State → α → State} (hf : ∀ (u : State) x, (f u x).cab = u.cab) (l : List α) :
    ∀ s : State, (l.foldl f s).cab = s.cab := by
  induction l with
  | nil => exact fun _ => rfl
  | cons x l ih => exact fun s => (ih (f s x)).trans (hf s x)

/-! ### Frames, flags, restrictions -/

@[simp] theorem State.cab_setFlag (f : Flag) : (s.setFlag f).cab = s.cab := (s.setFlag_sameButSent f).cab
@[simp] theorem State.cab_setDrops (fd od : Bool) : (s.setDrops fd od).cab = s.cab := (s.setDrops_sameButSent fd od).cab
@[simp] theorem State.cab_publish (i : Half) (b : List Byte) : (s.publish i b).cab = s.cab :=
  (s.publish_sameButSent i b).cab
@[simp] theorem State.cab_respond (r : Request) (a : Answer) : (s.respond r a).cab = s.cab :=
  (s.respond_sameButSent r a).cab
@[simp] theorem State.cab_sendNotify (c : Nat) : (s.sendNotify c).cab = s.cab := (s.sendNotify_sameButSent c).cab
@[simp] theorem State.cab_judgeChannels (e : Notifier) : (s.judgeChannels e).cab = s.cab :=
  (s.judgeChannels_sameButSent e).cab
@[simp] theorem State.cab_reportChannels : s.reportChannels.cab = s.cab := s.reportChannels_sameButSent.cab
@[simp] theorem State.cab_sendStopDisplay : s.sendStopDisplay.cab = s.cab := s.sendStopDisplay_sameButSent.cab
@[simp] theorem State.cab_reportStops (l : List StopEntry) : (s.reportStops l).cab = s.cab :=
  (s.reportStops_sameButSent l).cab
@[simp] theorem State.cab_raise (src : Source) (key : Half) (k : Restraint) : (s.raise src key k).cab = s.cab :=
  (s.raise_sameButSent src key k).cab
@[simp] theorem State.cab_lift (src : Source) (key : Half) : (s.lift src key).cab = s.cab :=
  (s.lift_sameButSent src key).cab
@[simp] theorem State.cab_releaseTest : s.releaseTest.cab = s.cab := s.releaseTest_sameButSent.cab

/-! ### Sounders (chapter 9): the HORN level is the desk's to deliver -/

@[simp] theorem Sounder.withChannel_hornLevel (q : Sounder) (ch : Channel) (c : SoundChannel) :
    (q.withChannel ch c).hornLevel = q.hornLevel := by cases ch <;> rfl

@[simp] theorem Sounder.startFirst_hornLevel (q : Sounder) (ch : Channel) :
    (q.startFirst ch).hornLevel = q.hornLevel := by
  unfold Sounder.startFirst
  dsimp only
  split <;> simp

@[simp] theorem Sounder.enqueue_hornLevel (q : Sounder) (ch : Channel) (l : List SoundRequest) :
    (q.enqueue ch l).hornLevel = q.hornLevel := by
  unfold Sounder.enqueue
  dsimp only
  split <;> simp

@[simp] theorem Sounder.boundary_hornLevel (q : Sounder) (ch : Channel) (x : Playing) :
    (q.boundary ch x).hornLevel = q.hornLevel := by
  unfold Sounder.boundary
  dsimp only
  split
  · simp
  · split <;> simp

@[simp] theorem Sounder.endDirect_hornLevel (q : Sounder) : q.endDirect.hornLevel = q.hornLevel := by
  unfold Sounder.endDirect
  dsimp only
  split <;> simp

@[simp] theorem Sounder.silenced_hornLevel (q : Sounder) : q.silenced.hornLevel = q.hornLevel := (rfl)

@[simp] theorem State.cab_soundRequest (ch : Channel) (r : SoundRequest) : (s.soundRequest ch r).cab = s.cab := by
  simp [State.soundRequest]

@[simp] theorem State.cab_judgeLoad (ch : Channel) (load : Bool) : (s.judgeLoad ch load).cab = s.cab := by
  simp [State.judgeLoad]

@[simp] theorem State.cab_soundBoundary (ch : Channel) (load : Bool) : (s.soundBoundary ch load).cab = s.cab := by
  unfold State.soundBoundary
  split <;> simp

@[simp] theorem State.cab_hornPress : s.hornPress.cab = s.cab := by simp [State.hornPress]

@[simp] theorem State.cab_hornRelease : s.hornRelease.cab = s.cab := by
  unfold State.hornRelease
  split <;> simp

@[simp] theorem State.cab_hornMinEnd : s.hornMinEnd.cab = s.cab := by
  unfold State.hornMinEnd
  split <;> simp

@[simp] theorem State.cab_hornInterval (load : Bool) : (s.hornInterval load).cab = s.cab := by
  unfold State.hornInterval
  split <;> simp

/-! ### The route unit (chapter 6) -/

@[simp] theorem State.cab_countRetry : s.countRetry.cab = s.cab := by simp [State.countRetry]

@[simp] theorem State.cab_syncJunction (x : Transaction) : (s.syncJunction x).cab = s.cab := by
  unfold State.syncJunction
  split <;> simp

@[simp] theorem State.cab_startAttemptTimer : s.startAttemptTimer.cab = s.cab := rfl

@[simp] theorem State.cab_startAttempt : s.startAttempt.cab = s.cab := by
  unfold State.startAttempt
  split
  · rfl
  · split <;> simp

@[simp] theorem State.cab_makeUnconfirmed (x : Transaction) : (s.makeUnconfirmed x).cab = s.cab := by
  simp [State.makeUnconfirmed]

@[simp] theorem State.cab_failAttempt : s.failAttempt.cab = s.cab := by
  unfold State.failAttempt
  split <;> simp

@[simp] theorem State.cab_removeTransaction (x : Transaction) : (s.removeTransaction x).cab = s.cab := by
  unfold State.removeTransaction
  dsimp only
  split <;> simp

@[simp] theorem State.cab_liftRoute : s.liftRoute.cab = s.cab := by simp [State.liftRoute]

@[simp] theorem State.cab_afterRemoval (old : Option Half) : (s.afterRemoval old).cab = s.cab := by
  unfold State.afterRemoval
  dsimp only
  split <;> simp

@[simp] theorem State.cab_passTransaction (x : Transaction) : (s.passTransaction x).cab = s.cab := by
  simp [State.passTransaction]

@[simp] theorem State.cab_autoBell (j : Half) : (s.autoBell j).cab = s.cab := by
  unfold State.autoBell
  split <;> simp

@[simp] theorem State.cab_announce (j : Half) (d : Nat) : (s.announce j d).cab = s.cab := by
  unfold State.announce
  dsimp only
  cases (s.rtu.newTransaction j d).restraint s.rtu.items <;> simp

@[simp] theorem State.cab_refuseApproach : s.refuseApproach.cab = s.cab := by simp [State.refuseApproach]

@[simp] theorem State.cab_approach (j : Half) (d : Nat) : (s.approach j d).cab = s.cab := by
  unfold State.approach
  split <;> simp

@[simp] theorem State.cab_actOnConfirm (x : Transaction) (d : PointDir) (c : ConfirmState) :
    (s.actOnConfirm x d c).cab = s.cab := by
  cases c <;> simp [State.actOnConfirm]

@[simp] theorem State.cab_confirm (j tram : Half) (q : Byte) (d : PointDir) (c : ConfirmState) :
    (s.confirm j tram q d c).cab = s.cab := by
  unfold State.confirm
  split
  · rfl
  · split <;> simp

@[simp] theorem State.cab_clearJunction (j : Half) : (s.clearJunction j).cab = s.cab := by
  unfold State.clearJunction
  split <;> simp

@[simp] theorem State.cab_deliverTelegram (m : Telegram) : (s.deliverTelegram m).cab = s.cab := by
  cases m <;> simp [State.deliverTelegram]

@[simp] theorem State.cab_linkFaulted : s.linkFaulted.cab = s.cab := by
  simp [State.linkFaulted, State.cab_foldl State.cab_makeUnconfirmed]

@[simp] theorem State.cab_requestSent (q : Byte) : (s.requestSent q).cab = s.cab := by
  unfold State.requestSent
  split <;> simp

@[simp] theorem State.cab_periodDistance (d : Nat) : (s.periodDistance d).cab = s.cab := by
  have judged (u : State) (x : Transaction) : (u.judgeDistance x).cab = u.cab := by simp [State.judgeDistance]
  simp [State.periodDistance, State.cab_foldl judged]

@[simp] theorem State.cab_routeButton (d : PointDir) : (s.routeButton d).cab = s.cab := by
  unfold State.routeButton
  split
  · rfl
  · split <;> simp

@[simp] theorem State.cab_proceedPress : s.proceedPress.cab = s.cab := by
  unfold State.proceedPress
  split
  · rfl
  · split <;> simp

@[simp] theorem State.cab_reversal : s.reversal.cab = s.cab := by
  simp [State.reversal, State.cab_foldl State.cab_removeTransaction]

/-- A route button's press is the route unit's alone (R120, R121). -/
@[simp] theorem State.cab_routePress (i : DeskInput) : (s.routePress i).cab = s.cab := by
  unfold State.routePress
  split <;> simp

/-! ### Stops, doors and slots (chapters 2 and 8) -/

@[simp] theorem State.cab_registerSource (n : Nat) : (s.registerSource n).cab = s.cab := by
  have first (u : State) (k : StopKind) (l : List StopEntry) : (u.firstEntry k l).cab = u.cab := by
    cases k <;> simp [State.firstEntry]
  simp [State.registerSource, first]

@[simp] theorem State.cab_stopButtons (image : Word) : (s.stopButtons image).cab = s.cab := by
  have treated (u : State) (n : Nat) : (State.treatSource image u n).cab = u.cab := by simp [State.treatSource]
  simp [State.stopButtons, State.cab_foldl treated]

@[simp] theorem State.cab_sourceEnabled (n : Nat) : (s.sourceEnabled n).cab = s.cab := by simp [State.sourceEnabled]

@[simp] theorem State.cab_doorsTest : s.doorsTest.cab = s.cab := by
  unfold State.doorsTest
  split
  · rfl
  · split <;> simp

@[simp] theorem State.cab_doorClosePress : s.doorClosePress.cab = s.cab := by
  unfold State.doorClosePress
  split <;> simp

/-- A stop or door button's press is the stop request unit's alone (R149 to R152). -/
@[simp] theorem State.cab_stopPress (i : DeskInput) : (s.stopPress i).cab = s.cab := by
  unfold State.stopPress
  split <;> simp [State.doorReleasePress, State.releaseDoors, State.stopCancelPress]

@[simp] theorem State.cab_doorSlotEvent (b : Option Nat) : (s.doorSlotEvent b).cab = s.cab := by
  unfold State.doorSlotEvent
  split <;> simp [State.doorSummary, State.doorSummaryStale]

@[simp] theorem State.cab_stopSlotEvent (b : Option Nat) : (s.stopSlotEvent b).cab = s.cab := by
  unfold State.stopSlotEvent
  split <;> simp [State.stopButtonsStale]

@[simp] theorem State.cab_slotEvent (i : Nat) : (s.slotEvent i).cab = s.cab := by simp [State.slotEvent]

@[simp] theorem State.cab_classify (f : Frame) : (s.classify f).cab = s.cab := by
  have process : (s.takeProcess f).cab = s.cab := by
    unfold State.takeProcess
    split
    · rfl
    · split <;> simp [State.updateSlot]
  unfold State.classify
  split <;> simp [process, State.takeManage]

@[simp] theorem State.cab_ageSlots : s.ageSlots.cab = s.cab := by
  simp [State.ageSlots, State.cab_foldl State.cab_slotEvent]

/-! ### The track link (chapter 7) and the line ports (chapter 1) -/

@[simp] theorem State.cab_arrivalStart : s.arrivalStart.cab = s.cab := s.arrivalStart_sameButSent.cab

@[simp] theorem State.cab_arrivalEnd (bytes : List Byte) : (s.arrivalEnd bytes).cab = s.cab := by
  have bad (u : State) : u.badTelegram.cab = u.cab := by simp [State.badTelegram]
  have good (u : State) (m : Telegram) : (u.goodTelegram m).cab = u.cab := by simp [State.goodTelegram]
  unfold State.arrivalEnd
  dsimp only
  split
  · simp
  · split
    · rfl
    · cases acceptTelegram bytes <;> simp [bad, good]

@[simp] theorem State.cab_transmissionDone : s.transmissionDone.cab = s.cab := by
  unfold State.transmissionDone
  split <;> simp

@[simp] theorem State.cab_activityExpiry (p : Line) : (s.activityExpiry p).cab = s.cab := by
  unfold State.activityExpiry
  split <;> simp

@[simp] theorem State.cab_handleFrame (p : Line) : (s.handleFrame p).cab = s.cab := by
  unfold State.handleFrame
  split
  · rfl
  · dsimp only
    split <;> simp [State.decideForwarding, State.forwardFrom_eq]

end Sys2Proof.Machine
end

section
/-! SUPPORT. The bounds of efforts (R37, R58, R66): the arithmetic of the stages, and that every operation of the
traction unit, the modes, the desk and the requests keeps E_cmd, the handle, the curves and the traction items within
their ranges; with the statement about every step. -/

namespace Sys2Proof.Machine

/-! ### The arithmetic of the stages (R37, R57, R58, R62, R66) -/

theorem within1000_zero : within1000 0 := by decide

theorem within1000_clampHandle (n : Int) : within1000 (clampHandle n) := by
  unfold within1000 clampHandle
  omega

/-- A truncated part of a difference lies between 0 and the difference. -/
theorem tdiv_part_mem {d a b : Int} (ha : 0 ≤ a) (hab : a ≤ b) :
    min 0 d ≤ Int.tdiv (d * a) b ∧ Int.tdiv (d * a) b ≤ max 0 d := by
  have nonneg (e : Int) (he : 0 ≤ e) : 0 ≤ Int.tdiv (e * a) b ∧ Int.tdiv (e * a) b ≤ e := by
    refine ⟨Int.tdiv_nonneg (Int.mul_nonneg he ha) (ha.trans hab), ?_⟩
    obtain hb | hb := (ha.trans hab).eq_or_lt
    · simpa [← hb] using he
    · rw [Int.tdiv_eq_ediv_of_nonneg (Int.mul_nonneg he ha)]
      exact Int.ediv_le_of_le_mul hb (Int.mul_le_mul_of_nonneg_left hab he)
  obtain hd | hd := Int.le_total 0 d
  · have := nonneg d hd
    omega
  · have := nonneg (-d) (by omega)
    rw [Int.neg_mul, Int.neg_tdiv] at this
    omega

/-- A polyline whose efforts are at most 1000 stays between 0 and 1000 from its first breakpoint on (R58). -/
theorem limbFrom_mem {x : Nat} (limb : List Breakpoint) : ∀ {lo : Breakpoint}, lo.effort ≤ 1000 →
    (∀ b ∈ limb, b.effort ≤ 1000) → lo.speed ≤ x → 0 ≤ limbFrom lo limb x ∧ limbFrom lo limb x ≤ 1000 := by
  induction limb with
  | nil =>
    intro lo hlo _ _
    simp only [limbFrom]
    omega
  | cons hi rest ih =>
    intro lo hlo hall hx
    obtain ⟨hhi, hrest⟩ := List.forall_mem_cons.mp hall
    unfold limbFrom
    split
    · have := tdiv_part_mem (d := (hi.effort : Int) - lo.effort) (a := (x : Int) - lo.speed)
        (b := (hi.speed : Int) - lo.speed) (by omega) (by omega)
      omega
    · exact ih hhi hrest (by omega)

theorem evalLimb_le {limb : List Breakpoint} (h : ∀ b ∈ limb, b.effort ≤ 1000) (x : Nat) : evalLimb limb x ≤ 1000 := by
  cases limb with
  | nil => exact Nat.zero_le _
  | cons b rest =>
    obtain ⟨hb, hrest⟩ := List.forall_mem_cons.mp h
    rw [evalLimb]
    split
    · exact hb
    · have := limbFrom_mem rest hb hrest (x := x) (by omega)
      omega

/-- Handle and limb give a target within the range (R57). -/
theorem within1000_part {h : Int} {e : Nat} (hh : within1000 h) (he : e ≤ 1000) :
    within1000 (Int.tdiv (h * e) 1000) := by
  have := tdiv_part_mem (d := h) (a := e) (b := 1000) (by omega) (by omega)
  unfold within1000 at hh ⊢
  omega

/-- What of the traction unit State.EffortBounded speaks of. -/
def Traction.Bounded (t : Traction) : Prop :=
  within1000 t.eCmd ∧ within1000 t.inputs.handle ∧ t.curveActive.Bounded ∧ t.curveShadow.Bounded ∧ t.items.InRange

theorem Traction.Bounded.limbAt {t : Traction} (h : t.Bounded) (limb : Limb) (x : Nat) : t.limbAt limb x ≤ 1000 := by
  obtain ⟨-, -, ⟨hpower, hbrake⟩, -, -⟩ := h
  unfold Traction.limbAt
  split
  · cases limb
    · exact evalLimb_le hpower x
    · exact evalLimb_le hbrake x
  · exact Nat.zero_le _

/-- E_target after stage 1 is within the range (R57). -/
theorem Traction.Bounded.request {t : Traction} (h : t.Bounded) : within1000 t.request.1 := by
  have hhandle : within1000 t.inputs.handle := h.2.1
  unfold Traction.request
  dsimp only
  split
  · split
    · exact within1000_zero
    · exact within1000_part hhandle (h.limbAt _ _)
  · split
    · have := within1000_part (h := t.inputs.handle.natAbs) (by unfold within1000 at *; omega)
        (h.limbAt .brake t.curveSpeed)
      unfold within1000 at this ⊢
      omega
    · exact within1000_zero

/-- E_target after stage 2 is within the range (R62). -/
theorem within1000_cutBack {items : TractionItems} (h : items.InRange) (speed : Option Speed) (y : Summary)
    {target : Int} (ht : within1000 target) : within1000 (cutBack items speed y target) := by
  obtain ⟨-, hemerg, hhold, henforce, -⟩ := h
  unfold cutBack within1000 at *
  repeat' split
  all_goals omega

/-- The new E_cmd is within the range (R66). -/
theorem within1000_limitJerk {items : TractionItems} (h : items.InRange) (emergency : Bool) {old target : Int}
    (ho : within1000 old) (ht : within1000 target) : within1000 (limitJerk items emergency old target) := by
  obtain ⟨-, hemerg, -⟩ := h
  unfold limitJerk within1000 at *
  dsimp only
  repeat' split
  all_goals omega

/-! ### One block replaced -/

variable {s t u : State}

theorem State.effortBounded_iff (s : State) : s.EffortBounded ↔ s.tdu.Bounded ∧ within1000 s.dci.handle := by
  unfold State.EffortBounded Traction.Bounded
  tauto

theorem State.EffortBounded.tdu (h : s.EffortBounded) : s.tdu.Bounded := (s.effortBounded_iff.mp h).1

theorem State.EffortBounded.handle (h : s.EffortBounded) : within1000 s.dci.handle := (s.effortBounded_iff.mp h).2

/-- A change that keeps the traction unit within the ranges and leaves the desk. -/
theorem State.EffortBounded.of_tdu (h : s.EffortBounded) (ht : s.tdu.Bounded → t.tdu.Bounded) (hd : t.dci = s.dci) :
    t.EffortBounded :=
  t.effortBounded_iff.mpr ⟨ht h.tdu, hd ▸ h.handle⟩

theorem State.EffortBounded.of_cab (h : s.EffortBounded) (hc : t.cab = s.cab) : t.EffortBounded :=
  h.of_tdu (State.tdu_of_cab hc ▸ id) (State.dci_of_cab hc)

theorem State.EffortBounded.withTdu (h : s.EffortBounded) {x : Traction} (hx : s.tdu.Bounded → x.Bounded) :
    (s.withTdu x).EffortBounded := h.of_tdu hx rfl

theorem State.EffortBounded.withDci (h : s.EffortBounded) {x : Desk} (hx : within1000 x.handle) :
    (s.withDci x).EffortBounded := State.effortBounded_iff _ |>.mpr ⟨h.tdu, hx⟩

theorem State.EffortBounded.withMcr (h : s.EffortBounded) (x : Control) : (s.withMcr x).EffortBounded :=
  h.of_tdu id rfl

theorem State.EffortBounded.withSsq (h : s.EffortBounded) (x : Sounder) : (s.withSsq x).EffortBounded :=
  h.of_tdu id rfl

theorem State.EffortBounded.ite {c : Prop} {_ : Decidable c} (h : s.EffortBounded) (k : t.EffortBounded) :
    (if c then s else t).EffortBounded := by
  split
  · exact h
  · exact k

theorem State.EffortBounded.raise (h : s.EffortBounded) (src : Source) (key : Half) (k : Restraint) :
    (s.raise src key k).EffortBounded := h.of_cab (s.cab_raise src key k)

theorem State.EffortBounded.lift (h : s.EffortBounded) (src : Source) (key : Half) : (s.lift src key).EffortBounded :=
  h.of_cab (s.cab_lift src key)

theorem State.EffortBounded.setFlag (h : s.EffortBounded) (f : Flag) : (s.setFlag f).EffortBounded :=
  h.of_cab (s.cab_setFlag f)

/-! ### The traction unit (chapter 4) -/

theorem State.EffortBounded.withMarks (h : s.EffortBounded) (m : Marks) : (s.withMarks m).EffortBounded :=
  h.withTdu (by exact id)

theorem State.EffortBounded.findSpeed (h : s.EffortBounded) : s.findSpeed.EffortBounded := by
  rw [s.findSpeed_eq]
  exact h.withTdu (by exact id)

theorem State.EffortBounded.superviseSpeed (h : s.EffortBounded) : s.superviseSpeed.EffortBounded :=
  h.of_tdu (by rw [State.superviseSpeed_tdu]; exact id) s.superviseSpeed_sameButSent.dci

theorem State.EffortBounded.evaluateSpeed (h : s.EffortBounded) : s.evaluateSpeed.1.EffortBounded := by
  unfold State.evaluateSpeed State.advanceOdometer
  split
  · exact h.findSpeed.superviseSpeed
  · exact h.findSpeed.superviseSpeed.withTdu (by exact id)

theorem State.EffortBounded.settleDirection (h : s.EffortBounded) : s.settleDirection.1.EffortBounded := by
  unfold State.settleDirection
  dsimp only
  split
  · exact h.withTdu (by exact id)
  · split
    · split
      · exact h.withTdu (by exact id)
      · exact h.withTdu (by exact id)
    · split
      · exact (h.withTdu (by exact id)).setFlag _
      · exact h.withTdu (by exact id)

theorem State.EffortBounded.judgeBrake (h : s.EffortBounded) : s.judgeBrake.EffortBounded :=
  h.of_tdu (by rw [State.judgeBrake_tdu]; exact id) s.judgeBrake_sameButSent.dci

theorem State.EffortBounded.releaseTest (h : s.EffortBounded) : s.releaseTest.EffortBounded :=
  h.of_cab s.cab_releaseTest

/-- Stages 3 and 4 from a target within the range (R66). -/
theorem State.EffortBounded.finishPeriod (h : s.EffortBounded) (stepped : Bool) (y : Summary) {target : Int}
    (ht : within1000 target) (limb : Option (Limb × Nat)) : (s.finishPeriod stepped y target limb).EffortBounded := by
  have units (w : Nat) {v : State} (hv : v.EffortBounded) : (v.superviseUnits w).EffortBounded :=
    hv.of_tdu (by rw [State.superviseUnits_tdu]; exact id) (v.superviseUnits_sameButSent w).dci
  refine units _ (h.withTdu fun ⟨hcmd, hhandle, hactive, hshadow, hitems⟩ => ?_)
  exact ⟨within1000_limitJerk hitems _ hcmd (within1000_cutBack hitems _ _ ht), hhandle, hactive, hshadow, hitems⟩

theorem State.EffortBounded.computePeriod (h : s.EffortBounded) : s.computePeriod.1.EffortBounded :=
  have settled := h.evaluateSpeed.settleDirection
  settled.judgeBrake.releaseTest.finishPeriod _ _ settled.tdu.request _

theorem State.EffortBounded.computeStep (h : s.EffortBounded) : s.computeStep.1.EffortBounded :=
  have settled := h.findSpeed.superviseSpeed.releaseTest.settleDirection
  settled.judgeBrake.finishPeriod _ _ settled.tdu.request _

theorem State.EffortBounded.publishSetpoint (h : s.EffortBounded) : s.publishSetpoint.EffortBounded := by
  unfold State.publishSetpoint
  split
  · exact h.of_cab (State.cab_publish _ _ _)
  · exact h

theorem State.EffortBounded.supervise (h : s.EffortBounded) : s.supervise.EffortBounded := by
  have counted : (s.withTdu { s.tdu with vigil := s.tdu.vigil + 20 }).EffortBounded := h.withTdu (by exact id)
  have warning {v : State} (hv : v.EffortBounded) : v.vigilWarning.EffortBounded :=
    State.EffortBounded.of_cab (hv.withTdu (x := { v.tdu with vigilOn := true }) (by exact id))
      (by simp [State.vigilWarning])
  have trip {v : State} (hv : v.EffortBounded) : v.vigilTrip.EffortBounded :=
    (hv.withMarks { v.tdu.marks with vigil := true }).of_cab (by simp [State.vigilTrip])
  have warned : State.EffortBounded (if s.tdu.vigil + 20 = s.tdu.items.vigilWarn then _ else _) :=
    (warning counted).ite counted
  unfold State.supervise
  exact (h.withTdu (by exact id)).ite (((trip warned).ite warned).ite h)

theorem State.EffortBounded.deadmanHeld (h : s.EffortBounded) : s.deadmanHeld.EffortBounded := by
  have cleared : (s.withTdu s.tdu.vigilCleared).EffortBounded := h.withTdu (by exact id)
  unfold State.deadmanHeld
  exact ((cleared.withMarks _).lift _ _).ite cleared

theorem State.EffortBounded.emergencyHandle (h : s.EffortBounded) (level : Bool) :
    (s.emergencyHandle level).EffortBounded := by
  unfold State.emergencyHandle
  exact (((h.withMarks _).raise _ _ _).setFlag _).ite (((h.withMarks _).lift _ _).ite h)

theorem State.EffortBounded.startPeriod (h : s.EffortBounded) : s.startPeriod.EffortBounded :=
  State.EffortBounded.of_cab (h.withTdu (by exact id)) (State.cab_bumpFree _)

/-! ### Changes of mode (chapter 11) -/

theorem State.EffortBounded.deliverTraction (h : s.EffortBounded) (old : Option View) {new : View}
    (hn : within1000 new.handle) : (s.deliverTraction old new).EffortBounded := by
  have inputs : (s.withTdu { s.tdu with inputs := s.tdu.inputs.deliver old new }).EffortBounded := by
    refine h.withTdu fun ⟨hcmd, hhandle, hrest⟩ => ⟨hcmd, ?_, hrest⟩
    unfold DriverInputs.deliver
    dsimp only
    split
    · exact hn
    · exact hhandle
  have deadman : State.EffortBounded (if levelDue old new .deadman && heldIn new.image .deadman then _ else _) :=
    inputs.deadmanHeld.ite inputs
  unfold State.deliverTraction
  exact (deadman.emergencyHandle _).ite deadman

theorem State.EffortBounded.deliverHorn (h : s.EffortBounded) (old : Option View) (new : View) :
    (s.deliverHorn old new).EffortBounded :=
  h.of_tdu (by rw [State.deliverHorn_tdu]; exact id) (State.deliverHorn_dci s old new)

theorem State.EffortBounded.deliverLevels (h : s.EffortBounded) (old : Option View) {new : View}
    (hn : within1000 new.handle) : (s.deliverLevels old new).EffortBounded :=
  (h.deliverTraction old hn).deliverHorn old new

/-- The view in force has the stored handle, or none (R40). -/
theorem Desk.within1000_view {d : Desk} (h : within1000 d.handle) : within1000 d.view.handle := by
  unfold Desk.view
  split
  · exact h
  · exact within1000_zero

theorem State.EffortBounded.changeMode (h : s.EffortBounded) (m : Mode) : (s.changeMode m).EffortBounded := by
  have mode : (s.withMode m).EffortBounded := h.withMcr _
  have silent : State.EffortBounded (if s.mcr.mode.sounding && !m.sounding then _ else _) :=
    (mode.withSsq (s.withMode m).ssq.silenced).ite mode
  have awake : State.EffortBounded (if s.mcr.mode.driving && !m.driving then _ else _) :=
    (silent.withTdu (x := Traction.vigilCleared _) (by exact id)).ite silent
  have reported : State.EffortBounded (if !s.mcr.mode.sounding && m.sounding then _ else _) :=
    (awake.of_cab (State.cab_reportChannels _)).ite awake
  have served : State.EffortBounded (if !s.mcr.mode.active && m.active then _ else _) :=
    (reported.deliverLevels none (Desk.within1000_view reported.handle)).ite reported
  exact State.EffortBounded.ite (served.of_cab (State.cab_doorsTest _)) served

theorem State.EffortBounded.standbyTest (h : s.EffortBounded) : s.standbyTest.EffortBounded := by
  have entered : s.enterStandby.EffortBounded := State.effortBounded_iff _ |>.mpr ⟨h.tdu, h.handle⟩
  unfold State.standbyTest
  exact entered.ite h

theorem State.EffortBounded.enterHold (h : s.EffortBounded) : s.enterHold.EffortBounded :=
  ((h.changeMode .hold).raise _ _ _).standbyTest

theorem State.EffortBounded.completionTest (h : s.EffortBounded) : s.completionTest.EffortBounded := by
  unfold State.completionTest
  exact h.enterHold.ite h

theorem State.EffortBounded.completionAfter (h : s.EffortBounded) (before : State) :
    (State.completionAfter before s).EffortBounded := by
  unfold State.completionAfter
  exact h.completionTest.ite h

theorem State.EffortBounded.restartBlocks (h : s.EffortBounded) : s.restartBlocks.EffortBounded := by
  obtain ⟨⟨-, hhandle, hcurves⟩, -⟩ := s.effortBounded_iff.mp h
  unfold State.restartBlocks
  refine State.EffortBounded.raise ?_ _ _ _
  exact State.effortBounded_iff _ |>.mpr ⟨⟨within1000_zero, hhandle, hcurves⟩, within1000_zero⟩

theorem State.EffortBounded.keyChanged (h : s.EffortBounded) : s.keyChanged.EffortBounded := by
  unfold State.keyChanged
  exact (h.restartBlocks.ite h).ite h.standbyTest

theorem State.EffortBounded.enterService (h : s.EffortBounded) : s.enterService.EffortBounded :=
  ((h.lift _ _).changeMode _).standbyTest

theorem State.EffortBounded.endCheck (h : s.EffortBounded) (pass : Bool) : (s.endCheck pass).EffortBounded := by
  have ended := h.withMcr { s.mcr with checkLeft := 0 }
  have displayed {v : State} (hv : v.EffortBounded) : v.sendStopDisplay.EffortBounded :=
    hv.of_cab v.cab_sendStopDisplay
  unfold State.endCheck
  exact (ended.changeMode _).ite
    ((displayed ((ended.lift _ _).changeMode _)).standbyTest.ite (displayed (ended.changeMode _)))

theorem State.EffortBounded.periodWork (h : s.EffortBounded) : s.periodWork.EffortBounded := by
  have holding : s.evaluateSpeed.1.releaseTest.publishHold.EffortBounded :=
    h.evaluateSpeed.releaseTest.of_cab (State.cab_publish _ _ _)
  have serving := h.computePeriod.publishSetpoint.supervise
  unfold State.periodWork
  dsimp only
  cases s.mcr.mode with
  | starting | failed | standby => exact h
  | step => exact h.of_cab (State.cab_publish _ _ _)
  | configure | hold =>
    dsimp only
    split
    · exact holding.of_cab (State.cab_periodDistance _ _)
    · exact holding
  | service | holdPending =>
    dsimp only
    refine serving.of_cab ?_
    cases s.computePeriod.2.distance <;> simp

/-! ### The desk (chapter 3) -/

theorem State.EffortBounded.deliverTo (h : s.EffortBounded) {c : ScanChange} (hc : within1000 c.new.handle)
    (x : Consumer) : (State.deliverTo c s x).EffortBounded := by
  cases x with
  | control => exact h.keyChanged
  | traction => exact (h.deliverTraction _ hc).ite h
  | sound =>
    refine State.EffortBounded.ite ((h.deliverHorn (some c.old) c.new).of_cab ?_) h
    simp [State.deliverSound]
  | route => exact (h.of_cab (State.cab_foldl State.cab_routePress _ s)).ite h
  | stops => exact (h.of_cab (State.cab_foldl State.cab_stopPress _ s)).ite h

theorem State.EffortBounded.deliverScan (h : s.EffortBounded) {c : ScanChange} (hc : within1000 c.new.handle) :
    (s.deliverScan c).EffortBounded :=
  List.foldlRecOn _ _ h fun _ hv x _ => State.EffortBounded.deliverTo hv hc x

theorem State.EffortBounded.raiseDesk (h : s.EffortBounded) (k : DeskKind) : (s.raiseDesk k).EffortBounded :=
  (h.withDci (x := { s.dci with raised := some k }) h.handle).raise _ _ _

theorem State.EffortBounded.loseDesk (h : s.EffortBounded) : s.loseDesk.EffortBounded := by
  have lost := h.withDci (x := { s.dci with state := .lost, badRun := 0, goodRun := 0 }) h.handle
  exact State.EffortBounded.setFlag
    (((lost.deliverLevels _ (Desk.within1000_view lost.handle)).raiseDesk _).ite lost) _

theorem State.EffortBounded.recoverDesk (h : s.EffortBounded) : s.recoverDesk.EffortBounded := by
  have found := h.withDci (x := { s.dci with state := .ok, badRun := 0, goodRun := 0 }) h.handle
  exact State.EffortBounded.setFlag
    (((found.deliverLevels _ (Desk.within1000_view found.handle)).lift _ _).ite found) _

theorem State.EffortBounded.escalateDesk (h : s.EffortBounded) : s.escalateDesk.EffortBounded := by
  unfold State.escalateDesk
  split
  · split
    · exact h.raiseDesk _
    · exact h.raiseDesk _
    · exact h
  · exact h

theorem State.EffortBounded.badScan (h : s.EffortBounded) : s.badScan.EffortBounded := by
  unfold State.badScan
  dsimp only
  split
  · exact State.EffortBounded.ite (State.EffortBounded.loseDesk (h.withDci h.handle)) (h.withDci h.handle)
  · exact h.withDci h.handle

theorem State.EffortBounded.goodScan (h : s.EffortBounded) (image : Word) {handle : Int} (hh : within1000 handle) :
    (s.goodScan image handle).EffortBounded := by
  unfold State.goodScan
  dsimp only
  split
  · have stored : State.EffortBounded (State.bumpFree (s.withDci
        { s.dci with image := image, handle := handle, heldKey := heldIn image .keyOn, badRun := 0 })) := h.withDci hh
    exact stored.deliverScan (Desk.within1000_view hh)
  · have stored := h.withDci (x := { s.dci with
      image := image, handle := handle, heldKey := heldIn image .keyOn, goodRun := s.dci.goodRun + 1 }) hh
    have found : State.EffortBounded (if s.dci.goodRun + 1 = 5 then _ else _) := stored.recoverDesk.ite stored
    exact found.keyChanged.ite found

theorem State.EffortBounded.scanExpiry (h : s.EffortBounded) : s.scanExpiry.EffortBounded := by
  have judged : (if s.dci.exchangeOpen then s.badScan else s).escalateDesk.EffortBounded :=
    (h.badScan.ite h).escalateDesk
  exact judged.withDci judged.handle

/-- A scan's handle is clamped (R37). -/
theorem within1000_of_acceptScan {bytes : List Byte} {image : Word} {handle : Int}
    (h : acceptScan bytes = some (image, handle)) : within1000 handle := by
  unfold acceptScan at h
  split at h
  · split at h
    · obtain ⟨-, rfl⟩ := Prod.mk.inj (Option.some.inj h)
      exact within1000_clampHandle _
    · cases h
  · cases h

theorem State.EffortBounded.judgeScan (h : s.EffortBounded) (bytes : List Byte) : (s.judgeScan bytes).EffortBounded := by
  have closed := h.withDci (x := { s.dci with exchangeOpen := false }) h.handle
  unfold State.judgeScan
  dsimp only
  split
  · rename_i hb
    exact closed.goodScan _ (within1000_of_acceptScan hb)
  · exact closed.badScan

/-! ### Requests (chapters 10, 11) -/

/-- A request that keeps the efforts within their ranges. -/
def ActKeepsEfforts (act : Request → State → State × Answer) : Prop :=
  ∀ r s, s.EffortBounded → (act r s).1.EffortBounded

/-- A request that leaves the traction unit and the desk. -/
theorem ActKeepsEfforts.of_same {act : Request → State → State × Answer}
    (ht : ∀ r s, (act r s).1.tdu = s.tdu) (hd : ∀ r s, (act r s).1.dci = s.dci) : ActKeepsEfforts act :=
  fun r s h => h.of_tdu (ht r s ▸ id) (hd r s)

theorem ActKeepsEfforts.of_eq {act : Request → State → State × Answer} (h : ∀ r s, (act r s).1 = s) :
    ActKeepsEfforts act := .of_same (fun r s => by rw [h]) fun r s => by rw [h]

theorem actReadItem_keepsEfforts : ActKeepsEfforts actReadItem := .of_eq fun r s => by unfold actReadItem; split <;> rfl
theorem actReadEntry_keepsEfforts : ActKeepsEfforts actReadEntry := .of_eq fun r s => by
  unfold actReadEntry
  split
  · rfl
  · split <;> rfl
theorem actReadLoadSum_keepsEfforts : ActKeepsEfforts actReadLoadSum := .of_same (fun _ _ => rfl) fun _ _ => rfl
theorem actReadRestrictions_keepsEfforts : ActKeepsEfforts actReadRestrictions := .of_eq fun _ _ => rfl
theorem actReadJunctions_keepsEfforts : ActKeepsEfforts actReadJunctions := .of_eq fun _ _ => rfl
theorem actReadStops_keepsEfforts : ActKeepsEfforts actReadStops := .of_eq fun _ _ => rfl
theorem actReadStep_keepsEfforts : ActKeepsEfforts actReadStep := .of_eq fun r s => by
  unfold actReadStep
  dsimp only
  split <;> rfl
theorem actSetRoute_keepsEfforts : ActKeepsEfforts actSetRoute := .of_same (fun _ _ => rfl) fun _ _ => rfl
theorem actUnknown_keepsEfforts : ActKeepsEfforts actUnknown := .of_eq fun _ _ => rfl

theorem actReadFlags_keepsEfforts : ActKeepsEfforts actReadFlags := fun r s h => h.of_cab <| by
  unfold actReadFlags
  dsimp only
  split <;> simp

theorem actSetEnables_keepsEfforts : ActKeepsEfforts actSetEnables := fun r s h => h.of_cab <| by
  unfold actSetEnables
  dsimp only
  split <;> simp

/-- A written traction item is fitted to its range; no other item is one of the efforts (R76, R178). -/
theorem State.EffortBounded.storeItem (h : s.EffortBounded) (i : Item) (v : Int) :
    (s.storeItem i v).1.EffortBounded := by
  cases i with
  | traction x => exact h.withTdu fun ⟨h1, h2, h3, h4, h5⟩ => ⟨h1, h2, h3, h4, h5.write x v⟩
  | binding b =>
    refine h.of_cab ?_
    cases b <;> simp [State.storeItem, State.setItem, State.writeBinding]
  | notifyEnable c => exact h.of_cab (by simp [State.storeItem, State.setItem, State.writeNotifyEnable])
  | notifyMap => exact h.of_cab (by simp [State.storeItem, State.setItem, State.writeNotifyMap])
  | _ => exact h

theorem actWriteItem_keepsEfforts : ActKeepsEfforts actWriteItem := fun r s h => by
  unfold actWriteItem
  split
  · unfold State.writeItem
    split
    · exact h
    · split
      · exact h.storeItem _ _
      · exact h
    · exact h.storeItem _ _
    · unfold State.clearItem
      split <;> exact h
  · exact h

/-- A breakpoint is read within its range (R59). -/
theorem readBreakpoint_effort_le {bytes : List Byte} {b : Breakpoint} (h : readBreakpoint bytes = some b) :
    b.effort ≤ 1000 := by
  have range {n m : Nat} (hm : within 0 1000 n = some m) : m ≤ 1000 := by
    unfold within at hm
    split at hm
    · rename_i hn
      exact Option.some.inj hm ▸ hn.2
    · cases hm
  unfold readBreakpoint at h
  split at h
  · simp only [Option.bind_eq_bind, Option.bind_eq_some_iff] at h
    obtain ⟨speed, -, effort, heffort, hb⟩ := h
    obtain rfl := Option.some.inj hb
    exact range heffort
  · cases h

theorem Curve.Bounded.withBreakpoint {c : Curve} (h : c.Bounded) (i : Index) {b : Breakpoint} (hb : b.effort ≤ 1000) :
    (c.withBreakpoint i b).Bounded := by
  obtain ⟨hpower, hbrake⟩ := h
  have set {l : List Breakpoint} (hl : ∀ x ∈ l, x.effort ≤ 1000) (x : Breakpoint) (hx : x ∈ l.set i.number b) :
      x.effort ≤ 1000 := by
    obtain hx | rfl := List.mem_or_eq_of_mem_set hx
    · exact hl x hx
    · exact hb
  unfold Curve.withBreakpoint
  cases i.limb
  · exact ⟨set hpower, hbrake⟩
  · exact ⟨hpower, set hbrake⟩

/-- A loaded entry changes the SHADOW curve alone, within its range (R59, R179). -/
theorem State.EffortBounded.replaceEntry (h : s.EffortBounded) (i : Index) {n : TableName} {bytes : List Byte}
    {e : LoadedEntry} (he : readLoaded n bytes = some e) : (s.replaceEntry i e).EffortBounded := by
  cases e with
  | window | unit | route | pattern => exact h
  | source x => exact h.of_cab (by simp [State.replaceEntry, State.loadSource])
  | breakpoint b =>
    have hb : b.effort ≤ 1000 := by
      cases n <;> simp [readLoaded] at he
      exact readBreakpoint_effort_le he
    exact h.withTdu fun ⟨h1, h2, h3, h4, h5⟩ => ⟨h1, h2, h3, h4.withBreakpoint i hb, h5⟩

theorem actLoadEntry_keepsEfforts : ActKeepsEfforts actLoadEntry := fun r s h => by
  unfold actLoadEntry
  split
  · exact h
  · dsimp only
    unfold State.load State.loadInRange
    split
    · exact h
    · split
      · rename_i he
        split
        · exact h.setFlag _
        · split
          · exact h.setFlag _
          · exact (h.replaceEntry _ he).withMcr _
      · exact h

/-- A commit copies the SHADOW curve (R59). -/
theorem actCommit_keepsEfforts : ActKeepsEfforts actCommit := fun r s h => by
  have curve : s.commitCurve.1.EffortBounded := by
    unfold State.commitCurve
    split
    · exact h
    · split
      · exact h
      · exact h.withTdu fun ⟨h1, h2, _, h4, h5⟩ => ⟨h1, h2, h4, h4, h5⟩
  have allocation : s.commitAllocation.1.EffortBounded := by
    unfold State.commitAllocation
    split
    · exact h
    · split <;> exact h
  have route : s.commitRoute.1.EffortBounded := by
    unfold State.commitRoute
    split <;> exact h
  unfold actCommit State.commitTable
  dsimp only
  split
  · exact curve
  · exact allocation
  · exact route
  all_goals exact h

theorem actHoldSoft_keepsEfforts : ActKeepsEfforts actHoldSoft := fun r s h => by
  unfold actHoldSoft
  split
  · exact (h.changeMode _).completionTest.standbyTest
  all_goals exact h

theorem actHoldHard_keepsEfforts : ActKeepsEfforts actHoldHard := fun r s h => by
  have held : State.EffortBounded
      (if s.standstill then (s.enterHold, Answer.plain .done) else (s, .plain .refusedBusy)).1 := by
    split
    · exact h.enterHold
    · exact h
  unfold actHoldHard
  cases s.mcr.mode with
  | service | holdPending => exact held
  | starting | failed | configure | hold | step | standby => exact h

theorem actRelease_keepsEfforts : ActKeepsEfforts actRelease := fun r s h => by
  unfold actRelease
  split
  · exact (h.changeMode _).standbyTest
  · exact State.EffortBounded.enterService (h.withTdu fun ⟨_, h2⟩ => ⟨within1000_zero, h2⟩)
  all_goals exact h

theorem actStepEnter_keepsEfforts : ActKeepsEfforts actStepEnter := fun r s h => by
  unfold actStepEnter
  split
  · exact h.changeMode _
  all_goals exact h

theorem actStepOne_keepsEfforts : ActKeepsEfforts actStepOne := fun r s h => by
  have aged : s.bumpFree.ageSlots.EffortBounded := h.of_cab (by simp)
  have once : s.stepOnce.EffortBounded := by
    have computed := aged.computeStep
    unfold State.stepOnce
    generalize s.bumpFree.ageSlots.computeStep = c at computed
    exact (computed.of_cab (State.cab_reversal _)).ite computed
  unfold actStepOne
  split
  · exact once
  · exact h

theorem actStepExit_keepsEfforts : ActKeepsEfforts actStepExit := fun r s h => by
  unfold actStepExit
  split
  · exact (h.changeMode _).standbyTest
  · exact h

theorem actEnterService_keepsEfforts : ActKeepsEfforts actEnterService := fun r s h => by
  unfold actEnterService
  split
  · exact h
  · split
    · exact h.enterService
    · exact h

theorem actRestart_keepsEfforts : ActKeepsEfforts actRestart := fun r s h => by
  have atRest : State.EffortBounded
      (if s.standstill then (s.restartBlocks, Answer.plain .done) else (s, .plain .refusedBusy)).1 := by
    split
    · exact h.restartBlocks
    · exact h
  unfold actRestart
  cases s.mcr.mode with
  | configure | hold | step | failed => exact h.restartBlocks
  | service | holdPending => exact atRest
  | standby | starting => exact h

theorem State.EffortBounded.manage (h : s.EffortBounded) (row : Row) {act : Request → State → State × Answer}
    (ha : ActKeepsEfforts act) : (manage row act s).EffortBounded := by
  have decided (r : Request) {v : State} (hv : v.EffortBounded) : (decideRequest act r v).1.EffortBounded := by
    unfold decideRequest
    split
    · exact hv
    · exact ha r v hv
  unfold Machine.manage
  split
  · exact h
  · rename_i r rest _
    have answered : State.EffortBounded (answerRequest act r (s.withFcl { s.fcl with requests := rest })) :=
      (decided r (v := s.withFcl { s.fcl with requests := rest }) h).of_cab (State.cab_respond _ _ _)
    exact answered.ite h

/-! ### Every command -/

theorem State.EffortBounded.of_next (h : u.EffortBounded) (ht : (.next u : Host.Outcome State Fault Refusal) = .next t) :
    t.EffortBounded := Host.Outcome.next.inj ht ▸ h

/-- Every command but POWER_ON keeps the efforts within their ranges. -/
theorem exec_effortBounded {c : Instr} (hc : ∀ n, c ≠ .powerOn n) (k : s.EffortBounded) (h : exec c s = .next t) :
    t.EffortBounded := by
  cases c with
  | powerOn n => exact absurd rfl (hc n)
  | idleMarkerArrival p | frameArrivalStart p | frameArrivalEnd p bytes | idleTimerExpiry p | idleMarkerEnd p
  | transmissionEnd p => exact .of_next (k.of_cab (s.cab_withPort p _)) h
  | frameHandling p => exact .of_next (k.of_cab (s.cab_handleFrame p)) h
  | activityTimerExpiry p => exact .of_next (k.of_cab (s.cab_activityExpiry p)) h
  | classifyFrame p =>
    simp only [exec, execClassifyFrame] at h
    split at h
    · exact .of_next k h
    · exact .of_next (k.of_cab (by simp)) h
  | ageTick => exact .of_next (k.of_cab (by simp)) h
  | scanTimerExpiry => exact .of_next (k.scanExpiry.completionAfter s) h
  | scanArrivalEnd scan => exact .of_next (((k.judgeScan _).completionAfter s).ite k) h
  | controlPeriod =>
    have worked := k.startPeriod.periodWork
    exact .of_next (worked.completionTest.standbyTest.ite worked) h
  | attemptTimerExpiry => exact .of_next (k.of_cab (by simp)) h
  | telegramArrivalStart => exact .of_next (k.of_cab s.cab_arrivalStart) h
  | telegramArrivalEnd bytes => exact .of_next ((k.of_cab (s.cab_arrivalEnd bytes)).completionAfter s) h
  | requestTransmissionEnd => exact .of_next (k.of_cab s.cab_transmissionDone) h
  | soundStepBoundary ch load => exact .of_next ((k.of_cab (s.cab_soundBoundary ch load)).completionAfter s) h
  | directHornMinEnd => exact .of_next ((k.of_cab s.cab_hornMinEnd).completionAfter s) h
  | directHornInterval load => exact .of_next (k.of_cab (s.cab_hornInterval load)) h
  | startupCheckEnd pass => exact .of_next ((k.endCheck pass).ite k) h
  | readItem => exact .of_next (k.manage _ actReadItem_keepsEfforts) h
  | writeItem => exact .of_next (k.manage _ actWriteItem_keepsEfforts) h
  | loadEntry => exact .of_next (k.manage _ actLoadEntry_keepsEfforts) h
  | readEntry => exact .of_next (k.manage _ actReadEntry_keepsEfforts) h
  | commit => exact .of_next (k.manage _ actCommit_keepsEfforts) h
  | readLoadSum => exact .of_next (k.manage _ actReadLoadSum_keepsEfforts) h
  | readFlags => exact .of_next (k.manage _ actReadFlags_keepsEfforts) h
  | setEnables => exact .of_next (k.manage _ actSetEnables_keepsEfforts) h
  | readRestrictions => exact .of_next (k.manage _ actReadRestrictions_keepsEfforts) h
  | readJunctions => exact .of_next (k.manage _ actReadJunctions_keepsEfforts) h
  | readStops => exact .of_next (k.manage _ actReadStops_keepsEfforts) h
  | readStep => exact .of_next (k.manage _ actReadStep_keepsEfforts) h
  | holdSoft => exact .of_next (k.manage _ actHoldSoft_keepsEfforts) h
  | holdHard => exact .of_next (k.manage _ actHoldHard_keepsEfforts) h
  | release => exact .of_next (k.manage _ actRelease_keepsEfforts) h
  | stepEnter => exact .of_next (k.manage _ actStepEnter_keepsEfforts) h
  | stepOne => exact .of_next (k.manage _ actStepOne_keepsEfforts) h
  | stepExit => exact .of_next (k.manage _ actStepExit_keepsEfforts) h
  | enterService => exact .of_next (k.manage _ actEnterService_keepsEfforts) h
  | restart => exact .of_next (k.manage _ actRestart_keepsEfforts) h
  | setRoute => exact .of_next (k.manage _ actSetRoute_keepsEfforts) h
  | unknownRequest => exact .of_next (k.manage _ actUnknown_keepsEfforts) h

/-- Settles O59: one millisecond leaves the efforts, a power-on leaves those of reset, and each other command keeps them
within their ranges. -/
theorem stepKeepsEffortBounded : Obligations.StepKeepsEffortBounded := by
  intro s t hs h
  obtain rfl | ⟨u, c, rfl, -⟩ | ⟨c, rest, hc, hx⟩ := step_cases h
  · exact hs
  · exact State.reset_effortBounded
  · exact exec_effortBounded (s := s.withPending rest) hc hs hx

end Sys2Proof.Machine
end

section
/-! SUPPORT. The layouts of scans, telegrams, the part's own REQUEST and SETPOINT (R37, R128, R205, R209, R210), with the
statement about them. -/

namespace Sys2Proof.Machine

/-! ### Scans (R37, R210) -/

theorem be4_word4 (w : Word) :
    be4 (w.extractLsb' 24 8) (w.extractLsb' 16 8) (w.extractLsb' 8 8) (w.extractLsb' 0 8) = w := by
  unfold be4
  ext i hi
  simp only [BitVec.getElem_append, BitVec.getElem_extractLsb', BitVec.getLsbD]
  split_ifs <;> simp [BitVec.getElem_eq_testBit_toNat] <;> congr 1 <;> omega

theorem acceptScan_word4_half2 (w : Word) (h : Half) :
    acceptScan (word4 w ++ half2 h ++ [sum8 (word4 w ++ half2 h)]) =
      some (w, clampHandle (h.extractLsb' 0 11).toInt) := by
  simp [acceptScan, word4, half2, be4_word4, be2_half2]

/-! ### Telegrams (R128, R209) -/

/-- The telegram check takes a body with the exclusive-OR of its bytes behind it (R128). -/
theorem acceptTelegram_concat (body : List Byte) : acceptTelegram (body ++ [xor8 body]) = telegramBody body := by
  simp [acceptTelegram]

theorem telegramBody_approach (j : Half) {n : Nat} (hn : n < 256) :
    telegramBody ([1] ++ half2 j ++ [BitVec.ofNat 8 n]) = some (.approach j n) := by
  simp [half2, telegramBody, be2_half2, Nat.mod_eq_of_lt hn]

theorem telegramBody_clear (j : Half) : telegramBody ([2] ++ half2 j) = some (.clear j) := by
  simp [half2, telegramBody, be2_half2]

theorem telegramBody_confirm (j tram : Half) (q : Byte) {d : PointDir} {c : ConfirmState} {dir st : Byte}
    (hd : PointDir.ofCode dir = some d) (hc : ConfirmState.ofCode st = some c) :
    telegramBody ([3] ++ half2 j ++ half2 tram ++ [q, dir, st]) = some (.confirm j tram q d c) := by
  simp [half2, telegramBody, be2_half2, hd, hc]

theorem PointDir.ofCode_of_codes {d : PointDir} {dir : Byte}
    (h : d = .l ∧ dir = 0 ∨ d = .s ∧ dir = 1 ∨ d = .r ∧ dir = 2) : PointDir.ofCode dir = some d := by
  obtain ⟨rfl, rfl⟩ | ⟨rfl, rfl⟩ | ⟨rfl, rfl⟩ := h <;> rfl

theorem ConfirmState.ofCode_of_codes {c : ConfirmState} {st : Byte}
    (h : c = .setLocked ∧ st = 0 ∨ c = .setMoving ∧ st = 1 ∨ c = .refused ∧ st = 2) :
    ConfirmState.ofCode st = some c := by
  obtain ⟨rfl, rfl⟩ | ⟨rfl, rfl⟩ | ⟨rfl, rfl⟩ := h <;> rfl

theorem PointDir.byte1_code {d : PointDir} {dir : Byte}
    (h : d = .l ∧ dir = 0 ∨ d = .s ∧ dir = 1 ∨ d = .r ∧ dir = 2) : byte1 d.code = [dir] := by
  obtain ⟨rfl, rfl⟩ | ⟨rfl, rfl⟩ | ⟨rfl, rfl⟩ := h <;> rfl

/-! ### SETPOINT (R205) -/

theorem bits1_three (a b c : Bool) :
    bits1 [a, b, c] = [(if a then 1 else 0) ||| (if b then 2 else 0) ||| (if c then 4 else 0)] := by
  cases a <;> cases b <;> cases c <;> rfl

/-! ### The statement -/

/-- Settles O15, layout by layout. -/
theorem layoutsAreReadAndWritten : Obligations.LayoutsAreReadAndWritten := by
  refine ⟨acceptScan_word4_half2, fun j tram q n d c dir st hn hd hc => ⟨?_, ?_, ?_⟩, fun r dir body hd hbody => ?_,
    fun d u0 u1 u2 u3 mech deficit e h o => ?_⟩
  · rw [acceptTelegram_concat, telegramBody_approach j hn]
  · rw [acceptTelegram_concat, telegramBody_clear]
  · rw [acceptTelegram_concat,
      telegramBody_confirm j tram q (PointDir.ofCode_of_codes hd) (ConfirmState.ofCode_of_codes hc)]
  · have hcode := PointDir.ofCode_of_codes hd
    have hencode : r.encode = body ++ [xor8 body] := by
      rw [PointRequest.encode, PointDir.byte1_code hd, hbody]
      simp [byte1, nat2]
    refine ⟨hencode, ?_, ?_⟩
    · simp [hencode, hbody, half2]
    · rw [hencode, acceptTelegram_concat, hbody]
      simp [telegramBody, half2, hcode]
  · cases d <;> simp [setpointPayload, Direction.code, byte1, bits1_three, int2, nat2, List.range_succ]

end Sys2Proof.Machine
end

section
/-! SUPPORT. The desk's levels as they are delivered (R44, R64, R65), the entries of the list that a raise leaves (R84,
R85), the completion of a hold (R95, R198) and the entry to STANDBY (R200). -/

namespace Sys2Proof.Machine

variable {s t u : State}

/-! ### Standstill and the kind of DESK (R43, R53) -/

theorem State.standstill_iff (s : State) : s.standstill = true ↔ s.still := by
  unfold State.standstill State.still
  cases s.tdu.speed <;> simp

theorem Mode.driving_iff (m : Mode) : m.driving = true ↔ m = .service ∨ m = .holdPending := by
  cases m <;> simp [Mode.driving]

theorem State.deskKind_eq_emergency_iff (s : State) :
    s.deskKind = .emergency ↔
      (s.mcr.mode = .service ∨ s.mcr.mode = .holdPending) ∧ s.tdu.computed = true ∧ ¬ s.still := by
  unfold State.deskKind
  rw [← Mode.driving_iff, ← State.standstill_iff]
  split <;> simp_all [and_assoc]

/-- The kind that R43 chooses is the one with which the desk is raised. -/
theorem State.DeskKindIs.eq_deskKind {k : DeskKind} (h : s.DeskKindIs k) : k = s.deskKind := by
  have hiff := h.trans s.deskKind_eq_emergency_iff.symm
  cases k <;> cases hk : s.deskKind <;> simp [hk] at hiff ⊢

/-! ### What a raise leaves in the list (R84, R85) -/

theorem Restriction.names_iff (e : Restriction) (src : Source) (key : Half) :
    e.names src key = true ↔ e.source = src ∧ e.key = key := by
  simp [Restriction.names]

/-- A raise replaces the kind that stands, but for an EMERGENCY that it does not name (the table of R85). -/
theorem Restraint.raisedBy_cases (held : Restraint) {k : Restraint} (hk : k ≠ .emergency true) :
    held.raisedBy k = k ∨ (∀ l, k ≠ .emergency l) ∧ (∃ l, held = .emergency l) ∧ held.raisedBy k = held := by
  rcases held with v | _ | l <;> rcases k with w | _ | (_ | _) <;> simp_all [Restraint.raisedBy]

/-- After a raise the list has the entry with the kind raised, or with the EMERGENCY that stood there. -/
theorem State.exists_mem_raise (hm : s.mcr.mode ≠ .standby) (src : Source) (key : Half) {k : Restraint}
    (hk : k ≠ .emergency true) : ∃ e ∈ (s.raise src key k).rsl, e.source = src ∧ e.key = key ∧
      (e.kind = k ∨ (∀ l, k ≠ .emergency l) ∧ (∃ l, e.kind = .emergency l) ∧ e ∈ s.rsl) := by
  cases hf : findRestriction s.rsl src key with
  | none => exact ⟨_, State.mem_raise_of_none hm hf, rfl, rfl, .inl rfl⟩
  | some e =>
    have hmem : e ∈ s.rsl := List.mem_of_find?_eq_some hf
    have hnames : e.names src key = true := List.find?_some (p := fun x : Restriction => x.names src key) hf
    obtain ⟨hsrc, hkey⟩ := (e.names_iff src key).mp hnames
    rw [State.raise_rsl, if_neg hm, hf]
    dsimp only
    split
    · rename_i hsame
      refine ⟨e, hmem, hsrc, hkey, ?_⟩
      obtain h | ⟨hne, hemerg, -⟩ := e.kind.raisedBy_cases hk
      · exact .inl (hsame.symm.trans h)
      · exact .inr ⟨hne, hemerg, hmem⟩
    · rename_i hdiff
      refine ⟨_, mem_replaceFirst _ _ _ (List.any_eq_true.mpr ⟨e, hmem, hnames⟩), hsrc, hkey, ?_⟩
      obtain h | ⟨-, -, h⟩ := e.kind.raisedBy_cases hk
      · exact .inl h
      · exact absurd h hdiff

/-- In a list without repeats a removal leaves no entry of the name removed. -/
theorem not_names_of_mem_eraseP {l : List Restriction} {src : Source} {key : Half} (hd : (identities l).Nodup)
    {e : Restriction} (he : e ∈ l.eraseP (·.names src key)) : ¬ e.names src key = true := by
  intro hn
  obtain ⟨y, l₁, l₂, -, hy, rfl, herase⟩ := List.exists_of_eraseP
    (p := fun x : Restriction => x.names src key) (List.mem_of_mem_eraseP he) hn
  rw [herase] at he
  rw [identities, List.map_append, List.map_cons, List.nodup_middle, ← List.map_append] at hd
  refine (List.nodup_cons.mp hd).1 ?_
  rw [(identity_of_names hy).trans (identity_of_names hn).symm]
  exact List.mem_map_of_mem he

/-- A lift of a source takes the entry under that key, but for an EMERGENCY, whose lift it requests (R86, R87). -/
theorem State.lift_leaves {src : Source} {key : Half} (hd : (identities s.rsl).Nodup) :
    ∀ e ∈ (s.lift src key).rsl, e.source = src → e.key = key → e.kind = .emergency true := by
  intro e he hs hk
  have hkeeps := (State.Keeps.refl s).lift src key
  have hnodup : (identities (s.lift src key).rsl).Nodup := hkeeps.rsl hd
  rw [State.lift_rsl] at he hnodup
  cases hf : findRestriction s.rsl src key with
  | none =>
    rw [hf] at he
    exact absurd ((e.names_iff src key).mpr ⟨hs, hk⟩) (List.find?_eq_none.mp hf e he)
  | some x =>
    have hx : x ∈ s.rsl := List.mem_of_find?_eq_some hf
    have hxn : x.names src key = true := List.find?_some (p := fun x : Restriction => x.names src key) hf
    have same {y : Restriction} {l : List Restriction} (hl : (identities l).Nodup) (hel : e ∈ l) (hyl : y ∈ l)
        (hy : y.identity = (src, key)) : e = y :=
      List.inj_on_of_nodup_map hl hel hyl (by rw [hy, Restriction.identity, hs, hk])
    simp only [hf] at he hnodup
    split at he
    · rename_i hkind
      rw [same hd he hx (identity_of_names hxn), hkind]
    · have hin := mem_replaceFirst (·.names src key) { x with kind := Restraint.emergency true } s.rsl
        (List.any_eq_true.mpr ⟨x, hx, hxn⟩)
      rename_i hkind
      simp only [hkind] at hnodup
      rw [same hnodup he hin (identity_of_names hxn)]
    · exact absurd ((e.names_iff src key).mpr ⟨hs, hk⟩) (not_names_of_mem_eraseP hd he)

/-! ### STANDBY entered (R200) -/

/-- The modes in which the tram at standstill with the key off goes to STANDBY (R200). -/
theorem State.standbyTest_of_still (hk : s.dci.heldKey = false)
    (hm : s.mcr.mode = .service ∨ s.mcr.mode = .holdPending ∨ s.mcr.mode = .hold) (hs : s.still) :
    s.standbyTest = s.enterStandby := by
  have hmode : (s.mcr.mode.driving || decide (s.mcr.mode = .hold)) = true := by
    obtain h | h | h := hm <;> rw [h] <;> rfl
  rw [State.standbyTest, hk, hmode, s.standstill_iff.mpr hs]
  rfl

theorem State.standbyTest_of_moving (hs : ¬ s.still) : s.standbyTest = s := by
  rw [← State.standstill_iff] at hs
  exact if_neg (by simp [hs])

theorem State.standbyTest_of_mode (hs : s.mcr.mode ≠ .service) (hp : s.mcr.mode ≠ .holdPending)
    (hh : s.mcr.mode ≠ .hold) : s.standbyTest = s := by
  have hd : s.mcr.mode.driving = false := by
    rw [← Bool.not_eq_true, Mode.driving_iff]
    exact not_or.mpr ⟨hs, hp⟩
  exact if_neg (by simp [hd, hh])

theorem State.standbyTest_cases (s : State) :
    s.standbyTest = s ∨ s.dci.heldKey = false ∧ s.standbyTest = s.enterStandby := by
  unfold State.standbyTest
  split
  · next h => exact .inr ⟨by simp_all, rfl⟩
  · exact .inl rfl

theorem State.enterStandby_standsBy (s : State) : s.enterStandby.StandsBy := by
  refine ⟨rfl, rfl, rfl, rfl, rfl, rfl, rfl, rfl, fun ch => by cases ch <;> rfl, rfl, rfl, rfl, rfl, rfl, rfl,
    fun x hx => ?_, rfl⟩
  exact List.eq_of_mem_replicate hx

/-! ### HOLD entered (R95, R197) -/

theorem State.mem_doorsTest_iff {e : Restriction} (he : e.source ≠ .doors) : e ∈ s.doorsTest.rsl ↔ e ∈ s.rsl := by
  unfold State.doorsTest
  split
  · rfl
  · split
    · exact State.mem_raise_iff he _ _ _
    · exact State.mem_lift_iff he _ _
    · rfl

/-- From the modes that drive the entry to HOLD silences the sounders and clears the vigilance timer (R64, R172). -/
theorem State.changeMode_hold (h : s.mcr.mode.driving = true) :
    s.changeMode .hold = (((s.withMode .hold).withSsq s.ssq.silenced).withTdu s.tdu.vigilCleared).doorsTest := by
  obtain hm | hm := s.mcr.mode.driving_iff.mp h <;> (unfold State.changeMode; rw [hm]; rfl)

/-- The part in HOLD with MODE raised, before the standby test of that change of mode. -/
def State.inHold (s : State) : State := (s.changeMode .hold).raise .mode 0 .hold

theorem State.enterHold_eq (s : State) : s.enterHold = s.inHold.standbyTest := rfl

@[simp] theorem State.inHold_dci (s : State) : s.inHold.dci = s.dci := by simp [State.inHold]
@[simp] theorem State.inHold_rtu (s : State) : s.inHold.rtu = s.rtu := by simp [State.inHold]
@[simp] theorem State.inHold_mcr (s : State) : s.inHold.mcr = { s.mcr with mode := .hold } := by simp [State.inHold]

theorem State.inHold_tdu (h : s.mcr.mode.driving = true) : s.inHold.tdu = s.tdu.vigilCleared := by
  rw [State.inHold, State.changeMode_hold h, State.raise_tdu, State.doorsTest_tdu]
  rfl

theorem State.inHold_ssq (h : s.mcr.mode.driving = true) : s.inHold.ssq = s.ssq.silenced := by
  rw [State.inHold, State.changeMode_hold h, State.raise_ssq, State.doorsTest_ssq]
  rfl

theorem Sounder.silenced_allIdle (q : Sounder) : q.silenced.allIdle = true := by
  simp [Sounder.allIdle, Sounder.idle, Sounder.silenced, Sounder.channel, SoundChannel.silenced, Sounder.suspended]

theorem State.inHold_still (h : s.mcr.mode.driving = true) : s.inHold.still ↔ s.still := by
  rw [State.still, State.inHold_tdu h]
  rfl

theorem State.hasEntry_inHold (s : State) : hasEntry s.inHold.rsl .mode := by
  have hm : (s.changeMode .hold).mcr.mode ≠ .standby := by simp
  obtain ⟨e, he, hsrc, hkey, -⟩ := State.exists_mem_raise hm .mode 0 (k := .hold) (by decide)
  exact ⟨e, he, hsrc, hkey⟩

theorem State.mem_inHold_iff (h : s.mcr.mode.driving = true) {e : Restriction} (hd : e.source ≠ .doors)
    (hm : e.source ≠ .mode) : e ∈ s.inHold.rsl ↔ e ∈ s.rsl := by
  rw [State.inHold, State.mem_raise_iff hm, State.changeMode_hold h, State.mem_doorsTest_iff hd]
  rfl

theorem State.flagsKept_inHold (h : s.mcr.mode.driving = true) : s.flagsKept s.inHold := by
  rw [State.inHold, State.changeMode_hold h]
  exact ((State.Serves.refl (((s.withMode .hold).withSsq s.ssq.silenced).withTdu s.tdu.vigilCleared)).doorsTest.raise
    .mode 0 .hold).flags

theorem State.enterHold_of_key (hk : s.dci.heldKey = true) : s.enterHold = s.inHold :=
  State.standbyTest_of_key (s := s.inHold) (by rw [State.inHold_dci]; exact hk)

/-! ### The completion of HOLD_PENDING (R198) -/

theorem State.holdComplete_iff (s : State) :
    s.holdComplete = true ↔ s.still ∧ s.rtu.queue = [] ∧ s.ssq.allIdle = true := by
  rw [State.holdComplete, Bool.and_eq_true, Bool.and_eq_true, State.standstill_iff, List.isEmpty_iff, and_assoc]

theorem State.completionTest_of_complete (hm : s.mcr.mode = .holdPending) (h : s.holdComplete = true) :
    s.completionTest = s.enterHold := if_pos ⟨hm, h⟩

theorem State.completionTest_of_incomplete (h : ¬ s.holdComplete = true) : s.completionTest = s := if_neg fun k => h k.2

/-- The test after a handling completes HOLD_PENDING or leaves all as it is (R198; log 42). -/
theorem State.completionAfter_cases (s t : State) :
    State.completionAfter s t = t ∨ t.mcr.mode = .holdPending ∧ State.completionAfter s t = t.enterHold := by
  unfold State.completionAfter State.completionTest
  split
  · split
    · next h => exact .inr ⟨h.1, rfl⟩
    · exact .inl rfl
  · exact .inl rfl

theorem State.completionAfter_of_mode (h : t.mcr.mode ≠ .holdPending) : State.completionAfter s t = t :=
  (State.completionAfter_cases s t).resolve_right fun k => h k.1

/-- A handling that neither removes a junction nor falls silent completes nothing. -/
theorem State.completionAfter_of_idle (hq : t.rtu.queue = s.rtu.queue) (hs : ∀ ch, t.ssq.idle ch = s.ssq.idle ch) :
    State.completionAfter s t = t := by
  simp [State.completionAfter, becameIdle, hq, hs]

/-- What the handling at the end of a command, the completion test, leaves of its outcome as far as the desk is
concerned: all of it, but for MODE, DOORS and the vigilance timer in HOLD. -/
structure State.Settles (s t : State) : Prop where
  dci : t.dci = s.dci
  inputs : t.tdu.inputs = s.tdu.inputs
  hornLevel : t.ssq.hornLevel = s.ssq.hornLevel
  flags : s.flagsKept t
  entries : ∀ e : Restriction, e.source ≠ .doors → e.source ≠ .mode → (e ∈ t.rsl ↔ e ∈ s.rsl)
  same : s.mcr.mode ≠ .holdPending ∨ t.mcr.mode = s.mcr.mode → t = s

theorem State.Settles.refl (s : State) : s.Settles s :=
  ⟨rfl, rfl, rfl, BitVec.and_self, fun _ _ _ => .rfl, fun _ => rfl⟩

theorem State.settles_inHold (h : s.mcr.mode = .holdPending) : s.Settles s.inHold := by
  have hd : s.mcr.mode.driving = true := by rw [h]; rfl
  refine ⟨by simp, by rw [State.inHold_tdu hd]; rfl, by rw [State.inHold_ssq hd]; rfl, State.flagsKept_inHold hd,
    fun e hs hm => State.mem_inHold_iff hd hs hm, fun hne => ?_⟩
  rw [h, State.inHold_mcr] at hne
  simp at hne

/-- The completion test after a handling settles its outcome; with the key off it may then enter STANDBY (R200). -/
theorem State.completionAfter_settles (s t : State) : ∃ u, t.Settles u ∧ (State.completionAfter s t = u ∨
    t.mcr.mode = .holdPending ∧ t.dci.heldKey = false ∧ State.completionAfter s t = u.enterStandby) := by
  obtain h | ⟨hm, h⟩ := State.completionAfter_cases s t
  · exact ⟨t, .refl t, .inl h⟩
  · refine ⟨t.inHold, State.settles_inHold hm, ?_⟩
    rw [h, State.enterHold_eq]
    obtain hs | ⟨hk, hs⟩ := t.inHold.standbyTest_cases
    · exact .inl hs
    · exact .inr ⟨hm, by rwa [State.inHold_dci] at hk, hs⟩

/-- Where the mode is no pending hold or the key is on, no STANDBY follows. -/
theorem State.settles_completionAfter (s : State) (h : t.dci.heldKey = true ∨ t.mcr.mode ≠ .holdPending) :
    t.Settles (State.completionAfter s t) := by
  obtain ⟨u, hu, h' | ⟨hm, hk, -⟩⟩ := State.completionAfter_settles s t
  · rwa [h']
  · simp [hk, hm] at h

/-- Where the mode stays as it was, the completion test has done nothing. -/
theorem State.completionAfter_of_same_mode (h : (State.completionAfter s t).mcr.mode = t.mcr.mode) :
    State.completionAfter s t = t := by
  obtain ⟨u, hu, h' | ⟨hm, -, h'⟩⟩ := State.completionAfter_settles s t
  · rw [h'] at h ⊢
    exact hu.same (.inr h)
  · rw [h', hm] at h
    cases h

end Sys2Proof.Machine
end

section
/-! SUPPORT. What a control period leaves of the desk and the modes until its closing tests (R50, R198, R200). -/

namespace Sys2Proof.Machine

/-! ### The desk and the modes (chapters 3 and 11) -/

/-- The desk chain interface and the mode control. -/
def State.watch (s : State) : Desk × Control := (s.dci, s.mcr)

section
variable {s t : State}

theorem State.watch_of_cab (h : t.cab = s.cab) : t.watch = s.watch := congrArg₂ Prod.mk (dci_of_cab h) (mcr_of_cab h)
theorem State.dci_of_watch (h : t.watch = s.watch) : t.dci = s.dci := congrArg Prod.fst h
theorem State.mcr_of_watch (h : t.watch = s.watch) : t.mcr = s.mcr := congrArg Prod.snd h

end

variable (s : State)

@[simp] theorem State.watch_withTdu (x : Traction) : (s.withTdu x).watch = s.watch := rfl
@[simp] theorem State.watch_withMarks (m : Marks) : (s.withMarks m).watch = s.watch := rfl
@[simp] theorem State.watch_withEnv (x : Environment) : (s.withEnv x).watch = s.watch := rfl
@[simp] theorem State.watch_withSsq (x : Sounder) : (s.withSsq x).watch = s.watch := rfl
@[simp] theorem State.watch_setFlag (f : Flag) : (s.setFlag f).watch = s.watch := watch_of_cab (by simp)
@[simp] theorem State.watch_raise (src : Source) (key : Half) (k : Restraint) : (s.raise src key k).watch = s.watch :=
  watch_of_cab (by simp)
@[simp] theorem State.watch_lift (src : Source) (key : Half) : (s.lift src key).watch = s.watch :=
  watch_of_cab (by simp)
@[simp] theorem State.watch_publish (i : Half) (b : List Byte) : (s.publish i b).watch = s.watch :=
  watch_of_cab (by simp)
@[simp] theorem State.watch_releaseTest : s.releaseTest.watch = s.watch := watch_of_cab (by simp)
@[simp] theorem State.watch_soundRequest (ch : Channel) (r : SoundRequest) : (s.soundRequest ch r).watch = s.watch :=
  watch_of_cab (by simp)
@[simp] theorem State.watch_periodDistance (d : Nat) : (s.periodDistance d).watch = s.watch := watch_of_cab (by simp)
@[simp] theorem State.watch_reversal : s.reversal.watch = s.watch := watch_of_cab (by simp)

@[simp] theorem State.watch_ite {c : Prop} {_ : Decidable c} (s t : State) :
    (if c then s else t).watch = if c then s.watch else t.watch := apply_ite _ _ _ _

/-! ### A control period (R50 to R75) -/

@[simp] theorem State.watch_evaluateSpeed : s.evaluateSpeed.1.watch = s.watch := by
  have found : s.findSpeed.superviseSpeed.watch = s.watch := by
    have hsame := s.findSpeed.superviseSpeed_sameButSent
    rw [State.watch, hsame.dci, hsame.mcr, s.findSpeed_eq]
    rfl
  unfold State.evaluateSpeed State.advanceOdometer
  split <;> simp [found]

@[simp] theorem State.watch_settleDirection : s.settleDirection.1.watch = s.watch := by
  unfold State.settleDirection
  dsimp only
  repeat' split
  all_goals simp

@[simp] theorem State.watch_judgeBrake : s.judgeBrake.watch = s.watch := by
  rw [State.watch, s.judgeBrake_sameButSent.dci, s.judgeBrake_sameButSent.mcr]
  rfl

@[simp] theorem State.watch_finishPeriod (stepped : Bool) (y : Summary) (target : Int) (limb : Option (Limb × Nat)) :
    (s.finishPeriod stepped y target limb).watch = s.watch := by
  have units (u : State) (w : Nat) : (u.superviseUnits w).watch = u.watch := by
    rw [State.watch, (u.superviseUnits_sameButSent w).dci, (u.superviseUnits_sameButSent w).mcr]
    rfl
  simp [State.finishPeriod, units]

@[simp] theorem State.watch_computePeriod : s.computePeriod.1.watch = s.watch := by simp [State.computePeriod]

@[simp] theorem State.watch_publishSetpoint : s.publishSetpoint.watch = s.watch := by
  unfold State.publishSetpoint
  split <;> simp

@[simp] theorem State.watch_supervise : s.supervise.watch = s.watch := by
  simp [State.supervise, State.vigilWarning, State.vigilTrip]

/-- The work of a period leaves the desk and the modes (R50); its closing tests come after it. -/
@[simp] theorem State.watch_periodWork : s.periodWork.watch = s.watch := by
  unfold State.periodWork
  cases s.mcr.mode with
  | starting | failed | standby => rfl
  | step => simp [State.publishHold]
  | configure | hold =>
    dsimp only
    split <;> simp [State.publishHold]
  | service | holdPending => cases h : s.computePeriod.2.distance <;> simp [h]

@[simp] theorem State.watch_startPeriod : s.startPeriod.watch = s.watch := rfl

end Sys2Proof.Machine
end

section
/-! SUPPORT. What the desk delivers (R40, R44): the levels and the handle at the traction unit and the sounders, the
consumers of a good scan, the loss and the recovery of the desk, the raise of DESK (R43). -/

namespace Sys2Proof.Machine

variable {s t u : State}

/-! ### Views (R40, R44) -/

/-- The traction unit's inputs when it knows a view. -/
def View.inputs (v : View) : DriverInputs :=
  ⟨v.handle, heldIn v.image .deadman, heldIn v.image .handleEmerg, heldIn v.image .dirFwd, heldIn v.image .dirRev⟩

/-- The safe view: all released but KEY_ON, which is as it was held (R40). -/
def Desk.safeView (d : Desk) : View := ⟨if d.heldKey then 1 else 0, 0⟩

theorem Desk.view_of_ok {d : Desk} (h : d.state = .ok) : d.view = ⟨d.image, d.handle⟩ := by rw [Desk.view, h]

theorem Desk.view_of_lost {d : Desk} (h : d.state = .lost) : d.view = d.safeView := by
  rw [Desk.view, h]
  rfl

theorem Desk.heldIn_safeView (d : Desk) {i : DeskInput} (h : i ≠ .keyOn) : heldIn d.safeView.image i = false := by
  have hbit : i.bit ≠ 0 := by cases i <;> simp [DeskInput.bit] at h ⊢
  unfold heldIn Desk.safeView
  cases d.heldKey <;> simp [BitVec.getLsbD_one, hbit]

theorem Desk.inputs_safeView (d : Desk) : d.safeView.inputs = ⟨0, false, false, false, false⟩ := by
  simp [View.inputs, d.heldIn_safeView]
  rfl

/-- A level that is not due is as it was. -/
theorem heldIn_of_not_due {o n : View} {i : DeskInput} (h : ¬ levelDue (some o) n i = true) :
    heldIn n.image i = heldIn o.image i := by
  simp [levelDue] at h
  exact h.symm

/-- Inputs that know the old view or the new one know the new one after its delivery. -/
theorem DriverInputs.deliver_eq {i : DriverInputs} {o n : View} (h : i = o.inputs ∨ i = n.inputs) :
    i.deliver (some o) n = n.inputs := by
  obtain rfl | rfl := h <;> simp [DriverInputs.deliver, View.inputs, levelDue, handleDue]

/-! ### The traction unit's and the sounders' shares (R64, R65, R169) -/

theorem State.deadmanHeld_tdu (s : State) :
    s.deadmanHeld.tdu = { s.tdu.vigilCleared with marks := { s.tdu.marks with vigil := false } } := by
  unfold State.deadmanHeld
  cases h : s.tdu.marks.vigil with
  | true =>
    rw [if_pos rfl, State.lift_tdu]
    rfl
  | false =>
    have same : { s.tdu.marks with vigil := false } = s.tdu.marks := by rw [← h]
    rw [same]
    rfl

theorem State.emergencyHandle_tdu (s : State) (level : Bool) :
    (s.emergencyHandle level).tdu = { s.tdu with marks := { s.tdu.marks with handle := level } } := by
  unfold State.emergencyHandle
  cases level with
  | true =>
    rw [if_pos rfl, State.setFlag_tdu, State.raise_tdu]
    rfl
  | false =>
    cases h : s.tdu.marks.handle with
    | true =>
      rw [if_neg nofun, if_pos rfl, State.lift_tdu]
      rfl
    | false =>
      have same : { s.tdu.marks with handle := false } = s.tdu.marks := by rw [← h]
      rw [same]
      rfl

/-- A delivery changes the inputs, the vigilance timer and the marks of what was raised alone (R64, R65). -/
theorem State.deliverTraction_tdu (s : State) (o : Option View) (n : View) :
    (s.deliverTraction o n).tdu =
      { (if levelDue o n .deadman && heldIn n.image .deadman then s.tdu.vigilCleared else s.tdu) with
        inputs := s.tdu.inputs.deliver o n
        marks := (s.deliverTraction o n).tdu.marks } := by
  unfold State.deliverTraction
  cases levelDue o n .deadman && heldIn n.image .deadman <;> cases levelDue o n .handleEmerg <;>
    simp [State.deadmanHeld_tdu, State.emergencyHandle_tdu, Traction.vigilCleared]

@[simp] theorem State.deliverTraction_inputs (s : State) (o : Option View) (n : View) :
    (s.deliverTraction o n).tdu.inputs = s.tdu.inputs.deliver o n := by rw [State.deliverTraction_tdu]

@[simp] theorem State.deliverTraction_speed (s : State) (o : Option View) (n : View) :
    (s.deliverTraction o n).tdu.speed = s.tdu.speed := by
  rw [State.deliverTraction_tdu]
  split <;> rfl

theorem State.mem_deliverTraction_iff (s : State) (o : Option View) (n : View) {e : Restriction}
    (hv : e.source ≠ .vigil) (hh : e.source ≠ .handle) : e ∈ (s.deliverTraction o n).rsl ↔ e ∈ s.rsl := by
  have deadman (u : State) : e ∈ u.deadmanHeld.rsl ↔ e ∈ u.rsl := by
    unfold State.deadmanHeld
    dsimp only
    split
    · exact State.mem_lift_iff hv _ _
    · rfl
  have handle (u : State) (b : Bool) : e ∈ (u.emergencyHandle b).rsl ↔ e ∈ u.rsl := by
    unfold State.emergencyHandle
    split
    · rw [State.setFlag_rsl]
      exact State.mem_raise_iff hh _ _ _
    · split
      · exact State.mem_lift_iff hh _ _
      · rfl
  have first : e ∈ State.rsl (if levelDue o n .deadman && heldIn n.image .deadman then
      (s.withTdu { s.tdu with inputs := s.tdu.inputs.deliver o n }).deadmanHeld
      else s.withTdu { s.tdu with inputs := s.tdu.inputs.deliver o n }) ↔ e ∈ s.rsl := by
    split
    · exact deadman _
    · rfl
  unfold State.deliverTraction
  dsimp only
  split
  · exact (handle _ _).trans first
  · exact first

@[simp] theorem State.deliverHorn_hornLevel (s : State) (o : Option View) (n : View) :
    (s.deliverHorn o n).ssq.hornLevel = if levelDue o n .horn then heldIn n.image .horn else s.ssq.hornLevel := by
  unfold State.deliverHorn
  dsimp only
  split
  · split
    · rfl
    · exact State.hornLevel_of_cab (State.cab_hornRelease _)
  · rfl

/-- A sounder that knows the old level or the new one knows the new one after its delivery. -/
theorem State.deliverHorn_eq {o n : View}
    (h : s.ssq.hornLevel = heldIn o.image .horn ∨ s.ssq.hornLevel = heldIn n.image .horn) :
    (s.deliverHorn (some o) n).ssq.hornLevel = heldIn n.image .horn := by
  rw [State.deliverHorn_hornLevel]
  split
  · rfl
  · next hd => rw [heldIn_of_not_due hd] at h ⊢; simpa using h

/-- No channel falls silent at a delivery that does not release HORN (R169). -/
theorem State.deliverHorn_idle {o : Option View} {n : View}
    (h : ¬ levelDue o n .horn = true ∨ heldIn n.image .horn = true) (ch : Channel) :
    (s.deliverHorn o n).ssq.idle ch = s.ssq.idle ch := by
  unfold State.deliverHorn
  dsimp only
  split
  · next hd =>
    rw [if_pos (h.resolve_left (not_not_intro hd))]
    cases ch <;> rfl
  · rfl

/-! ### All levels (R44) -/

@[simp] theorem State.deliverLevels_dci (s : State) (o : Option View) (n : View) :
    (s.deliverLevels o n).dci = s.dci := by simp [State.deliverLevels]
@[simp] theorem State.deliverLevels_mcr (s : State) (o : Option View) (n : View) :
    (s.deliverLevels o n).mcr = s.mcr := by simp [State.deliverLevels]
@[simp] theorem State.deliverLevels_rtu (s : State) (o : Option View) (n : View) :
    (s.deliverLevels o n).rtu = s.rtu := by simp [State.deliverLevels]
@[simp] theorem State.deliverLevels_sru (s : State) (o : Option View) (n : View) :
    (s.deliverLevels o n).sru = s.sru := by simp [State.deliverLevels]
@[simp] theorem State.deliverLevels_tlk (s : State) (o : Option View) (n : View) :
    (s.deliverLevels o n).tlk = s.tlk := by simp [State.deliverLevels]
@[simp] theorem State.deliverLevels_speed (s : State) (o : Option View) (n : View) :
    (s.deliverLevels o n).tdu.speed = s.tdu.speed := by simp [State.deliverLevels]

theorem State.deliverLevels_inputs {o n : View} (h : s.tdu.inputs = o.inputs) :
    (s.deliverLevels (some o) n).tdu.inputs = n.inputs := by
  rw [State.deliverLevels, State.deliverHorn_tdu, State.deliverTraction_inputs, DriverInputs.deliver_eq (.inl h)]

theorem State.deliverLevels_hornLevel {o n : View} (h : s.ssq.hornLevel = heldIn o.image .horn) :
    (s.deliverLevels (some o) n).ssq.hornLevel = heldIn n.image .horn :=
  State.deliverHorn_eq (.inl (by rw [State.deliverTraction_ssq]; exact h))

theorem State.mem_deliverLevels_iff (s : State) (o : Option View) (n : View) {e : Restriction}
    (hv : e.source ≠ .vigil) (hh : e.source ≠ .handle) : e ∈ (s.deliverLevels o n).rsl ↔ e ∈ s.rsl := by
  rw [State.deliverLevels, State.deliverHorn_rsl]
  exact s.mem_deliverTraction_iff o n hv hh

/-! ### DESK raised (R43) -/

@[simp] theorem State.raiseDesk_dci (s : State) (k : DeskKind) : (s.raiseDesk k).dci = { s.dci with raised := some k } := by
  simp [State.raiseDesk]
@[simp] theorem State.raiseDesk_tdu (s : State) (k : DeskKind) : (s.raiseDesk k).tdu = s.tdu := by simp [State.raiseDesk]
@[simp] theorem State.raiseDesk_mcr (s : State) (k : DeskKind) : (s.raiseDesk k).mcr = s.mcr := by simp [State.raiseDesk]
@[simp] theorem State.raiseDesk_rtu (s : State) (k : DeskKind) : (s.raiseDesk k).rtu = s.rtu := by simp [State.raiseDesk]
@[simp] theorem State.raiseDesk_sru (s : State) (k : DeskKind) : (s.raiseDesk k).sru = s.sru := by simp [State.raiseDesk]
@[simp] theorem State.raiseDesk_tlk (s : State) (k : DeskKind) : (s.raiseDesk k).tlk = s.tlk := by simp [State.raiseDesk]
@[simp] theorem State.raiseDesk_ssq (s : State) (k : DeskKind) : (s.raiseDesk k).ssq = s.ssq := by simp [State.raiseDesk]

theorem State.raiseDesk_rsl (s : State) (k : DeskKind) : (s.raiseDesk k).rsl =
    (s.raise .desk 0 (match k with | .hold => .hold | .emergency => .emergency false)).rsl := by
  simp only [State.raiseDesk, State.raise_rsl]
  rfl

/-- A raise of DESK stands with its kind, but for an EMERGENCY that a HOLD finds there (R85). -/
theorem State.deskStands_raiseDesk (hm : s.mcr.mode ≠ .standby) (k : DeskKind) :
    deskStands s.rsl (s.raiseDesk k).rsl k := by
  rw [State.raiseDesk_rsl]
  cases k with
  | emergency =>
    refine ⟨fun _ => ?_, nofun⟩
    obtain ⟨e, he, hsrc, hkey, hkind | ⟨hne, -⟩⟩ := State.exists_mem_raise hm .desk 0 (k := .emergency false) (by decide)
    · exact ⟨e, he, hsrc, hkey, hkind⟩
    · exact absurd rfl (hne false)
  | hold =>
    refine ⟨nofun, fun _ => ?_⟩
    obtain ⟨e, he, hsrc, hkey, hkind | ⟨-, hemerg, hold⟩⟩ := State.exists_mem_raise hm .desk 0 (k := .hold) (by decide)
    · exact .inl ⟨e, he, hsrc, hkey, hkind⟩
    · exact .inr ⟨e, hold, hsrc, hkey, hemerg, he⟩

/-- What stands of DESK stands in lists with the same entries of DESK. -/
theorem deskStands_congr {k : DeskKind} {before before' after after' : List Restriction}
    (h : deskStands before after k) (hb : ∀ e : Restriction, e.source = .desk → (e ∈ before' ↔ e ∈ before))
    (ha : ∀ e : Restriction, e.source = .desk → (e ∈ after' ↔ e ∈ after)) : deskStands before' after' k := by
  have stands {x : Restraint} (hx : standsAs after .desk x) : standsAs after' .desk x := by
    obtain ⟨e, he, hsrc, hrest⟩ := hx
    exact ⟨e, (ha e hsrc).mpr he, hsrc, hrest⟩
  refine ⟨fun hk => stands (h.1 hk), fun hk => (h.2 hk).imp stands ?_⟩
  rintro ⟨e, he, hsrc, hkey, hkind, hafter⟩
  exact ⟨e, (hb e hsrc).mpr he, hsrc, hkey, hkind, (ha e hsrc).mpr hafter⟩

/-! ### The desk lost and recovered (R40, R42) -/

theorem State.loseDesk_of_active (h : s.mcr.mode.active = true) :
    s.loseDesk = (((s.withDci { s.dci with state := .lost, badRun := 0, goodRun := 0 }).deliverLevels
      (some s.dci.view) s.dci.safeView).raiseDesk s.deskKind).setFlag .deskLost := by
  unfold State.loseDesk
  dsimp only
  rw [if_pos h]
  rfl

theorem State.loseDesk_of_inactive (h : s.mcr.mode.active = false) :
    s.loseDesk = (s.withDci { s.dci with state := .lost, badRun := 0, goodRun := 0 }).setFlag .deskLost := by
  unfold State.loseDesk
  dsimp only
  rw [if_neg (by simp [h])]

theorem State.loseDesk_dci (s : State) : s.loseDesk.dci =
    { s.dci with
      state := .lost, badRun := 0, goodRun := 0
      raised := if s.mcr.mode.active then some s.deskKind else s.dci.raised } := by
  cases h : s.mcr.mode.active
  · rw [State.loseDesk_of_inactive h]
    simp
  · rw [State.loseDesk_of_active h]
    simp

@[simp] theorem State.loseDesk_mcr (s : State) : s.loseDesk.mcr = s.mcr := by simp [State.loseDesk, apply_ite State.mcr]

theorem State.loseDesk_isSet (s : State) : s.loseDesk.efn.isSet .deskLost = true := State.setFlag_isSet _ _

theorem State.deskStands_loseDesk (h : s.mcr.mode.active = true) : deskStands s.rsl s.loseDesk.rsl s.deskKind := by
  rw [State.loseDesk_of_active h, State.setFlag_rsl]
  refine deskStands_congr (State.deskStands_raiseDesk ?_ _) (fun e he => ?_) fun _ _ => .rfl
  · rw [State.deliverLevels_mcr]
    intro hm
    rw [show s.mcr.mode = .standby from hm] at h
    cases h
  · rw [State.mem_deliverLevels_iff _ _ _ (by rw [he]; decide) (by rw [he]; decide)]
    rfl

/-- A desk that is lost delivers the safe view (R40). -/
theorem State.loseDesk_delivers (h : s.mcr.mode.active = true) (hi : s.tdu.inputs = s.dci.view.inputs)
    (hh : s.ssq.hornLevel = heldIn s.dci.view.image .horn) :
    s.loseDesk.tdu.inputs = ⟨0, false, false, false, false⟩ ∧ s.loseDesk.ssq.hornLevel = false := by
  rw [State.loseDesk_of_active h, State.setFlag_tdu, State.setFlag_ssq, State.raiseDesk_tdu, State.raiseDesk_ssq]
  constructor
  · rw [State.deliverLevels_inputs, Desk.inputs_safeView]
    exact hi
  · rw [State.deliverLevels_hornLevel, Desk.heldIn_safeView _ (by decide)]
    exact hh

theorem State.recoverDesk_of_active (h : s.mcr.mode.active = true) :
    s.recoverDesk = (((s.withDci { s.dci with state := .ok, badRun := 0, goodRun := 0 }).deliverLevels
      (some s.dci.view) ⟨s.dci.image, s.dci.handle⟩).lift .desk 0).setFlag .deskOk := by
  unfold State.recoverDesk
  dsimp only
  rw [if_pos h]
  rfl

theorem State.recoverDesk_of_inactive (h : s.mcr.mode.active = false) :
    s.recoverDesk = (s.withDci { s.dci with state := .ok, badRun := 0, goodRun := 0 }).setFlag .deskOk := by
  unfold State.recoverDesk
  dsimp only
  rw [if_neg (by simp [h])]

@[simp] theorem State.recoverDesk_dci (s : State) :
    s.recoverDesk.dci = { s.dci with state := .ok, badRun := 0, goodRun := 0 } := by
  simp [State.recoverDesk, apply_ite State.dci]
@[simp] theorem State.recoverDesk_mcr (s : State) : s.recoverDesk.mcr = s.mcr := by
  simp [State.recoverDesk, apply_ite State.mcr]
@[simp] theorem State.recoverDesk_rtu (s : State) : s.recoverDesk.rtu = s.rtu := by
  simp [State.recoverDesk, apply_ite State.rtu]

theorem State.recoverDesk_isSet (s : State) : s.recoverDesk.efn.isSet .deskOk = true := State.setFlag_isSet _ _

theorem State.recoverDesk_speed (s : State) : s.recoverDesk.tdu.speed = s.tdu.speed := by
  cases h : s.mcr.mode.active
  · rw [State.recoverDesk_of_inactive h]
    simp
  · rw [State.recoverDesk_of_active h]
    simp

/-- A recovering desk delivers the stored view (R42). -/
theorem State.recoverDesk_delivers (h : s.mcr.mode.active = true) (hi : s.tdu.inputs = s.dci.view.inputs)
    (hh : s.ssq.hornLevel = heldIn s.dci.view.image .horn) :
    s.recoverDesk.tdu.inputs = (View.mk s.dci.image s.dci.handle).inputs ∧
      s.recoverDesk.ssq.hornLevel = heldIn s.dci.image .horn := by
  rw [State.recoverDesk_of_active h, State.setFlag_tdu, State.setFlag_ssq, State.lift_tdu, State.lift_ssq]
  constructor
  · rw [State.deliverLevels_inputs]
    exact hi
  · rw [State.deliverLevels_hornLevel]
    exact hh

/-- Out of the safe view HORN is never released, so that no channel falls silent at a recovery. -/
theorem State.recoverDesk_idle (h : s.dci.state = .lost) (ch : Channel) :
    s.recoverDesk.ssq.idle ch = s.ssq.idle ch := by
  cases ha : s.mcr.mode.active
  · rw [State.recoverDesk_of_inactive ha]
    simp
  · rw [State.recoverDesk_of_active ha, State.setFlag_ssq, State.lift_ssq, State.deliverLevels]
    refine (State.deliverHorn_idle ?_ ch).trans (by rw [State.deliverTraction_ssq]; rfl)
    rw [Desk.view_of_lost h, levelDue, Desk.heldIn_safeView _ (by decide)]
    cases heldIn s.dci.image .horn <;> simp

/-- After a recovery the list holds of DESK an EMERGENCY with its lift requested, or nothing (R42, R86, R87). -/
theorem State.recoverDesk_leaves (h : s.mcr.mode.active = true) (hd : (identities s.rsl).Nodup) :
    ∀ e ∈ s.recoverDesk.rsl, e.source = .desk → e.key = 0 → e.kind = .emergency true := by
  rw [State.recoverDesk_of_active h, State.setFlag_rsl]
  refine State.lift_leaves (State.Keeps.rsl (s := s) ?_ hd)
  exact ((State.Keeps.refl s).withDci _).deliverLevels _ _

end Sys2Proof.Machine
end

section
/-! SUPPORT. Good scans (R38, R44): the consumers in any order, and what their shares come to. -/

namespace Sys2Proof.Machine

variable {s t u : State} {c : ScanChange}

/-! ### Free orders (log 6) -/

/-- Every code gives an order of the list. -/
theorem permute_perm {α : Type} (code : Nat) (l : List α) : (permute code l).Perm l := by
  induction l generalizing code with
  | nil => exact .refl _
  | cons x xs ih =>
    cases xs with
    | nil => exact .refl _
    | cons y ys =>
      refine List.perm_middle.trans (.cons x ?_)
      rw [List.take_append_drop]
      exact ih _

/-- A run that meets an action reaches what that action brings, if each action keeps it. -/
theorem foldl_reaches {α : Type} {f : State → α → State} {l : List α} {x : α} {P R : State → Prop} (hx : x ∈ l)
    (keep : ∀ u, ∀ y ∈ l, P u → P (f u y)) (reach : ∀ u, P u → R (f u x)) (stay : ∀ u, ∀ y ∈ l, R u → R (f u y))
    (h : P s) : R (l.foldl f s) := by
  obtain ⟨l₁, l₂, rfl⟩ := List.append_of_mem hx
  rw [List.foldl_append, List.foldl_cons]
  refine List.foldlRecOn l₂ f (reach _ (List.foldlRecOn l₁ f h fun u hu y hy => ?_)) fun u hu y hy => ?_
  · exact keep u y (List.mem_append_left _ hy) hu
  · exact stay u y (List.mem_append_right _ (List.mem_cons_of_mem _ hy)) hu

/-! ### The consumers' shares -/

/-- The control takes the key (R200, R201). -/
theorem State.deliverTo_control (c : ScanChange) (s : State) : State.deliverTo c s .control = s.keyChanged := rfl

/-- Outside the modes that serve the desk only the key is delivered (R44). -/
theorem State.deliverTo_of_inactive (h : s.mcr.mode.active = false) (c : ScanChange) {x : Consumer}
    (hx : x ≠ .control) : State.deliverTo c s x = s := by
  cases x with
  | control => exact absurd rfl hx
  | traction | sound | route | stops => exact if_neg (by simp [h])

theorem State.deliverTo_traction (h : s.mcr.mode.active = true) (c : ScanChange) :
    State.deliverTo c s .traction = s.deliverTraction (some c.old) c.new := if_pos h

theorem State.deliverTo_sound (h : s.mcr.mode.active = true) (c : ScanChange) :
    State.deliverTo c s .sound = s.deliverSound c := if_pos h

theorem State.deliverTo_route (h : s.mcr.mode.active = true) (c : ScanChange) : State.deliverTo c s .route =
    (permute (Config.arrivalOrder c.orders 1) (routeInputs.filter c.pressed)).foldl State.routePress s := if_pos h

theorem State.deliverTo_stops (h : s.mcr.mode.active = true) (c : ScanChange) : State.deliverTo c s .stops =
    (permute (Config.arrivalOrder c.orders 2) (stopInputs.filter c.pressed)).foldl State.stopPress s := if_pos h

theorem State.cab_deliverTo_route (c : ScanChange) (s : State) : (State.deliverTo c s .route).cab = s.cab := by
  cases h : s.mcr.mode.active
  · rw [State.deliverTo_of_inactive h c (by decide)]
  · rw [State.deliverTo_route h, State.cab_foldl State.cab_routePress]

theorem State.cab_deliverTo_stops (c : ScanChange) (s : State) : (State.deliverTo c s .stops).cab = s.cab := by
  cases h : s.mcr.mode.active
  · rw [State.deliverTo_of_inactive h c (by decide)]
  · rw [State.deliverTo_stops h, State.cab_foldl State.cab_stopPress]

/-- The sounders' share leaves the desk, the traction unit and the modes, and is the HORN level's delivery for the
HORN level. -/
theorem State.cab_deliverSound (c : ScanChange) (s : State) :
    (s.deliverSound c).cab = (s.deliverHorn (some c.old) c.new).cab := by simp [State.deliverSound]

@[simp] theorem State.watch_deliverTraction (s : State) (o : Option View) (n : View) :
    (s.deliverTraction o n).watch = s.watch := by
  simp [State.watch]

theorem State.watch_deliverSound (c : ScanChange) (s : State) : (s.deliverSound c).watch = s.watch := by
  rw [State.watch_of_cab (State.cab_deliverSound c s), State.watch, State.deliverHorn_dci, State.deliverHorn_mcr]
  rfl

/-- All consumers but the control leave the desk, the modes and the speed. -/
theorem State.deliverTo_keeps (c : ScanChange) (s : State) {x : Consumer} (hx : x ≠ .control) :
    (State.deliverTo c s x).watch = s.watch ∧ (State.deliverTo c s x).tdu.speed = s.tdu.speed := by
  cases h : s.mcr.mode.active
  · rw [State.deliverTo_of_inactive h c hx]
    exact ⟨rfl, rfl⟩
  · cases x with
    | control => exact absurd rfl hx
    | traction =>
      rw [State.deliverTo_traction h]
      simp
    | sound =>
      rw [State.deliverTo_sound h, State.watch_deliverSound, State.tdu_of_cab (s := s.deliverHorn _ _)
        (State.cab_deliverSound c s)]
      simp
    | route =>
      have hc := State.cab_deliverTo_route c s
      exact ⟨State.watch_of_cab hc, by rw [State.tdu_of_cab hc]⟩
    | stops =>
      have hc := State.cab_deliverTo_stops c s
      exact ⟨State.watch_of_cab hc, by rw [State.tdu_of_cab hc]⟩

/-! ### The key at the control (R200, R201) -/

theorem State.keyChanged_of_on (hk : s.dci.heldKey = true) (hm : s.mcr.mode ≠ .standby) : s.keyChanged = s := by
  rw [State.keyChanged, if_pos hk, if_neg hm]

theorem State.keyChanged_of_off (hk : s.dci.heldKey = false) : s.keyChanged = s.standbyTest := by
  rw [State.keyChanged, if_neg (by simp [hk])]

/-- Out of STANDBY the key enters STANDBY or changes nothing. -/
theorem State.keyChanged_cases (h : s.dci.heldKey = true → s.mcr.mode ≠ .standby) :
    s.keyChanged = s ∨ s.dci.heldKey = false ∧ s.keyChanged = s.enterStandby := by
  cases hk : s.dci.heldKey with
  | true => exact .inl (State.keyChanged_of_on hk (h hk))
  | false =>
    rw [State.keyChanged_of_off hk]
    exact s.standbyTest_cases.imp_right fun hs => ⟨rfl, hs.2⟩

/-- In STANDBY with the key off a scan delivers nothing. -/
theorem State.deliverTo_of_standby (hm : s.mcr.mode = .standby) (hk : s.dci.heldKey = false) (c : ScanChange)
    (x : Consumer) : State.deliverTo c s x = s := by
  by_cases hx : x = .control
  · rw [hx, State.deliverTo_control, State.keyChanged_of_off hk]
    exact State.standbyTest_of_mode (by simp [hm]) (by simp [hm]) (by simp [hm])
  · exact State.deliverTo_of_inactive (by rw [hm]; rfl) c hx

/-! ### All shares of a scan -/

theorem ScanChange.mem_consumers {code : Nat} {x : Consumer} :
    x ∈ permute code ([Consumer.traction, .sound, .route, .stops, .control].filter c.due) ↔ c.due x = true := by
  rw [(permute_perm _ _).mem_iff, List.mem_filter]
  exact and_iff_right (by cases x <;> decide)

/-- But for the record of a DESK raise, which the entry to STANDBY clears, a scan's deliveries leave the desk. -/
theorem State.deliverScan_dci (c : ScanChange) (h : s.dci.heldKey = true → s.mcr.mode ≠ .standby) :
    (s.deliverScan c).dci.standby = s.dci.standby ∧
      (s.dci.heldKey = true → (s.deliverScan c).mcr.mode ≠ .standby) := by
  have held {d d' : Desk} (hd : d.standby = d'.standby) : d.heldKey = d'.heldKey :=
    show d.standby.heldKey = d'.standby.heldKey by rw [hd]
  refine List.foldlRecOn (motive := fun u : State => u.dci.standby = s.dci.standby ∧
    (s.dci.heldKey = true → u.mcr.mode ≠ .standby)) _ _ ⟨rfl, h⟩ fun u hu x _ => ?_
  obtain ⟨hd, hm⟩ := hu
  by_cases hx : x = .control
  · rw [hx, State.deliverTo_control]
    obtain hs | ⟨hk, hs⟩ := State.keyChanged_cases (s := u) fun hk => hm ((held hd).symm.trans hk)
    · rw [hs]
      exact ⟨hd, hm⟩
    · rw [hs]
      exact ⟨hd, fun hon => by rw [← held hd, hk] at hon; cases hon⟩
  · obtain ⟨hw, -⟩ := u.deliverTo_keeps c hx
    rw [State.dci_of_watch hw, State.mcr_of_watch hw]
    exact ⟨hd, hm⟩

/-- A key that goes off at standstill takes the part to STANDBY, whatever else the scan delivers (R200). -/
theorem State.deliverScan_standsBy (hc : c.due .control = true) (hk : s.dci.heldKey = false) (hs : s.still)
    (hm : s.mcr.mode = .service ∨ s.mcr.mode = .holdPending ∨ s.mcr.mode = .hold) :
    (s.deliverScan c).StandsBy ∧ (s.deliverScan c).dci.heldKey = false := by
  have asleep {v : State} (hv : v.StandsBy ∧ v.dci.heldKey = false) (x : Consumer) : State.deliverTo c v x = v :=
    State.deliverTo_of_standby hv.1.1 hv.2 c x
  have enters {v : State} (hv : v.watch = s.watch ∧ v.tdu.speed = s.tdu.speed) :
      (State.deliverTo c v .control).StandsBy ∧ (State.deliverTo c v .control).dci.heldKey = false := by
    obtain ⟨hw, hspeed⟩ := hv
    have hoff : v.dci.heldKey = false := by rw [State.dci_of_watch hw, hk]
    rw [State.deliverTo_control, State.keyChanged_of_off hoff, State.standbyTest_of_still hoff
      (by rw [State.mcr_of_watch hw]; exact hm) (by rw [State.still, hspeed]; exact hs)]
    exact ⟨v.enterStandby_standsBy, hoff⟩
  refine foldl_reaches (x := Consumer.control) (R := fun u => u.StandsBy ∧ u.dci.heldKey = false)
    (P := fun u => (u.watch = s.watch ∧ u.tdu.speed = s.tdu.speed) ∨ (u.StandsBy ∧ u.dci.heldKey = false))
    (ScanChange.mem_consumers.mpr hc) (fun u x _ hu => ?_) (fun u hu => ?_) (fun u x _ hu => ?_) (.inl ⟨rfl, rfl⟩)
  · obtain hu | hu := hu
    · by_cases hx : x = .control
      · exact .inr (hx ▸ enters hu)
      · obtain ⟨hw, hspeed⟩ := u.deliverTo_keeps c hx
        exact .inl ⟨hw.trans hu.1, hspeed.trans hu.2⟩
    · rw [asleep hu]
      exact .inr hu
  · obtain hu | hu := hu
    · exact enters hu
    · rw [asleep hu]
      exact hu
  · rw [asleep hu]
    exact hu

/-- What one consumer learns of a scan, and the others leave, it knows after the scan in any order. -/
theorem State.deliverScan_learns {β : Type} {g : State → β} {o n : β} {x : Consumer} {Base : State → Prop}
    (keep : ∀ u y, c.due y = true → Base u → Base (State.deliverTo c u y))
    (learn : ∀ u, Base u → g u = o ∨ g u = n → g (State.deliverTo c u x) = n)
    (other : ∀ u y, c.due y = true → Base u → y ≠ x → g (State.deliverTo c u y) = g u)
    (hdue : ¬ c.due x = true → o = n) (hs : Base s) (h : g s = o) : g (s.deliverScan c) = n := by
  have step (u : State) (y : Consumer) (hy : c.due y = true) (hu : Base u ∧ (g u = o ∨ g u = n)) :
      Base (State.deliverTo c u y) ∧ (g (State.deliverTo c u y) = o ∨ g (State.deliverTo c u y) = n) := by
    refine ⟨keep u y hy hu.1, ?_⟩
    by_cases hyx : y = x
    · exact .inr (hyx ▸ learn u hu.1 hu.2)
    · rw [other u y hy hu.1 hyx]
      exact hu.2
  by_cases hx : c.due x = true
  · refine (foldl_reaches (P := fun u => Base u ∧ (g u = o ∨ g u = n)) (R := fun u => Base u ∧ g u = n)
      (ScanChange.mem_consumers.mpr hx) (fun u y hy hu => step u y (ScanChange.mem_consumers.mp hy) hu)
      (fun u hu => ⟨keep u x hx hu.1, learn u hu.1 hu.2⟩) (fun u y hy hu => ?_) ⟨hs, .inl h⟩).2
    have hy := ScanChange.mem_consumers.mp hy
    refine ⟨keep u y hy hu.1, ?_⟩
    by_cases hyx : y = x
    · exact hyx ▸ learn u hu.1 (.inr hu.2)
    · rw [other u y hy hu.1 hyx]
      exact hu.2
  · have hend : Base (s.deliverScan c) ∧ (g (s.deliverScan c) = o ∨ g (s.deliverScan c) = n) :=
      List.foldlRecOn (motive := fun u : State => Base u ∧ (g u = o ∨ g u = n)) _ _ ⟨hs, .inl h⟩
        fun u hu y hy => step u y (ScanChange.mem_consumers.mp hy) hu
    have hon := hdue hx
    obtain ⟨-, hend | hend⟩ := hend
    · exact hend.trans hon
    · exact hend

theorem State.deliverTo_inputs (h : s.mcr.mode.active = true) (c : ScanChange) {x : Consumer} (hx : x ≠ .control)
    (ht : x ≠ .traction) : (State.deliverTo c s x).tdu.inputs = s.tdu.inputs := by
  cases x with
  | control => exact absurd rfl hx
  | traction => exact absurd rfl ht
  | sound =>
    rw [State.deliverTo_sound h, State.tdu_of_cab (s := s.deliverHorn _ _) (State.cab_deliverSound c s),
      State.deliverHorn_tdu]
  | route => rw [State.tdu_of_cab (State.cab_deliverTo_route c s)]
  | stops => rw [State.tdu_of_cab (State.cab_deliverTo_stops c s)]

theorem State.deliverTo_hornLevel (h : s.mcr.mode.active = true) (c : ScanChange) {x : Consumer} (hx : x ≠ .control)
    (hs : x ≠ .sound) : (State.deliverTo c s x).ssq.hornLevel = s.ssq.hornLevel := by
  cases x with
  | control => exact absurd rfl hx
  | traction => rw [State.deliverTo_traction h, State.deliverTraction_ssq]
  | sound => exact absurd rfl hs
  | route => exact State.hornLevel_of_cab (State.cab_deliverTo_route c s)
  | stops => exact State.hornLevel_of_cab (State.cab_deliverTo_stops c s)

/-- Where the key moves nothing at the control, all that serve the desk know the scan's levels and handle in the end,
as they knew the view before it (R44). -/
theorem State.deliverScan_delivers (ha : s.mcr.mode.active = true)
    (hkey : ∀ u : State, c.due .control = true → u.watch = s.watch → u.tdu.speed = s.tdu.speed → u.keyChanged = u)
    (hi : s.tdu.inputs = c.old.inputs) (hh : s.ssq.hornLevel = heldIn c.old.image .horn) :
    (s.deliverScan c).tdu.inputs = c.new.inputs ∧ (s.deliverScan c).ssq.hornLevel = heldIn c.new.image .horn := by
  have active {u : State} (hu : u.watch = s.watch ∧ u.tdu.speed = s.tdu.speed) : u.mcr.mode.active = true := by
    rw [State.mcr_of_watch hu.1, ha]
  have idle {u : State} (hc : c.due .control = true) (hu : u.watch = s.watch ∧ u.tdu.speed = s.tdu.speed) :
      State.deliverTo c u .control = u := hkey u hc hu.1 hu.2
  have keep (u : State) (y : Consumer) (hy : c.due y = true) (hu : u.watch = s.watch ∧ u.tdu.speed = s.tdu.speed) :
      (State.deliverTo c u y).watch = s.watch ∧ (State.deliverTo c u y).tdu.speed = s.tdu.speed := by
    by_cases hx : y = .control
    · rw [hx, idle (hx ▸ hy) hu]
      exact hu
    · obtain ⟨hw, hspeed⟩ := u.deliverTo_keeps c hx
      exact ⟨hw.trans hu.1, hspeed.trans hu.2⟩
  constructor
  · refine State.deliverScan_learns (x := .traction) (g := fun u => u.tdu.inputs) keep (fun u hu h => ?_)
      (fun u y hy hu hne => ?_) (fun hdue => ?_) ⟨rfl, rfl⟩ hi
    · rw [State.deliverTo_traction (active hu), State.deliverTraction_inputs, DriverInputs.deliver_eq h]
    · by_cases hx : y = .control
      · rw [hx, idle (hx ▸ hy) hu]
      · exact State.deliverTo_inputs (active hu) c hx hne
    · simp [ScanChange.due, levelDue, handleDue] at hdue
      simp [View.inputs, hdue]
  · refine State.deliverScan_learns (x := .sound) (g := fun u => u.ssq.hornLevel) keep (fun u hu h => ?_)
      (fun u y hy hu hne => ?_) (fun hdue => ?_) ⟨rfl, rfl⟩ hh
    · rw [State.deliverTo_sound (active hu), State.hornLevel_of_cab (s := u.deliverHorn _ _)
        (State.cab_deliverSound c u), State.deliverHorn_eq h]
    · by_cases hx : y = .control
      · rw [hx, idle (hx ▸ hy) hu]
      · exact State.deliverTo_hornLevel (active hu) c hx hne
    · simp [ScanChange.due, levelDue] at hdue
      exact hdue.1.1

/-! ### Scans in OK and in LOST (R38, R41, R42) -/

/-- What a good scan in OK changes. -/
def State.scanChange (s : State) (image : Word) (handle : Int) : ScanChange :=
  ⟨⟨s.dci.image, s.dci.handle⟩, ⟨image, handle⟩, image &&& ~~~ s.dci.image, s.dci.heldKey, heldIn image .keyOn,
    s.env.free⟩

/-- The part with a good scan stored in OK, before its deliveries. -/
def State.scanned (s : State) (image : Word) (handle : Int) : State :=
  (s.withDci { s.dci with image := image, handle := handle, heldKey := heldIn image .keyOn, badRun := 0 }).bumpFree

/-- The part with a good scan counted in LOST, before the desk recovers. -/
def State.counted (s : State) (image : Word) (handle : Int) : State :=
  s.withDci { s.dci with
    image := image, handle := handle, heldKey := heldIn image .keyOn, goodRun := s.dci.goodRun + 1 }

theorem State.goodScan_of_ok (h : s.dci.state = .ok) (image : Word) (handle : Int) :
    s.goodScan image handle = (s.scanned image handle).deliverScan (s.scanChange image handle) := by
  have hview : (s.scanned image handle).dci.view = ⟨image, handle⟩ := Desk.view_of_ok h
  unfold State.goodScan
  split
  · rw [State.scanChange, ← hview, Desk.view_of_ok h]
    rfl
  · next hl => rw [h] at hl; cases hl

theorem State.goodScan_of_lost (h : s.dci.state = .lost) (image : Word) (handle : Int) :
    s.goodScan image handle =
      (if s.dci.heldKey = heldIn image .keyOn then
        if s.dci.goodRun = 4 then (s.counted image handle).recoverDesk else s.counted image handle
      else State.keyChanged
        (if s.dci.goodRun = 4 then (s.counted image handle).recoverDesk else s.counted image handle)) := by
  unfold State.goodScan
  split
  · next hl => rw [h] at hl; cases hl
  · by_cases hk : s.dci.heldKey = heldIn image .keyOn <;> by_cases hg : s.dci.goodRun = 4 <;>
      simp [hk, hg, State.counted]

/-- The part with its open exchange closed by a scan (R37). -/
def State.closed (s : State) : State := s.withDci { s.dci with exchangeOpen := false }

theorem exec_scan_of_good {bytes : List Byte} {image : Word} {handle : Int} (ho : s.dci.exchangeOpen = true)
    (h : acceptScan bytes = some (image, handle)) : exec (.scanArrivalEnd ⟨bytes, false⟩) s =
      .next (State.completionAfter s (s.closed.goodScan image handle)) := by
  change execScanArrivalEnd _ _ = _
  rw [execScanArrivalEnd, State.judgeScan, h, ho]
  rfl

theorem exec_scan_of_bad {bytes : List Byte} (ho : s.dci.exchangeOpen = true) (h : acceptScan bytes = none) :
    exec (.scanArrivalEnd ⟨bytes, false⟩) s = .next (State.completionAfter s s.closed.badScan) := by
  change execScanArrivalEnd _ _ = _
  rw [execScanArrivalEnd, State.judgeScan, h, ho]
  rfl

end Sys2Proof.Machine
end

section
/-! SUPPORT. Holds entered and left, and the entry to STANDBY (R95, R197, R198, R200), with the statement about them. -/

namespace Sys2Proof.Machine

variable {s t u : State}

/-! ### Changes of mode that drive on (R197, R198) -/

/-- Between SERVICE and HOLD_PENDING a change of mode tests DOORS alone. -/
theorem State.changeMode_driving {m : Mode} (h : s.mcr.mode = .service ∧ m = .holdPending ∨
    s.mcr.mode = .holdPending ∧ m = .service) : s.changeMode m = (s.withMode m).doorsTest := by
  obtain ⟨hs, rfl⟩ | ⟨hs, rfl⟩ := h <;> (unfold State.changeMode; rw [hs]; rfl)

/-- DOORS, held as it should be, is held so between SERVICE and HOLD_PENDING. -/
theorem State.changeMode_driving_of_held {m : Mode} (hd : s.DoorsHeld) (h : s.mcr.mode = .service ∧ m = .holdPending ∨
    s.mcr.mode = .holdPending ∧ m = .service) : s.changeMode m = s.withMode m := by
  rw [State.changeMode_driving h]
  obtain ⟨hs, rfl⟩ | ⟨hs, rfl⟩ := h <;> exact State.withMode_doorsTest (by rw [hs]; rfl) rfl hd

/-- A hold that does not complete at once leaves all but the mode (R197). -/
theorem actHoldSoft_of_incomplete (r : Request) (hk : s.dci.heldKey = true) (hd : s.DoorsHeld) (hm : s.mcr.mode = .service)
    (hc : ¬ s.holdComplete = true) : actHoldSoft r s = (s.withMode .holdPending, .plain .done) := by
  unfold actHoldSoft
  rw [hm]
  dsimp only
  rw [State.changeMode_driving_of_held hd (.inl ⟨hm, rfl⟩),
    State.completionTest_of_incomplete (s := s.withMode .holdPending) hc,
    State.standbyTest_of_key (s := s.withMode .holdPending) hk]

/-- A hold that is complete at once is HOLD (R198). -/
theorem actHoldSoft_of_complete (r : Request) (hk : s.dci.heldKey = true) (hm : s.mcr.mode = .service)
    (hc : s.holdComplete = true) : actHoldSoft r s = ((s.changeMode .holdPending).inHold, .plain .done) := by
  have heq := State.changeMode_driving (s := s) (.inl ⟨hm, rfl⟩)
  have hkey : (s.changeMode .holdPending).dci.heldKey = true := by rw [State.changeMode_dci, hk]
  have hcomplete : (s.changeMode .holdPending).holdComplete = true := by
    rw [State.holdComplete_iff, State.still, heq, State.doorsTest_tdu, State.doorsTest_rtu, State.doorsTest_ssq]
    exact s.holdComplete_iff.mp hc
  unfold actHoldSoft
  rw [hm]
  dsimp only
  rw [State.completionTest_of_complete (by rw [State.changeMode_mcr]) hcomplete, State.enterHold_of_key hkey,
    State.standbyTest_of_key (by rw [State.inHold_dci, hkey])]

/-- What is said of a hold that has been entered. -/
theorem State.inHold_spec (h : s.mcr.mode.driving = true) : s.inHold.mcr.mode = .hold ∧ hasEntry s.inHold.rsl .mode ∧
    s.inHold.tdu.eCmd = s.tdu.eCmd ∧ s.inHold.tdu.vigil = 0 ∧ s.inHold.rtu = s.rtu ∧ s.inHold.ssq.allIdle = true := by
  rw [State.inHold_tdu h, State.inHold_ssq h, State.inHold_rtu, State.inHold_mcr]
  exact ⟨rfl, s.hasEntry_inHold, rfl, rfl, rfl, Sounder.silenced_allIdle _⟩

/-- A lift takes the entry under key 0 of a source that has entries of kind HOLD alone (R86). -/
theorem State.not_hasEntry_lift {src : Source} (hd : (identities s.rsl).Nodup) (hh : onlyHold s.rsl src) :
    ¬ hasEntry (s.lift src 0).rsl src := by
  rintro ⟨e, he, hsrc, hkey⟩
  have hn : e.names src 0 = true := (e.names_iff src 0).mpr ⟨hsrc, hkey⟩
  rw [State.lift_rsl] at he
  cases hf : findRestriction s.rsl src 0 with
  | none =>
    rw [hf] at he
    exact List.find?_eq_none.mp hf e he hn
  | some x =>
    have hx : x.kind = .hold := hh x (List.mem_of_find?_eq_some hf) (source_of_findRestriction hf)
    simp only [hf, hx] at he
    exact not_names_of_mem_eraseP hd he hn

/-- SERVICE entered out of HOLD lifts MODE, and E_cmd stays as it is (R95). -/
theorem State.enterService_spec (hk : s.dci.heldKey = true) (hm : s.mcr.mode = .hold) (hd : s.Distinct) (hh : s.ModeHeld) :
    s.enterService.mcr.mode = .service ∧ s.enterService.tdu.eCmd = s.tdu.eCmd ∧ ¬ hasEntry s.enterService.rsl .mode ∧
      s.enterService.rtu = s.rtu := by
  have heq : s.enterService = ((s.lift .mode 0).withMode .service).reportChannels.doorsTest := by
    unfold State.enterService
    rw [State.standbyTest_of_key (by rw [State.changeMode_dci, State.lift_dci, hk])]
    unfold State.changeMode
    rw [State.lift_mcr, hm]
    rfl
  have hsame := ((s.lift .mode 0).withMode .service).reportChannels_sameButSent
  rw [heq, State.doorsTest_mcr, State.doorsTest_tdu, State.doorsTest_rtu, hsame.mcr, hsame.tdu, hsame.rtu]
  refine ⟨rfl, congrArg Traction.eCmd (State.lift_tdu s .mode 0), ?_, State.lift_rtu s .mode 0⟩
  rintro ⟨e, he, hsrc, hkey⟩
  rw [State.mem_doorsTest_iff (by rw [hsrc]; decide), hsame.rsl] at he
  exact State.not_hasEntry_lift hd.2.2.1 hh.1 ⟨e, he, hsrc, hkey⟩

/-! ### The end of a speed evaluation (R198, R200) -/

theorem exec_controlPeriod_of_evaluates (h : s.mcr.mode.evaluates = true) :
    exec .controlPeriod s = .next s.startPeriod.periodWork.completionTest.standbyTest := by
  change execControlPeriod s = _
  rw [execControlPeriod, if_pos h]

/-- With the key on a period completes HOLD_PENDING or finds it incomplete (R198). -/
theorem State.completionTest_spec (hk : s.dci.heldKey = true) (hm : s.mcr.mode = .holdPending) :
    (s.completionTest.standbyTest.mcr.mode = .holdPending ∧
      (¬ s.completionTest.standbyTest.still ∨ s.completionTest.standbyTest.rtu.queue ≠ [] ∨
        s.completionTest.standbyTest.ssq.allIdle = false)) ∨
    (s.completionTest.standbyTest.mcr.mode = .hold ∧ s.completionTest.standbyTest.still ∧
      s.completionTest.standbyTest.rtu.queue = [] ∧ s.completionTest.standbyTest.ssq.allIdle = true ∧
      hasEntry s.completionTest.standbyTest.rsl .mode) := by
  have hd : s.mcr.mode.driving = true := by rw [hm]; rfl
  by_cases hc : s.holdComplete = true
  · rw [State.completionTest_of_complete hm hc, State.enterHold_of_key hk,
      State.standbyTest_of_key (by rw [State.inHold_dci, hk])]
    obtain ⟨hstill, hqueue, -⟩ := s.holdComplete_iff.mp hc
    obtain ⟨hmode, hentry, -, -, hrtu, hidle⟩ := State.inHold_spec hd
    exact .inr ⟨hmode, (State.inHold_still hd).mpr hstill, by rw [hrtu, hqueue], hidle, hentry⟩
  · rw [State.completionTest_of_incomplete hc, State.standbyTest_of_key hk]
    rw [State.holdComplete_iff, not_and_or, not_and_or, Bool.not_eq_true] at hc
    exact .inl ⟨hm, hc⟩

/-- With the key off a period ends in STANDBY at standstill, and changes no mode in motion (R200). -/
theorem State.endTests_of_off (hk : s.dci.heldKey = false)
    (hm : s.mcr.mode = .service ∨ s.mcr.mode = .holdPending ∨ s.mcr.mode = .hold) :
    (s.still ∧ ∃ u : State, u.dci = s.dci ∧ s.completionTest.standbyTest = u.enterStandby) ∨
      (¬ s.still ∧ s.completionTest.standbyTest = s) := by
  by_cases hs : s.still
  · refine .inl ⟨hs, ?_⟩
    by_cases hc : s.mcr.mode = .holdPending ∧ s.holdComplete = true
    · have hstill := (State.inHold_still (s := s) (by rw [hc.1]; rfl)).mpr hs
      refine ⟨s.inHold, s.inHold_dci, ?_⟩
      rw [State.completionTest_of_complete hc.1 hc.2, State.enterHold_eq,
        State.standbyTest_of_still (by rw [State.inHold_dci, hk]) (.inr (.inr (by rw [State.inHold_mcr]))) hstill]
      exact State.standbyTest_of_mode (s := s.inHold.enterStandby) nofun nofun nofun
    · refine ⟨s, rfl, ?_⟩
      rw [State.completionTest, if_neg hc, State.standbyTest_of_still hk hm hs]
  · refine .inr ⟨hs, ?_⟩
    rw [State.completionTest_of_incomplete fun hc => hs (s.holdComplete_iff.mp hc).1, State.standbyTest_of_moving hs]

/-! ### A scan that turns the key off (R200) -/

/-- A desk that counts a good scan with another key, recovered or not, gives it to the control. -/
theorem State.goodScan_standsBy {image : Word} {handle : Int} (hon : s.dci.heldKey = true)
    (hoff : image.getLsbD 0 = false) (hs : s.still)
    (hm : s.mcr.mode = .service ∨ s.mcr.mode = .holdPending ∨ s.mcr.mode = .hold) :
    (s.goodScan image handle).StandsBy ∧ (s.goodScan image handle).dci.heldKey = false := by
  have hkey : heldIn image .keyOn = false := hoff
  cases h : s.dci.state with
  | ok =>
    rw [State.goodScan_of_ok h]
    refine State.deliverScan_standsBy ?_ hkey hs hm
    simp [ScanChange.due, State.scanChange, hon, hkey]
  | lost =>
    have enters {u : State} (hd : u.dci.heldKey = false) (hmode : u.mcr = s.mcr) (hspeed : u.tdu.speed = s.tdu.speed) :
        u.keyChanged.StandsBy ∧ u.keyChanged.dci.heldKey = false := by
      rw [State.keyChanged_of_off hd, State.standbyTest_of_still hd (by rw [hmode]; exact hm)
        (by rw [State.still, hspeed]; exact hs)]
      exact ⟨u.enterStandby_standsBy, hd⟩
    rw [State.goodScan_of_lost h, if_neg (by simp [hon, hkey])]
    split
    · exact enters (by rw [State.recoverDesk_dci]; exact hkey) (State.recoverDesk_mcr _) (State.recoverDesk_speed _)
    · exact enters hkey rfl rfl

/-! ### The statement -/

theorem holdSoft_holds {r : Request} (hk : s.dci.heldKey = true) (h : s.asked r .holdSoft) (hm : s.mcr.mode = .service) :
    (s.DoorsHeld → (¬ s.still ∨ s.rtu.queue ≠ [] ∨ s.ssq.allIdle = false) →
      ∃ t, exec .holdSoft s = .next t ∧ t.mcr.mode = .holdPending ∧ t.rsl = s.rsl ∧ t.tdu = s.tdu ∧ t.rtu = s.rtu ∧
        t.ssq = s.ssq) ∧
    (s.still → s.rtu.queue = [] → s.ssq.allIdle = true →
      ∃ t, exec .holdSoft s = .next t ∧ t.mcr.mode = .hold ∧ hasEntry t.rsl .mode ∧ t.tdu.eCmd = s.tdu.eCmd ∧
        t.tdu.vigil = 0 ∧ t.rtu = s.rtu ∧ t.ssq.allIdle = true) := by
  refine ⟨fun hd hc => ⟨_, congrArg Host.Outcome.next (manage_of_asked h (by decide) actHoldSoft), ?_⟩,
    fun hs hq hi => ⟨_, congrArg Host.Outcome.next (manage_of_asked h (by decide) actHoldSoft), ?_⟩⟩
  · rw [actHoldSoft_of_incomplete (s := s.taken) r hk hd hm ?_]
    · simp only [State.respond_mcr, State.respond_tdu, State.respond_rtu, State.respond_ssq, State.respond_rsl]
      exact ⟨rfl, rfl, rfl, rfl, rfl⟩
    · rw [State.holdComplete_iff, not_and_or, not_and_or, Bool.not_eq_true]
      exact hc
  · rw [actHoldSoft_of_complete (s := s.taken) r hk hm ((State.holdComplete_iff _).mpr ⟨hs, hq, hi⟩)]
    simp only [State.respond_mcr, State.respond_tdu, State.respond_rtu, State.respond_ssq, State.respond_rsl]
    have heq := State.changeMode_driving (s := s.taken) (.inl ⟨hm, rfl⟩)
    obtain ⟨hmode, hentry, hcmd, hvigil, hrtu, hidle⟩ := State.inHold_spec (s := s.taken.changeMode .holdPending)
      (by rw [State.changeMode_mcr]; rfl)
    refine ⟨hmode, hentry, hcmd.trans ?_, hvigil, hrtu.trans (State.changeMode_rtu _ _), hidle⟩
    rw [heq, State.doorsTest_tdu]
    rfl

theorem holdHard_holds {r : Request} (h : s.asked r .holdHard) (hk : s.dci.heldKey = true)
    (hm : s.mcr.mode = .service ∨ s.mcr.mode = .holdPending) :
    (s.still → ∃ t, exec .holdHard s = .next t ∧ t.mcr.mode = .hold ∧ hasEntry t.rsl .mode ∧ t.tdu.eCmd = s.tdu.eCmd ∧
      t.tdu.vigil = 0 ∧ t.rtu = s.rtu ∧ t.ssq.allIdle = true) ∧
    (¬ s.still → exec .holdHard s = .next (s.taken.respond r ⟨.refusedBusy, []⟩)) := by
  have hact : actHoldHard r s.taken =
      if s.taken.standstill then (s.taken.enterHold, .plain .done) else (s.taken, .plain .refusedBusy) := by
    unfold actHoldHard
    obtain hm | hm := hm <;> rw [show s.taken.mcr.mode = _ from hm]
  have hexec : exec .holdHard s = .next ((actHoldHard r s.taken).1.respond r (actHoldHard r s.taken).2) :=
    congrArg Host.Outcome.next (manage_of_asked h (by decide) actHoldHard)
  refine ⟨fun hs => ⟨_, hexec, ?_⟩, fun hs => hexec.trans ?_⟩
  · rw [hact, if_pos (s.taken.standstill_iff.mpr hs), State.enterHold_of_key (s := s.taken) hk]
    simp only [State.respond_mcr, State.respond_tdu, State.respond_rtu, State.respond_ssq, State.respond_rsl]
    exact State.inHold_spec (s := s.taken) ((Mode.driving_iff _).mpr hm)
  · rw [hact, if_neg (mt s.taken.standstill_iff.mp hs)]
    rfl

theorem release_holds {r : Request} (h : s.asked r .release) (hk : s.dci.heldKey = true) :
    (s.mcr.mode = .hold → s.Distinct → s.ModeHeld →
      ∃ t, exec .release s = .next t ∧ t.mcr.mode = .service ∧ t.tdu.eCmd = 0 ∧ ¬ hasEntry t.rsl .mode ∧
        t.rtu = s.rtu) ∧
    (s.DoorsHeld → s.mcr.mode = .holdPending →
      ∃ t, exec .release s = .next t ∧ t.mcr.mode = .service ∧ t.tdu = s.tdu ∧ t.rsl = s.rsl) := by
  have hexec : exec .release s = .next ((actRelease r s.taken).1.respond r (actRelease r s.taken).2) :=
    congrArg Host.Outcome.next (manage_of_asked h (by decide) actRelease)
  refine ⟨fun hm hd hh => ⟨_, hexec, ?_⟩, fun hd hm => ⟨_, hexec, ?_⟩⟩
  · have hact : actRelease r s.taken = ((s.taken.withTdu { s.tdu with eCmd := 0 }).enterService, .plain .done) := by
      unfold actRelease
      rw [show s.taken.mcr.mode = _ from hm]
      rfl
    rw [hact]
    simp only [State.respond_mcr, State.respond_tdu, State.respond_rtu, State.respond_rsl]
    exact State.enterService_spec (s := s.taken.withTdu { s.tdu with eCmd := 0 }) hk hm hd hh
  · have hact : actRelease r s.taken = (s.taken.withMode .service, .plain .done) := by
      unfold actRelease
      rw [show s.taken.mcr.mode = _ from hm]
      dsimp only
      rw [State.changeMode_driving_of_held (s := s.taken) hd (.inr ⟨hm, rfl⟩),
        State.standbyTest_of_key (s := s.taken.withMode .service) hk]
    rw [hact]
    simp only [State.respond_mcr, State.respond_tdu, State.respond_rsl]
    exact ⟨rfl, rfl, rfl⟩

/-- Settles O47: the three requests, the end of a speed evaluation with the key on and off, and the scan that turns the
key off. -/
theorem holdsAreEnteredAndLeft : Obligations.HoldsAreEnteredAndLeft := by
  have work (s : State) : s.startPeriod.periodWork.dci = s.dci ∧ s.startPeriod.periodWork.mcr = s.mcr :=
    ⟨State.dci_of_watch (by simp), State.mcr_of_watch (by simp)⟩
  refine ⟨fun s r hk => ⟨fun h hd hm => (holdSoft_holds hk h hm).1 hd, fun h hm => (holdSoft_holds hk h hm).2,
    fun h hm => (holdHard_holds h hk hm).1, fun h hm => (holdHard_holds h hk hm).2,
    fun h => (release_holds h hk).1, fun h => (release_holds h hk).2⟩, fun s hk hm => ?_, fun s hk hm => ?_,
    fun s bytes image handle ho ha hon hoff hs hm => ?_⟩
  · obtain ⟨hdci, hmcr⟩ := work s
    exact ⟨_, exec_controlPeriod_of_evaluates (by rw [hm]; rfl),
      State.completionTest_spec (by rw [hdci, hk]) (by rw [hmcr, hm])⟩
  · obtain ⟨hdci, hmcr⟩ := work s
    refine ⟨_, exec_controlPeriod_of_evaluates (by obtain hm | hm | hm := hm <;> (rw [hm]; rfl)), ?_⟩
    obtain ⟨-, u, hu, heq⟩ | ⟨hmoves, heq⟩ := State.endTests_of_off (by rw [hdci, hk]) (by rw [hmcr]; exact hm)
    · rw [heq]
      refine .inl ⟨u.enterStandby_standsBy, ?_⟩
      rw [← hdci, ← hu]
      rfl
    · rw [heq]
      exact .inr ⟨by rw [hmcr], hmoves, hdci⟩
  · obtain ⟨hstands, hkey⟩ := State.goodScan_standsBy (s := s.closed) (handle := handle) hon hoff hs hm
    refine ⟨_, exec_scan_of_good ho ha, ?_⟩
    rw [State.completionAfter_of_mode (by rw [hstands.1]; decide)]
    exact ⟨hstands, hkey⟩

end Sys2Proof.Machine
end

section
/-! SUPPORT. The scan expiry (R36, R41, R47, R48): what a missing scan and an escalation leave of what the lamps show, the
bits of the lamp image, with the statement about them. -/

namespace Sys2Proof.Machine

variable {s t u : State}

/-! ### The lamp image (R210) -/

/-- Lamp `n` is condition `n`, and there is none beyond the conditions. -/
theorem lampWord_getLsbD {l : List Bool} (h : l.length ≤ 32) (n : Nat) : (lampWord l).getLsbD n = l.getD n false := by
  have hsum : l.zipIdx.map (fun (b, i) => if b then 2 ^ i else 0) =
      (List.range l.length).map fun p => if l.getD p false then 2 ^ p else 0 := by
    refine List.ext_getElem (by simp) fun i hi _ => ?_
    have hlt : i < l.length := by simpa using hi
    simp [List.getElem?_eq_getElem hlt]
  rw [lampWord, hsum, BitVec.getLsbD_ofNat, testBit_sum_bits]
  by_cases hn : n < l.length
  · simp [hn, hn.trans_le h]
  · simp [hn]

/-! ### What a scan expiry leaves of the rest of the part -/

theorem State.link_setFlag (s : State) (f : Flag) (p : Line) : ((s.setFlag f).port p).link = (s.port p).link :=
  ((s.sends_setFlag f).port p).link

theorem State.link_raise (s : State) (src : Source) (key : Half) (k : Restraint) (p : Line) :
    ((s.raise src key k).port p).link = (s.port p).link := by
  unfold State.raise
  split
  · rfl
  · split
    · exact State.link_setFlag _ _ _
    · split
      · rfl
      · exact State.link_setFlag _ _ _

theorem State.link_lift (s : State) (src : Source) (key : Half) (p : Line) :
    ((s.lift src key).port p).link = (s.port p).link := by
  unfold State.lift
  split
  · rfl
  · split
    · rfl
    · exact State.link_setFlag _ _ _
    · exact State.link_setFlag _ _ _

theorem State.link_deliverLevels (s : State) (o : Option View) (n : View) (p : Line) :
    ((s.deliverLevels o n).port p).link = (s.port p).link := by
  have deadman (u : State) : (u.deadmanHeld.port p).link = (u.port p).link := by
    unfold State.deadmanHeld
    dsimp only
    split
    · exact State.link_lift _ _ _ _
    · rfl
  have handle (u : State) (b : Bool) : ((u.emergencyHandle b).port p).link = (u.port p).link := by
    unfold State.emergencyHandle
    repeat' split
    · exact (State.link_setFlag _ _ _).trans (State.link_raise _ _ _ _ _)
    · exact State.link_lift _ _ _ _
    · rfl
  rw [State.deliverLevels, State.port, State.deliverHorn_line]
  change ((s.deliverTraction o n).port p).link = _
  unfold State.deliverTraction
  dsimp only
  repeat' split
  · exact (handle _ _).trans (deadman _)
  · exact handle _ _
  · exact deadman _
  · rfl

/-- From `s` to `t` the desk has acted, and the other blocks show the lamps what they showed: the traction unit has other
inputs and marks at most, and the stop requests, the junctions, the track link, the mode and the links are the same. -/
structure State.Shows (s t : State) : Prop where
  image : t.dci.image = s.dci.image
  handle : t.dci.handle = s.dci.handle
  heldKey : t.dci.heldKey = s.dci.heldKey
  tdu : t.tdu = { s.tdu with inputs := t.tdu.inputs, marks := t.tdu.marks }
  sru : t.sru = s.sru
  rtu : t.rtu = s.rtu
  tlk : t.tlk = s.tlk
  mcr : t.mcr = s.mcr
  link : ∀ p, (t.port p).link = (s.port p).link

theorem State.Shows.refl (s : State) : s.Shows s := ⟨rfl, rfl, rfl, rfl, rfl, rfl, rfl, rfl, fun _ => rfl⟩

theorem State.Shows.trans (h : s.Shows t) (k : t.Shows u) : s.Shows u where
  image := k.image.trans h.image
  handle := k.handle.trans h.handle
  heldKey := k.heldKey.trans h.heldKey
  tdu := by rw [k.tdu, h.tdu]
  sru := k.sru.trans h.sru
  rtu := k.rtu.trans h.rtu
  tlk := k.tlk.trans h.tlk
  mcr := k.mcr.trans h.mcr
  link := fun p => (k.link p).trans (h.link p)

theorem State.Shows.deskKind (h : s.Shows t) : t.deskKind = s.deskKind := by
  unfold State.deskKind State.standstill
  rw [h.mcr, h.tdu]

theorem State.shows_raiseDesk (s : State) (k : DeskKind) : s.Shows (s.raiseDesk k) :=
  ⟨by simp, by simp, by simp, by simp, by simp, by simp, by simp, by simp, fun _ => State.link_raise _ _ _ _ _⟩

theorem State.shows_setFlag (s : State) (f : Flag) : s.Shows (s.setFlag f) :=
  ⟨by simp, by simp, by simp, by simp, by simp, by simp, by simp, by simp, fun _ => State.link_setFlag _ _ _⟩

/-- The safe view does not hold DEADMAN, so that its delivery leaves the vigilance timer (R40, R64). -/
theorem State.shows_loseDesk (s : State) : s.Shows s.loseDesk := by
  cases h : s.mcr.mode.active with
  | false =>
    rw [State.loseDesk_of_inactive h]
    exact State.Shows.trans (t := s.withDci { s.dci with state := .lost, badRun := 0, goodRun := 0 })
      ⟨rfl, rfl, rfl, rfl, rfl, rfl, rfl, rfl, fun _ => rfl⟩ (State.shows_setFlag _ _)
  | true =>
    rw [State.loseDesk_of_active h]
    refine State.Shows.trans (t := (s.withDci { s.dci with state := .lost, badRun := 0, goodRun := 0 }).deliverLevels
      (some s.dci.view) s.dci.safeView) ?_ ((State.shows_raiseDesk _ s.deskKind).trans (State.shows_setFlag _ _))
    refine ⟨by simp, by simp, by simp, ?_, by simp, by simp, by simp, by simp,
      fun p => State.link_deliverLevels _ _ _ p⟩
    rw [State.deliverLevels, State.deliverHorn_tdu, State.deliverTraction_tdu, Desk.heldIn_safeView _ (by decide),
      Bool.and_false]
    rfl

/-- A bad scan: its run in OK, the loss of the desk at the third, and the end of a good run in LOST (R39, R40). -/
theorem State.badScan_of_run (h : s.dci.state = .ok) (hr : s.dci.badRun < 2) :
    s.badScan = s.withDci { s.dci with badScans := satInc s.dci.badScans, badRun := s.dci.badRun + 1 } := by
  unfold State.badScan
  rw [h]
  exact if_neg (by omega)

theorem State.badScan_of_third (h : s.dci.state = .ok) (hr : s.dci.badRun = 2) :
    s.badScan = (s.withDci { s.dci with badScans := satInc s.dci.badScans }).loseDesk := by
  unfold State.badScan
  rw [h]
  exact if_pos (by omega)

theorem State.badScan_of_lost (h : s.dci.state = .lost) :
    s.badScan = s.withDci { s.dci with badScans := satInc s.dci.badScans, goodRun := 0 } := by
  unfold State.badScan
  rw [h]

theorem State.shows_badScan (s : State) : s.Shows s.badScan := by
  unfold State.badScan
  dsimp only
  split
  · split
    · exact State.Shows.trans (t := s.withDci { s.dci with badScans := satInc s.dci.badScans })
        ⟨rfl, rfl, rfl, rfl, rfl, rfl, rfl, rfl, fun _ => rfl⟩ (State.shows_loseDesk _)
    · exact ⟨rfl, rfl, rfl, rfl, rfl, rfl, rfl, rfl, fun _ => rfl⟩
  · exact ⟨rfl, rfl, rfl, rfl, rfl, rfl, rfl, rfl, fun _ => rfl⟩

/-! ### The escalation (R41, R46) -/

theorem State.escalateDesk_cases (s : State) : s.escalateDesk = s ∨ ∃ k, s.escalateDesk = s.raiseDesk k := by
  unfold State.escalateDesk
  split
  · split
    · exact .inr ⟨_, rfl⟩
    · exact .inr ⟨_, rfl⟩
    · exact .inl rfl
  · exact .inl rfl

theorem State.escalateDesk_of_idle (h : s.dci.state = .ok ∨ s.mcr.mode.active = false) : s.escalateDesk = s :=
  if_neg fun k => by obtain h | h := h <;> simp [h] at k

/-- A DESK that has not been raised, or was raised as HOLD where R43 now chooses EMERGENCY, is raised. -/
theorem State.escalateDesk_of_due (h : s.dci.state = .lost) (ha : s.mcr.mode.active = true)
    (hr : s.dci.raised = none ∨ s.dci.raised = some .hold ∧ s.deskKind = .emergency) :
    s.escalateDesk = s.raiseDesk s.deskKind := by
  unfold State.escalateDesk
  rw [if_pos ⟨h, ha⟩]
  obtain hr | ⟨hr, hk⟩ := hr
  · rw [hr]
  · rw [hr, hk]

theorem State.escalateDesk_of_stands (hr : s.dci.raised = some .emergency ∨ s.dci.raised = some .hold ∧ s.deskKind = .hold) :
    s.escalateDesk = s := by
  unfold State.escalateDesk
  split
  · obtain hr | ⟨hr, hk⟩ := hr
    · rw [hr]
    · rw [hr, hk]
  · rfl

/-- A desk just lost has been raised with the kind that R43 chooses. -/
theorem State.escalateDesk_loseDesk (s : State) : s.loseDesk.escalateDesk = s.loseDesk := by
  cases ha : s.mcr.mode.active with
  | false => exact State.escalateDesk_of_idle (.inr (by rw [State.loseDesk_mcr, ha]))
  | true =>
    have hraised : s.loseDesk.dci.raised = some s.loseDesk.deskKind := by
      rw [s.shows_loseDesk.deskKind, State.loseDesk_dci, ha]
      rfl
    refine State.escalateDesk_of_stands ?_
    cases hk : s.loseDesk.deskKind <;> simp [hraised, hk]

theorem State.shows_escalateDesk (s : State) : s.Shows s.escalateDesk := by
  obtain h | ⟨k, h⟩ := s.escalateDesk_cases <;> rw [h]
  · exact .refl s
  · exact s.shows_raiseDesk k

theorem State.escalateDesk_dci (s : State) : s.escalateDesk.dci.standby = s.dci.standby := by
  obtain h | ⟨k, h⟩ := s.escalateDesk_cases <;> rw [h]
  rw [State.raiseDesk_dci]
  rfl

theorem State.escalateDesk_ssq (s : State) : s.escalateDesk.ssq = s.ssq := by
  obtain h | ⟨k, h⟩ := s.escalateDesk_cases <;> rw [h]
  simp

/-! ### The expiry (R36) -/

/-- The part with an exchange still open counted as a bad scan. -/
def State.judged (s : State) : State := if s.dci.exchangeOpen then s.badScan else s

/-- The part at a scan expiry when the lamp image is assembled. -/
def State.supervised (s : State) : State := s.judged.escalateDesk

/-- The part after a scan expiry and the completion test that follows it (R198). -/
def State.scanExpired (s : State) : State := State.completionAfter s s.scanExpiry

theorem State.scanExpiry_eq (s : State) : s.scanExpiry = s.supervised.withDci
    { s.supervised.dci with scanLeft := 20, exchangeOpen := true, lamps := s.supervised.lampImage } := rfl

theorem State.judged_of_closed (h : s.dci.exchangeOpen = false) : s.judged = s := if_neg (by simp [h])

theorem State.judged_of_open (h : s.dci.exchangeOpen = true) : s.judged = s.badScan := if_pos h

theorem State.shows_supervised (s : State) : s.Shows s.supervised := by
  refine State.Shows.trans (t := s.judged) ?_ (State.shows_escalateDesk _)
  unfold State.judged
  split
  · exact s.shows_badScan
  · exact .refl s

/-- But for the record of a DESK raise, the completion test leaves the desk. -/
theorem State.completionAfter_dci (s t : State) : (State.completionAfter s t).dci.standby = t.dci.standby := by
  obtain ⟨u, hu, h | ⟨-, -, h⟩⟩ := State.completionAfter_settles s t <;> rw [h, ← hu.dci]
  rfl

/-- What of the desk is not the record of a DESK raise is in the end as the expiry left it. -/
theorem State.scanExpired_desk (s : State) : s.scanExpired.dci.standby = s.scanExpiry.dci.standby :=
  State.completionAfter_dci _ _

/-- The timer, the exchange and the stored scan after an expiry (R36). -/
theorem State.scanExpired_exchange (s : State) : s.scanExpired.dci.scanLeft = 20 ∧
    s.scanExpired.dci.exchangeOpen = true ∧ s.scanExpired.dci.image = s.dci.image ∧
    s.scanExpired.dci.handle = s.dci.handle ∧ s.scanExpired.dci.heldKey = s.dci.heldKey := by
  have hdesk := s.scanExpired_desk
  have hshows := s.shows_supervised
  exact ⟨congrArg Desk.scanLeft hdesk, congrArg Desk.exchangeOpen hdesk,
    (congrArg Desk.image hdesk).trans hshows.image, (congrArg Desk.handle hdesk).trans hshows.handle,
    (congrArg Desk.heldKey hdesk).trans hshows.heldKey⟩

/-- The state of the desk, its counter and its runs after an expiry are those after a missing scan, or as they were. -/
theorem State.scanExpired_counts (s : State) : s.scanExpired.dci.state = s.judged.dci.state ∧
    s.scanExpired.dci.badScans = s.judged.dci.badScans ∧ s.scanExpired.dci.badRun = s.judged.dci.badRun ∧
    s.scanExpired.dci.goodRun = s.judged.dci.goodRun := by
  have hdesk := s.scanExpired_desk
  have hesc := s.judged.escalateDesk_dci
  have kept {β : Type} (f : Desk → β) (hf : ∀ d : Desk, f d.standby = f d)
      (hx : f s.scanExpiry.dci = f s.judged.escalateDesk.dci) : f s.scanExpired.dci = f s.judged.dci := by
    rw [← hf, hdesk, hf, hx, ← hf, hesc, hf]
  exact ⟨kept Desk.state (fun _ => rfl) rfl, kept Desk.badScans (fun _ => rfl) rfl, kept Desk.badRun (fun _ => rfl) rfl,
    kept Desk.goodRun (fun _ => rfl) rfl⟩

theorem State.badScan_badScans (s : State) : s.badScan.dci.badScans = satInc s.dci.badScans := by
  unfold State.badScan
  dsimp only
  split
  · split
    · rw [State.loseDesk_dci]
      rfl
    · rfl
  · rfl

/-! ### The loss of the desk at an expiry (R40, R43) -/

/-- The loss of a desk that counts the third bad scan of a run sets DESK_LOST, and raises DESK in the modes that serve
it; in the others all but the desk and the flags stays. -/
theorem State.third_spec (h : s.dci.state = .ok) (hr : s.dci.badRun = 2) : s.badScan.efn.isSet .deskLost = true ∧
    (s.mcr.mode.active = true → s.badScan.dci.raised = some s.deskKind ∧ deskStands s.rsl s.badScan.rsl s.deskKind) ∧
    (s.mcr.mode.active = false → s.badScan.rsl = s.rsl ∧ s.badScan.dci.raised = s.dci.raised ∧
      s.badScan.tdu = s.tdu) := by
  rw [State.badScan_of_third h hr]
  refine ⟨State.loseDesk_isSet _, fun ha => ⟨?_, ?_⟩, fun ha => ?_⟩
  · rw [State.loseDesk_dci]
    exact if_pos ha
  · exact State.deskStands_loseDesk (s := s.withDci { s.dci with badScans := satInc s.dci.badScans }) ha
  · rw [State.loseDesk_of_inactive (s := s.withDci { s.dci with badScans := satInc s.dci.badScans }) ha]
    simp

/-- What the completion test leaves of the loss of the desk, where it enters no STANDBY (R198). -/
theorem State.Settles.third_spec {d : Desk} (k : (s.badScan.withDci d).Settles t) (hd : d.raised = s.badScan.dci.raised)
    (h : s.dci.state = .ok) (hr : s.dci.badRun = 2) : t.efn.isSet .deskLost = true ∧
    (∀ k, s.mcr.mode.active = true → s.DeskKindIs k → t.dci.raised = some k ∧ deskStands s.rsl t.rsl k) ∧
    (s.mcr.mode.active = false → t.rsl = s.rsl ∧ t.dci.raised = s.dci.raised ∧ t.tdu = s.tdu) := by
  obtain ⟨hflag, hactive, hidle⟩ := State.third_spec h hr
  have hraised : t.dci.raised = s.badScan.dci.raised := (congrArg Desk.raised k.dci).trans hd
  refine ⟨State.flagsKept_iff.mp k.flags _ hflag, fun kind ha hk => ?_, fun ha => ?_⟩
  · obtain ⟨hkind, hstands⟩ := hactive ha
    rw [hk.eq_deskKind]
    exact ⟨hraised.trans hkind, deskStands_congr hstands (fun _ _ => .rfl) fun e he =>
      k.entries e (by rw [he]; decide) (by rw [he]; decide)⟩
  · have hmode : (s.badScan.withDci d).mcr.mode ≠ .holdPending := by
      change s.badScan.mcr.mode ≠ _
      rw [s.shows_badScan.mcr]
      intro hm
      rw [hm] at ha
      cases ha
    obtain ⟨hrsl, hkept, htdu⟩ := hidle ha
    have hsame := k.same (.inl hmode)
    rw [hraised, hsame]
    exact ⟨hrsl, hkept, htdu⟩

/-- An expiry whose missing scan loses the desk (R36, R40). -/
theorem State.scanExpired_third (ho : s.dci.exchangeOpen = true) (h : s.dci.state = .ok) (hr : s.dci.badRun = 2)
    (hk : s.dci.heldKey = true ∨ s.mcr.mode ≠ .holdPending) : s.scanExpired.efn.isSet .deskLost = true ∧
    (∀ k, s.mcr.mode.active = true → s.DeskKindIs k →
      s.scanExpired.dci.raised = some k ∧ deskStands s.rsl s.scanExpired.rsl k) ∧
    (s.mcr.mode.active = false → s.scanExpired.rsl = s.rsl ∧ s.scanExpired.dci.raised = s.dci.raised) := by
  have hlost : s.supervised = s.badScan := by
    rw [State.supervised, State.judged_of_open ho, State.badScan_of_third h hr, State.escalateDesk_loseDesk]
  have hshows := s.shows_supervised
  have hsettles : s.scanExpiry.Settles s.scanExpired := State.settles_completionAfter s
    (hk.imp hshows.heldKey.trans fun hm => by
      change s.supervised.mcr.mode ≠ _
      rwa [hshows.mcr])
  rw [State.scanExpiry_eq, hlost] at hsettles
  obtain ⟨hflag, hactive, hidle⟩ := hsettles.third_spec rfl h hr
  exact ⟨hflag, hactive, fun ha => ⟨(hidle ha).1, (hidle ha).2.1⟩⟩

/-! ### The expiries of a lost desk (R41, R43, R46) -/

/-- A lost desk neither removes a junction nor falls silent at an expiry, so that no hold is completed. -/
theorem State.scanExpired_of_lost (h : s.dci.state = .lost) : s.scanExpired = s.scanExpiry := by
  have hssq : s.judged.ssq = s.ssq := by
    unfold State.judged
    split
    · rw [State.badScan_of_lost h]
      rfl
    · rfl
  refine State.completionAfter_of_idle (congrArg RouteUnit.queue s.shows_supervised.rtu) fun ch => ?_
  change s.judged.escalateDesk.ssq.idle ch = _
  rw [State.escalateDesk_ssq, hssq]

theorem State.judged_of_lost (h : s.dci.state = .lost) : s.judged.dci.state = .lost ∧
    s.judged.dci.raised = s.dci.raised ∧ s.judged.rsl = s.rsl ∧ s.judged.tdu = s.tdu ∧ s.judged.mcr = s.mcr := by
  unfold State.judged
  split
  · rw [State.badScan_of_lost h]
    exact ⟨h, rfl, rfl, rfl, rfl⟩
  · exact ⟨h, rfl, rfl, rfl, rfl⟩

/-- DESK at an expiry of a lost desk, by what was last raised and what R43 now chooses (R41, R46). -/
theorem State.scanExpired_lost (h : s.dci.state = .lost) :
    (∀ k, s.mcr.mode.active = true → s.DeskKindIs k →
      (s.dci.raised = none ∨ (s.dci.raised = some .hold ∧ k = .emergency) → s.scanExpired.dci.raised = some k ∧
        s.scanExpired.rsl = (s.raise .desk 0 (match k with | .hold => .hold | .emergency => .emergency false)).rsl) ∧
      (s.dci.raised = some .emergency ∨ (s.dci.raised = some .hold ∧ k = .hold) →
        s.scanExpired.dci.raised = s.dci.raised ∧ s.scanExpired.rsl = s.rsl)) ∧
    (s.mcr.mode.active = false → s.scanExpired.dci.raised = s.dci.raised ∧ s.scanExpired.rsl = s.rsl) := by
  obtain ⟨hstate, hraised, hrsl, htdu, hmcr⟩ := State.judged_of_lost h
  have hkind : s.judged.deskKind = s.deskKind := by
    unfold State.deskKind State.standstill
    rw [hmcr, htdu]
  have hlist : s.scanExpired.rsl = s.judged.escalateDesk.rsl := by rw [State.scanExpired_of_lost h]; rfl
  have hrecord : s.scanExpired.dci.raised = s.judged.escalateDesk.dci.raised := by
    rw [State.scanExpired_of_lost h]; rfl
  rw [hlist, hrecord]
  refine ⟨fun k ha hk => ⟨fun hdue => ?_, fun hstands => ?_⟩, fun ha => ?_⟩
  · rw [hk.eq_deskKind] at hdue ⊢
    rw [State.escalateDesk_of_due hstate (by rw [hmcr, ha]) (by rw [hraised, hkind]; exact hdue), hkind,
      State.raiseDesk_dci, State.raiseDesk_rsl, State.raise_rsl, State.raise_rsl, hrsl, hmcr, htdu]
    exact ⟨rfl, rfl⟩
  · rw [hk.eq_deskKind] at hstands
    rw [State.escalateDesk_of_stands (by rw [hraised, hkind]; exact hstands)]
    exact ⟨hraised, hrsl⟩
  · rw [State.escalateDesk_of_idle (.inr (by rw [hmcr, ha]))]
    exact ⟨hraised, hrsl⟩

/-! ### The lamps (R47, R48) -/

theorem State.lampImage_of_test (h : heldIn s.dci.view.image .lampTest = true) : s.lampImage = BitVec.allOnes 32 :=
  if_pos h

theorem State.lampImage_of_rest (h : ¬ heldIn s.dci.view.image .lampTest = true)
    (hm : s.mcr.mode = .standby ∨ s.mcr.mode = .failed) : s.lampImage = BitVec.twoPow 32 12 := by
  unfold State.lampImage
  rw [if_neg h]
  obtain hm | hm := hm <;> rw [hm]

theorem State.lampImage_of_working (h : ¬ heldIn s.dci.view.image .lampTest = true) (hs : s.mcr.mode ≠ .standby)
    (hf : s.mcr.mode ≠ .failed) : s.lampImage = lampWord s.lampConditions := by
  unfold State.lampImage
  rw [if_neg h]
  split
  · exact absurd ‹_› hs
  · exact absurd ‹_› hf
  · rfl

theorem Desk.lampTest_of_ok {d : Desk} (h : d.state = .ok) : heldIn d.view.image .lampTest = d.image.getLsbD 15 := by
  rw [Desk.view_of_ok h]
  rfl

theorem Desk.lampTest_of_lost {d : Desk} (h : d.state = .lost) : heldIn d.view.image .lampTest = false := by
  rw [Desk.view_of_lost h, Desk.heldIn_safeView _ (by decide)]

/-- The image shifted out is the one assembled, with the desk in the state that it has after the expiry. -/
theorem State.scanExpired_lamps (s : State) : s.scanExpired.dci.lamps = s.supervised.lampImage ∧
    s.scanExpired.dci.state = s.supervised.dci.state := by
  have hdesk := s.scanExpired_desk
  have hstate := congrArg Desk.state hdesk
  exact ⟨congrArg Desk.lamps hdesk, hstate⟩

/-- Where no change of mode follows the expiry, the list is the one that the lamps show. -/
theorem State.scanExpired_rsl (h : s.scanExpired.mcr.mode = s.mcr.mode) : s.scanExpired.rsl = s.supervised.rsl := by
  have hmode : s.scanExpired.mcr.mode = s.scanExpiry.mcr.mode := by
    rw [h, ← s.shows_supervised.mcr]
    rfl
  rw [State.scanExpired, State.completionAfter_of_same_mode hmode]
  rfl

/-- Outside lamp test, STANDBY and FAILED each lamp shows its condition. -/
theorem State.scanExpired_shows (hl : s.scanExpired.dci.state = .lost ∨ s.dci.image.getLsbD 15 = false)
    (hs : s.mcr.mode ≠ .standby) (hf : s.mcr.mode ≠ .failed) (n : Nat) :
    s.scanExpired.dci.lamps.getLsbD n = s.supervised.lampConditions.getD n false := by
  obtain ⟨hlamps, hstate⟩ := s.scanExpired_lamps
  have hshows := s.shows_supervised
  have hdark : ¬ heldIn s.supervised.dci.view.image .lampTest = true := by
    rw [Bool.not_eq_true]
    cases h : s.supervised.dci.state with
    | lost => exact Desk.lampTest_of_lost h
    | ok =>
      rw [Desk.lampTest_of_ok h, hshows.image]
      exact hl.resolve_left (by rw [hstate, h]; decide)
  rw [hlamps, State.lampImage_of_working hdark (by rwa [hshows.mcr]) (by rwa [hshows.mcr])]
  exact lampWord_getLsbD (Nat.le_of_ble_eq_true rfl) n

theorem emergencyPresent_iff (l : List Restriction) :
    emergencyPresent l = true ↔ ∃ e ∈ l, ∃ x, e.kind = .emergency x := by
  rw [emergencyPresent, List.any_eq_true]
  refine exists_congr fun e => and_congr_right fun _ => ?_
  cases e.kind <;> simp

/-! ### The statement -/

/-- Settles O17: the exchange, the missing scan, DESK at the expiry, the lamps. -/
theorem scanExpiryShiftsLamps : Obligations.ScanExpiryShiftsLamps := by
  intro s
  obtain ⟨hleft, hopen, himage, hhandle, hkey⟩ := s.scanExpired_exchange
  obtain ⟨hstate, hbad, hrun, hgood⟩ := s.scanExpired_counts
  have hshows := s.shows_supervised
  obtain ⟨hlamps, hdesk⟩ := s.scanExpired_lamps
  refine ⟨s.scanExpired, rfl, hleft, hopen, himage, hhandle, hkey, fun ho => ?_, fun ho => ?_, State.scanExpired_lost,
    fun h hb => ?_, fun h hb hm => ?_, fun h hm => ?_, fun hl hs hf => ?_⟩
  · rw [hstate, hbad, hrun, hgood, State.judged_of_closed ho]
    exact ⟨rfl, rfl, rfl, rfl⟩
  · rw [hstate, hbad, hrun, hgood, State.judged_of_open ho]
    refine ⟨s.badScan_badScans, fun h hr => ?_, fun h hr => ?_, fun h => ?_⟩
    · rw [State.badScan_of_run h hr]
      exact ⟨h, rfl⟩
    · have hthird := fun hk => State.scanExpired_third ho h hr hk
      rw [State.badScan_of_third h hr, State.loseDesk_dci]
      exact ⟨rfl, rfl, rfl, hthird⟩
    · rw [State.badScan_of_lost h]
      exact ⟨h, rfl⟩
  · rw [hlamps, State.lampImage_of_test]
    rw [Desk.lampTest_of_ok (hdesk ▸ h), hshows.image, hb]
  · rw [hlamps, State.lampImage_of_rest _ (by rwa [hshows.mcr])]
    rw [Desk.lampTest_of_ok (hdesk ▸ h), hshows.image, hb]
    decide
  · rw [hlamps, State.lampImage_of_rest _ (by rwa [hshows.mcr])]
    rw [Desk.lampTest_of_lost (hdesk ▸ h)]
    decide
  · have lamp := State.scanExpired_shows hl hs hf
    have hrtu := hshows.rtu
    have hsru := hshows.sru
    have htlk := hshows.tlk
    have hover : s.supervised.tdu.overspeed = s.tdu.overspeed := by rw [hshows.tdu]
    have hitems : s.supervised.tdu.items = s.tdu.items := by rw [hshows.tdu]
    have hvigil : s.supervised.tdu.vigil = s.tdu.vigil := by rw [hshows.tdu]
    have hunits : s.supervised.tdu.unitsDegraded = s.tdu.unitsDegraded := by rw [hshows.tdu]
    have ha : s.supervised.line.a.link = (s.port .a).link := hshows.link .a
    have hb : s.supervised.line.b.link = (s.port .b).link := hshows.link .b
    simp only [lamp]
    refine ⟨?_, ?_, ?_, ?_, ?_, ?_, ?_, ?_, ?_, ?_, ?_, fun h => ⟨?_, ?_⟩, ?_, ?_, ?_, fun n hn => ?_⟩
    · simp [State.lampConditions, hsru]
    · simp [State.lampConditions, hsru, assistRequested]
    · simp [State.lampConditions, hsru]
    · simp [State.lampConditions, hrtu, Option.any_eq_true, and_or_left, exists_or]
    · simp [State.lampConditions, hrtu, Option.any_eq_true]
    · simp [State.lampConditions, hrtu]
    · simp [State.lampConditions, hrtu, Option.any_eq_true]
    · simp [State.lampConditions, hrtu, Option.any_eq_true]
    · simp [State.lampConditions, hrtu, Option.any_eq_true]
    · simp [State.lampConditions, hover]
    · simp [State.lampConditions, hitems, hvigil]
    · rw [State.scanExpired_rsl h]
      exact emergencyPresent_iff _
    · rw [State.scanExpired_rsl h]
      simp [State.lampConditions, holdPresent]
    · simp [State.lampConditions, hunits]
    · simp [State.lampConditions, ha, hb]
    · simp [State.lampConditions, htlk]
    · exact List.getD_eq_default _ _ hn

end Sys2Proof.Machine
end

section
/-! SUPPORT. The scans of a desk (R37 to R45, R64, R65): what a bad one and a good one come to, and the scans that
change one input, with the statement about them. -/

namespace Sys2Proof.Machine

variable {s t u : State}

/-! ### What the completion test leaves (R198) -/

/-- The completion test delivers nothing. -/
theorem State.completionAfter_delivers (s t : State) : (State.completionAfter s t).tdu.inputs = t.tdu.inputs ∧
    (State.completionAfter s t).ssq.hornLevel = t.ssq.hornLevel := by
  obtain ⟨u, hu, h | ⟨-, -, h⟩⟩ := State.completionAfter_settles s t <;> rw [h]
  · exact ⟨hu.inputs, hu.hornLevel⟩
  · exact ⟨hu.inputs, hu.hornLevel⟩

/-! ### Scans discarded and bad scans (R37 to R40) -/

theorem exec_scan_of_late {scan : ScanArrival} (h : scan.late = true ∨ s.dci.exchangeOpen = false) :
    exec (.scanArrivalEnd scan) s = .next s := by
  change execScanArrivalEnd _ _ = _
  rw [execScanArrivalEnd, if_neg (by obtain h | h := h <;> simp [h])]

/-- A bad scan that does not lose the desk changes the desk alone. -/
theorem exec_scan_of_counted {bytes : List Byte} {d : Desk} (ho : s.dci.exchangeOpen = true)
    (h : acceptScan bytes = none) (hbad : s.closed.badScan = s.closed.withDci d) :
    exec (.scanArrivalEnd ⟨bytes, false⟩) s = .next (s.withDci d) := by
  rw [exec_scan_of_bad ho h, hbad, State.completionAfter_of_idle (s := s) (t := s.closed.withDci d) rfl fun _ => rfl]
  rfl

/-- The desk after the third bad scan of a run, whatever the completion test does then. -/
theorem State.third_desk (h : s.dci.state = .ok) (hr : s.dci.badRun = 2) (s₀ : State) :
    (State.completionAfter s₀ s.badScan).dci.state = .lost ∧
      (State.completionAfter s₀ s.badScan).dci.badScans = satInc s.dci.badScans ∧
      (State.completionAfter s₀ s.badScan).dci.image = s.dci.image := by
  have hdesk := State.completionAfter_dci s₀ s.badScan
  have hlost : s.badScan.dci.state = .lost := by
    rw [State.badScan_of_third h hr, State.loseDesk_dci]
  exact ⟨(congrArg Desk.state hdesk).trans hlost, (congrArg Desk.badScans hdesk).trans s.badScan_badScans,
    (congrArg Desk.image hdesk).trans s.shows_badScan.image⟩

/-- The loss of the desk delivers the safe view (R40). -/
theorem State.third_delivers (h : s.dci.state = .ok) (hr : s.dci.badRun = 2) (ha : s.mcr.mode.active = true)
    (hi : s.tdu.inputs = (View.mk s.dci.image s.dci.handle).inputs) (hh : s.ssq.hornLevel = heldIn s.dci.image .horn) :
    s.badScan.tdu.inputs = ⟨0, false, false, false, false⟩ ∧ s.badScan.ssq.hornLevel = false := by
  have hview : (s.withDci { s.dci with badScans := satInc s.dci.badScans }).dci.view = ⟨s.dci.image, s.dci.handle⟩ :=
    Desk.view_of_ok h
  rw [State.badScan_of_third h hr]
  refine State.loseDesk_delivers ha ?_ ?_ <;> rw [hview]
  · exact hi
  · exact hh

/-! ### Good scans: the key (R200) -/

/-- A key that stays or comes on, or goes off where no STANDBY is entered, moves nothing at the control. -/
theorem State.keyChanged_of_unmoved (hm : s.mcr.mode ≠ .standby)
    (h : s.dci.heldKey = true ∨ ¬ s.still ∨
      s.mcr.mode ≠ .service ∧ s.mcr.mode ≠ .holdPending ∧ s.mcr.mode ≠ .hold) : s.keyChanged = s := by
  cases hk : s.dci.heldKey with
  | true => exact State.keyChanged_of_on hk hm
  | false =>
    rw [State.keyChanged_of_off hk]
    obtain h | h | ⟨hs, hp, hh⟩ := h
    · rw [hk] at h
      cases h
    · exact State.standbyTest_of_moving h
    · exact State.standbyTest_of_mode hs hp hh

theorem State.keyChanged_dci (h : s.dci.heldKey = true → s.mcr.mode ≠ .standby) :
    s.keyChanged.dci.standby = s.dci.standby := by
  obtain hs | ⟨-, hs⟩ := State.keyChanged_cases h <;> rw [hs]
  rfl

/-! ### Good scans in OK (R38, R44) -/

/-- The desk after a good scan in OK (R38, R39). -/
theorem State.goodScan_ok_desk (h : s.dci.state = .ok) (hm : s.mcr.mode ≠ .standby) (image : Word) (handle : Int) :
    (s.goodScan image handle).dci.standby = (s.scanned image handle).dci.standby := by
  rw [State.goodScan_of_ok h]
  exact (State.deliverScan_dci (s := s.scanned image handle) _ fun _ => hm).1

/-- A good scan in OK delivers its levels and its handle, where the key moves nothing at the control (R44). -/
theorem State.goodScan_ok_delivers (h : s.dci.state = .ok) (ha : s.mcr.mode.active = true) {image : Word} {handle : Int}
    (hkey : s.dci.heldKey = false ∨ heldIn image .keyOn = true ∨ ¬ s.still ∨ s.mcr.mode = .configure ∨
      s.mcr.mode = .step)
    (hi : s.tdu.inputs = (View.mk s.dci.image s.dci.handle).inputs) (hh : s.ssq.hornLevel = heldIn s.dci.image .horn) :
    (s.goodScan image handle).tdu.inputs = (View.mk image handle).inputs ∧
      (s.goodScan image handle).ssq.hornLevel = heldIn image .horn := by
  rw [State.goodScan_of_ok h]
  refine State.deliverScan_delivers (s := s.scanned image handle) (c := s.scanChange image handle) ha
    (fun u hdue hw hspeed => State.keyChanged_of_unmoved ?_ ?_) hi hh
  · rw [State.mcr_of_watch hw]
    intro hm
    rw [show s.mcr.mode = .standby from hm] at ha
    cases ha
  · rw [State.dci_of_watch hw, State.mcr_of_watch hw, State.still, hspeed]
    change heldIn image .keyOn = true ∨ ¬ s.still ∨ s.mcr.mode ≠ _ ∧ s.mcr.mode ≠ _ ∧ s.mcr.mode ≠ _
    have hmoved : s.dci.heldKey ≠ heldIn image .keyOn := by
      simpa [ScanChange.due, State.scanChange] using hdue
    obtain hoff | hon | hmoves | hmode | hmode := hkey
    · rw [hoff] at hmoved
      exact .inl (by simpa using hmoved.symm)
    · exact .inl hon
    · exact .inr (.inl hmoves)
    · simp [hmode]
    · simp [hmode]

/-! ### Good scans in LOST (R41, R42) -/

/-- Before the fifth good scan of a run the desk counts it (R41). -/
theorem State.goodScan_lost_desk (h : s.dci.state = .lost) (hr : s.dci.goodRun ≠ 4) (hm : s.mcr.mode ≠ .standby)
    (image : Word) (handle : Int) :
    (s.goodScan image handle).dci.standby = (s.counted image handle).dci.standby := by
  rw [State.goodScan_of_lost h, if_neg hr]
  split
  · rfl
  · exact State.keyChanged_dci (s := s.counted image handle) fun _ => hm

/-- The fifth good scan of a run recovers the desk; a key that it turns off may then enter STANDBY (R42, R200). -/
theorem State.goodScan_recovers (h : s.dci.state = .lost) (hr : s.dci.goodRun = 4) (hm : s.mcr.mode ≠ .standby)
    (image : Word) (handle : Int) : s.goodScan image handle = (s.counted image handle).recoverDesk ∨
      s.goodScan image handle = (s.counted image handle).recoverDesk.enterStandby := by
  rw [State.goodScan_of_lost h, if_pos hr]
  split
  · exact .inl rfl
  · exact (State.keyChanged_cases fun _ => by rw [State.recoverDesk_mcr]; exact hm).imp_right fun k => k.2

/-- Where the key moves nothing at the control the fifth good scan recovers the desk, and that is all. -/
theorem State.goodScan_recovers_of_unmoved (h : s.dci.state = .lost) (hr : s.dci.goodRun = 4)
    (hm : s.mcr.mode ≠ .standby) {image : Word} (handle : Int)
    (hkey : s.dci.heldKey = false ∨ heldIn image .keyOn = true ∨ ¬ s.still ∨
      s.mcr.mode ≠ .service ∧ s.mcr.mode ≠ .holdPending ∧ s.mcr.mode ≠ .hold) :
    s.goodScan image handle = (s.counted image handle).recoverDesk := by
  rw [State.goodScan_of_lost h, if_pos hr]
  split
  · rfl
  · next hmoved =>
    refine State.keyChanged_of_unmoved (by rw [State.recoverDesk_mcr]; exact hm) ?_
    rw [State.recoverDesk_dci, State.recoverDesk_mcr, State.still, State.recoverDesk_speed]
    change heldIn image .keyOn = true ∨ ¬ s.still ∨ s.mcr.mode ≠ _ ∧ s.mcr.mode ≠ _ ∧ s.mcr.mode ≠ _
    refine hkey.elim (fun hoff => .inl ?_) id
    rw [hoff] at hmoved
    simpa using Ne.symm hmoved

/-- A desk in LOST completes no hold when it recovers. -/
theorem State.completionAfter_recovers (h : s.dci.state = .lost) (hq : s.rtu = u.rtu) (hs : s.ssq = u.ssq) :
    State.completionAfter u s.recoverDesk = s.recoverDesk :=
  State.completionAfter_of_idle (by rw [State.recoverDesk_rtu, hq]) fun ch => by rw [State.recoverDesk_idle h, hs]

/-- The part after the fifth good scan of a run: recovered, or in STANDBY. -/
theorem State.completionAfter_goodScan (h : s.dci.state = .lost) (hr : s.dci.goodRun = 4) (hm : s.mcr.mode ≠ .standby)
    (image : Word) (handle : Int) (hq : s.rtu = u.rtu) (hs : s.ssq = u.ssq) :
    State.completionAfter u (s.goodScan image handle) = (s.counted image handle).recoverDesk ∨
      State.completionAfter u (s.goodScan image handle) = (s.counted image handle).recoverDesk.enterStandby := by
  obtain hg | hg := State.goodScan_recovers h hr hm image handle <;> rw [hg]
  · exact .inl (State.completionAfter_recovers (s := s.counted image handle) h hq hs)
  · exact .inr (State.completionAfter_of_mode nofun)

/-- A good scan is stored, and no bad scan is counted (R38, R45). -/
theorem State.goodScan_stores (hm : s.mcr.mode ≠ .standby) (image : Word) (handle : Int) :
    (s.goodScan image handle).dci.image = image ∧ (s.goodScan image handle).dci.handle = handle ∧
      (s.goodScan image handle).dci.heldKey = heldIn image .keyOn ∧
      (s.goodScan image handle).dci.exchangeOpen = s.dci.exchangeOpen ∧
      (s.goodScan image handle).dci.badScans = s.dci.badScans := by
  obtain ⟨d, hd, himage, hhandle, hkey, ho, hb⟩ : ∃ d : Desk, (s.goodScan image handle).dci.standby = d ∧
      d.image = image ∧ d.handle = handle ∧ d.heldKey = heldIn image .keyOn ∧ d.exchangeOpen = s.dci.exchangeOpen ∧
      d.badScans = s.dci.badScans := by
    cases h : s.dci.state with
    | ok => exact ⟨_, State.goodScan_ok_desk h hm image handle, rfl, rfl, rfl, rfl, rfl⟩
    | lost =>
      by_cases hr : s.dci.goodRun = 4
      · have hdesk := congrArg Desk.standby (State.recoverDesk_dci (s.counted image handle))
        obtain hg | hg := State.goodScan_recovers h hr hm image handle <;> rw [hg] <;>
          exact ⟨_, hdesk, rfl, rfl, rfl, rfl, rfl⟩
      · exact ⟨_, State.goodScan_lost_desk h hr hm image handle, rfl, rfl, rfl, rfl, rfl⟩
  exact ⟨(congrArg Desk.image hd).trans himage, (congrArg Desk.handle hd).trans hhandle,
    (congrArg Desk.heldKey hd).trans hkey, (congrArg Desk.exchangeOpen hd).trans ho,
    (congrArg Desk.badScans hd).trans hb⟩

/-- The recovered desk delivers the scan's levels and handle, as the safe view stood before (R42). -/
theorem State.counted_delivers (h : s.dci.state = .lost) (ha : s.mcr.mode.active = true) (image : Word) (handle : Int)
    (hi : s.tdu.inputs = ⟨0, false, false, false, false⟩) (hh : s.ssq.hornLevel = false) :
    (s.counted image handle).recoverDesk.tdu.inputs = (View.mk image handle).inputs ∧
      (s.counted image handle).recoverDesk.ssq.hornLevel = heldIn image .horn := by
  have hview : (s.counted image handle).dci.view = (s.counted image handle).dci.safeView := Desk.view_of_lost h
  refine State.recoverDesk_delivers (s := s.counted image handle) ha ?_ ?_
  · rw [hview, Desk.inputs_safeView]
    exact hi
  · rw [hview, Desk.heldIn_safeView _ (by decide)]
    exact hh

/-! ### One input changed (R38, R44) -/

/-- The scan changes one level, and nothing else that is delivered. -/
structure ScanChange.Single (c : ScanChange) (b : Nat) : Prop where
  level : ∀ i : DeskInput, levelDue (some c.old) c.new i = decide (i.bit = b)
  handle : handleDue (some c.old) c.new = false
  key : c.keyOld = c.keyNew

/-- The scan presses one input. -/
structure ScanChange.SinglePress (c : ScanChange) (b : Nat) : Prop extends c.Single b where
  held : ∀ i : DeskInput, i.bit = b → heldIn c.new.image i = true
  pressed : c.pressed = fun i => decide (i.bit = b)

theorem DeskInput.bit_lt (i : DeskInput) : i.bit < 32 := by cases i <;> decide

/-- An image with one bit more presses one input. -/
theorem State.scanChange_press {b : Nat} (hb : s.dci.image.getLsbD b = false)
    (hk : s.dci.heldKey = heldIn (s.dci.image ||| BitVec.twoPow 32 b) .keyOn) :
    (s.scanChange (s.dci.image ||| BitVec.twoPow 32 b) s.dci.handle).SinglePress b := by
  have hnew (i : DeskInput) : heldIn (s.dci.image ||| BitVec.twoPow 32 b) i =
      (heldIn s.dci.image i || decide (i.bit = b)) := by
    simp [heldIn, i.bit_lt, eq_comm]
  have hold {i : DeskInput} (hi : i.bit = b) : heldIn s.dci.image i = false := by rw [heldIn, hi, hb]
  refine ⟨⟨fun i => ?_, ?_, hk⟩, fun i hi => ?_, funext fun i => ?_⟩
  · change (heldIn s.dci.image i != heldIn (s.dci.image ||| BitVec.twoPow 32 b) i) = _
    rw [hnew]
    by_cases hi : i.bit = b
    · simp [hi, hold hi]
    · simp [hi]
  · simp [handleDue, State.scanChange]
  · exact (hnew i).trans (by simp [hi])
  · change heldIn ((s.dci.image ||| BitVec.twoPow 32 b) &&& ~~~ s.dci.image) i = _
    rw [heldIn, BitVec.getLsbD_and, BitVec.getLsbD_not]
    change (heldIn (s.dci.image ||| BitVec.twoPow 32 b) i && (_ && ! heldIn s.dci.image i)) = _
    rw [hnew]
    by_cases hi : i.bit = b
    · subst hi
      simp [hold rfl, i.bit_lt]
    · simpa [hi] using fun h _ => h

/-- A scan with one consumer's share is that share (R44). -/
theorem State.deliverScan_of_single {c : ScanChange} {x : Consumer}
    (h : [Consumer.traction, .sound, .route, .stops, .control].filter c.due = [x]) :
    s.deliverScan c = State.deliverTo c s x := by
  rw [State.deliverScan, h]
  rfl

/-- The inputs that a consumer of the desk takes (R44); the key is the control's alone. -/
def Consumer.inputs : Consumer → List DeskInput
  | .traction => [.deadman, .handleEmerg, .dirFwd, .dirRev]
  | .sound => [.horn, .bell]
  | .route => routeInputs
  | .stops => stopInputs
  | .control => []

/-- A press is due at the consumer that takes its input. -/
theorem ScanChange.SinglePress.due {c : ScanChange} {b : Nat} (h : c.SinglePress b) :
    c.due = fun x => x.inputs.any fun i => decide (i.bit = b) := by
  have hlevel : levelDue (some c.old) c.new = fun i => decide (i.bit = b) := funext h.level
  funext x
  cases x with
  | traction => simp [ScanChange.due, Consumer.inputs, hlevel, h.handle]
  | sound => simp [ScanChange.due, Consumer.inputs, hlevel, h.pressed]
  | route => simp [ScanChange.due, Consumer.inputs, h.pressed]
  | stops => simp [ScanChange.due, Consumer.inputs, h.pressed]
  | control => simp [ScanChange.due, Consumer.inputs, h.key]

theorem ScanChange.SinglePress.deliver {c : ScanChange} {b : Nat} (h : c.SinglePress b) {x : Consumer}
    (hx : ([Consumer.traction, .sound, .route, .stops, .control].filter fun x =>
      x.inputs.any fun i => decide (i.bit = b)) = [x]) (s : State) : s.deliverScan c = State.deliverTo c s x :=
  State.deliverScan_of_single (by rw [h.due, hx])

/-! ### The press of each input (R44, R64, R65, R121, R149 to R152, R163, R169) -/

theorem ScanChange.SinglePress.route {c : ScanChange} {b : Nat} (h : c.SinglePress b) (ha : s.mcr.mode.active = true)
    {i : DeskInput} (hi : (routeInputs.filter fun i => decide (i.bit = b)) = [i])
    (hx : ([Consumer.traction, .sound, .route, .stops, .control].filter fun x =>
      x.inputs.any fun i => decide (i.bit = b)) = [.route]) : s.deliverScan c = s.routePress i := by
  rw [h.deliver hx, State.deliverTo_route ha, h.pressed, hi]
  rfl

theorem ScanChange.SinglePress.stops {c : ScanChange} {b : Nat} (h : c.SinglePress b) (ha : s.mcr.mode.active = true)
    {i : DeskInput} (hi : (stopInputs.filter fun i => decide (i.bit = b)) = [i])
    (hx : ([Consumer.traction, .sound, .route, .stops, .control].filter fun x =>
      x.inputs.any fun i => decide (i.bit = b)) = [.stops]) : s.deliverScan c = s.stopPress i := by
  rw [h.deliver hx, State.deliverTo_stops ha, h.pressed, hi]
  rfl

theorem ScanChange.SinglePress.horn {c : ScanChange} (h : c.SinglePress 5) (ha : s.mcr.mode.active = true) :
    s.deliverScan c = (s.withSsq { s.ssq with hornLevel := true }).hornPress := by
  rw [h.deliver (x := .sound) rfl, State.deliverTo_sound ha, State.deliverSound, State.deliverHorn, h.level, h.pressed,
    h.held .horn rfl]
  rfl

theorem ScanChange.SinglePress.bell {c : ScanChange} (h : c.SinglePress 6) (ha : s.mcr.mode.active = true) :
    s.deliverScan c = s.soundRequest .bell ⟨s.ssq.items.driverBellPat, .driver, 3⟩ := by
  rw [h.deliver (x := .sound) rfl, State.deliverTo_sound ha, State.deliverSound, State.deliverHorn, h.level, h.pressed]
  rfl

theorem ScanChange.Single.inputs {c : ScanChange} {b : Nat} (h : c.Single b) (i : DriverInputs) :
    i.deliver (some c.old) c.new =
      ⟨i.handle, if b = 1 then heldIn c.new.image .deadman else i.deadman,
        if b = 2 then heldIn c.new.image .handleEmerg else i.handleEmerg,
        if b = 3 then heldIn c.new.image .dirFwd else i.dirFwd,
        if b = 4 then heldIn c.new.image .dirRev else i.dirRev⟩ := by
  simp [DriverInputs.deliver, h.level, h.handle, DeskInput.bit, eq_comm]

/-- DEADMAN held clears the vigilance timer and lifts VIGIL (R64). -/
theorem ScanChange.SinglePress.deadman {c : ScanChange} (h : c.SinglePress 1) (ha : s.mcr.mode.active = true) :
    s.deliverScan c = (s.withTdu { s.tdu with inputs := { s.tdu.inputs with deadman := true } }).deadmanHeld := by
  rw [h.deliver (x := .traction) rfl, State.deliverTo_traction ha, State.deliverTraction, h.toSingle.inputs, h.level,
    h.level, h.held .deadman rfl]
  rfl

/-- The emergency handle pulled raises HANDLE (R65). -/
theorem ScanChange.SinglePress.handleEmerg {c : ScanChange} (h : c.SinglePress 2) (ha : s.mcr.mode.active = true) :
    s.deliverScan c =
      (s.withTdu { s.tdu with inputs := { s.tdu.inputs with handleEmerg := true } }).emergencyHandle true := by
  rw [h.deliver (x := .traction) rfl, State.deliverTo_traction ha, State.deliverTraction, h.toSingle.inputs, h.level,
    h.level, h.held .handleEmerg rfl]
  rfl

/-- An image with the emergency handle released presses nothing. -/
theorem State.scanChange_release (hb : s.dci.image.getLsbD 2 = true)
    (hk : s.dci.heldKey = heldIn (s.dci.image &&& ~~~ BitVec.twoPow 32 2) .keyOn) :
    (s.scanChange (s.dci.image &&& ~~~ BitVec.twoPow 32 2) s.dci.handle).Single 2 ∧
      (s.scanChange (s.dci.image &&& ~~~ BitVec.twoPow 32 2) s.dci.handle).pressed = fun _ => false := by
  have hnew (i : DeskInput) : heldIn (s.dci.image &&& ~~~ BitVec.twoPow 32 2) i =
      (heldIn s.dci.image i && ! decide (i.bit = 2)) := by
    cases i <;> simp [heldIn, DeskInput.bit]
  refine ⟨⟨fun i => ?_, ?_, hk⟩, funext fun i => ?_⟩
  · change (heldIn s.dci.image i != heldIn (s.dci.image &&& ~~~ BitVec.twoPow 32 2) i) = _
    rw [hnew]
    by_cases hi : i.bit = 2
    · simp [hi, heldIn, hb]
    · simp [hi]
  · simp [handleDue, State.scanChange]
  · change heldIn ((s.dci.image &&& ~~~ BitVec.twoPow 32 2) &&& ~~~ s.dci.image) i = _
    rw [heldIn, BitVec.getLsbD_and, BitVec.getLsbD_not]
    change (heldIn (s.dci.image &&& ~~~ BitVec.twoPow 32 2) i && (_ && ! heldIn s.dci.image i)) = _
    rw [hnew]
    cases heldIn s.dci.image i <;> simp

/-- The emergency handle released lifts HANDLE (R65). -/
theorem State.deliverScan_release {c : ScanChange} (h : c.Single 2) (hp : c.pressed = fun _ => false)
    (hheld : heldIn c.new.image .handleEmerg = false) (ha : s.mcr.mode.active = true) : s.deliverScan c =
      (s.withTdu { s.tdu with inputs := { s.tdu.inputs with handleEmerg := false } }).emergencyHandle false := by
  have hlevel : levelDue (some c.old) c.new = fun i => decide (i.bit = 2) := funext h.level
  have hdue : c.due = fun x => decide (x = .traction) := by
    funext x
    cases x with
    | traction => simp [ScanChange.due, hlevel, DeskInput.bit]
    | sound => simp [ScanChange.due, hlevel, hp, DeskInput.bit]
    | route | stops => simp [ScanChange.due, hp]
    | control => simp [ScanChange.due, h.key]
  rw [State.deliverScan_of_single (x := .traction) (by rw [hdue]; rfl), State.deliverTo_traction ha,
    State.deliverTraction, h.inputs, h.level, h.level, hheld]
  rfl

/-- Where the key is not due, a scan leaves the desk, the modes and the speed. -/
theorem State.watch_deliverScan {c : ScanChange} (h : c.due .control = false) : (s.deliverScan c).watch = s.watch := by
  refine List.foldlRecOn (motive := fun u : State => u.watch = s.watch) _ _ rfl fun u hu x hx => ?_
  have hne : x ≠ .control := by
    rintro rfl
    rw [ScanChange.mem_consumers, h] at hx
    cases hx
  exact (u.deliverTo_keeps c hne).1.trans hu

/-- A good scan in OK that presses one input, where no hold is pending: its delivery is all that happens. -/
theorem exec_scan_of_press {bytes : List Byte} {b : Nat} (ho : s.dci.exchangeOpen = true) (h : s.dci.state = .ok)
    (hm : s.mcr.mode ≠ .holdPending) (hk : s.dci.heldKey = s.dci.image.getLsbD 0) (hb : s.dci.image.getLsbD b = false)
    (h0 : b ≠ 0) (ha : acceptScan bytes = some (s.dci.image ||| BitVec.twoPow 32 b, s.dci.handle))
    (hu : u = (s.withDci { s.dci with
      exchangeOpen := false, badRun := 0, image := s.dci.image ||| BitVec.twoPow 32 b }).bumpFree) :
    ∃ c : ScanChange, c.SinglePress b ∧ exec (.scanArrivalEnd ⟨bytes, false⟩) s = .next (u.deliverScan c) := by
  have hkey : s.dci.heldKey = heldIn (s.dci.image ||| BitVec.twoPow 32 b) .keyOn := by
    simp [hk, heldIn, DeskInput.bit, h0.symm]
  have hscanned : s.closed.scanned (s.dci.image ||| BitVec.twoPow 32 b) s.dci.handle = u := by
    rw [hu, State.scanned, ← hkey]
    rfl
  have hsingle : (s.closed.scanChange (s.dci.image ||| BitVec.twoPow 32 b) s.dci.handle).SinglePress b :=
    State.scanChange_press (s := s.closed) hb hkey
  refine ⟨_, hsingle, ?_⟩
  have hmode : (u.deliverScan (s.closed.scanChange (s.dci.image ||| BitVec.twoPow 32 b) s.dci.handle)).mcr = s.mcr := by
    rw [State.mcr_of_watch (State.watch_deliverScan (by rw [hsingle.due]; rfl)), hu]
    rfl
  rw [exec_scan_of_good ho ha, State.goodScan_of_ok (s := s.closed) h, hscanned]
  exact congrArg Host.Outcome.next (State.completionAfter_of_mode (by rw [hmode]; exact hm))

/-- A good scan in OK that releases the emergency handle alone. -/
theorem exec_scan_of_release {bytes : List Byte} (ho : s.dci.exchangeOpen = true) (h : s.dci.state = .ok)
    (hactive : s.mcr.mode.active = true) (hk : s.dci.heldKey = s.dci.image.getLsbD 0)
    (hb : s.dci.image.getLsbD 2 = true)
    (ha : acceptScan bytes = some (s.dci.image &&& ~~~ BitVec.twoPow 32 2, s.dci.handle))
    (hu : u = (s.withDci { s.dci with
      exchangeOpen := false, badRun := 0, image := s.dci.image &&& ~~~ BitVec.twoPow 32 2 }).bumpFree) :
    exec (.scanArrivalEnd ⟨bytes, false⟩) s = .next
      ((u.withTdu { u.tdu with inputs := { u.tdu.inputs with handleEmerg := false } }).emergencyHandle false) := by
  have hkey : s.dci.heldKey = heldIn (s.dci.image &&& ~~~ BitVec.twoPow 32 2) .keyOn := by
    simp [hk, heldIn, DeskInput.bit]
  have hscanned : s.closed.scanned (s.dci.image &&& ~~~ BitVec.twoPow 32 2) s.dci.handle = u := by
    rw [hu, State.scanned, ← hkey]
    rfl
  have hheld : heldIn (s.dci.image &&& ~~~ BitVec.twoPow 32 2) .handleEmerg = false := by
    simp [heldIn, DeskInput.bit]
  obtain ⟨hsingle, hpressed⟩ := State.scanChange_release (s := s.closed) hb hkey
  have hscan := State.deliverScan_release (s := u) hsingle hpressed hheld (by rw [hu]; exact hactive)
  rw [exec_scan_of_good ho ha, State.goodScan_of_ok (s := s.closed) h]
  change Host.Outcome.next (State.completionAfter s ((s.closed.scanned _ s.dci.handle).deliverScan _)) = _
  rw [hscanned]
  refine congrArg Host.Outcome.next ((congrArg (State.completionAfter s) hscan).trans ?_)
  exact State.completionAfter_of_idle (by rw [State.emergencyHandle_rtu, hu]; rfl)
    fun ch => by rw [State.emergencyHandle_ssq, hu]; rfl

/-! ### The statement -/

/-- The clauses of O16 about bad scans. -/
theorem badScans_hold {bytes : List Byte} (ho : s.dci.exchangeOpen = true) (ha : acceptScan bytes = none) :
    (s.dci.state = .ok → s.dci.badRun < 2 → exec (.scanArrivalEnd ⟨bytes, false⟩) s =
      .next (s.withDci { s.dci with
        exchangeOpen := false, badScans := satInc s.dci.badScans, badRun := s.dci.badRun + 1 })) ∧
    (s.dci.state = .ok → s.dci.badRun = 2 → ∃ t, exec (.scanArrivalEnd ⟨bytes, false⟩) s = .next t ∧
      t.dci.state = .lost ∧ t.dci.badScans = satInc s.dci.badScans ∧ t.dci.image = s.dci.image ∧
      (s.dci.heldKey = true ∨ s.mcr.mode ≠ .holdPending → t.efn.isSet .deskLost = true ∧
        (∀ k, s.mcr.mode.active = true → s.DeskKindIs k → t.dci.raised = some k ∧ deskStands s.rsl t.rsl k) ∧
        (s.mcr.mode.active = true →
          s.tdu.inputs = (View.mk s.dci.image s.dci.handle).inputs → s.ssq.hornLevel = heldIn s.dci.image .horn →
            t.tdu.inputs = ⟨0, false, false, false, false⟩ ∧ t.ssq.hornLevel = false) ∧
        (s.mcr.mode.active = false → t.rsl = s.rsl ∧ t.dci.raised = s.dci.raised ∧ t.tdu = s.tdu))) ∧
    (s.dci.state = .lost → exec (.scanArrivalEnd ⟨bytes, false⟩) s =
      .next (s.withDci { s.dci with exchangeOpen := false, badScans := satInc s.dci.badScans, goodRun := 0 })) := by
  refine ⟨fun h hr => exec_scan_of_counted ho ha (State.badScan_of_run (s := s.closed) h hr), fun h hr => ?_,
    fun h => exec_scan_of_counted ho ha (State.badScan_of_lost (s := s.closed) h)⟩
  obtain ⟨hstate, hbad, himage⟩ := State.third_desk (s := s.closed) h hr s
  refine ⟨_, exec_scan_of_bad ho ha, hstate, hbad, himage, fun hk => ?_⟩
  have hshows := s.closed.shows_badScan
  have hsettles := State.settles_completionAfter s (t := s.closed.badScan)
    (hk.imp hshows.heldKey.trans fun hm => by rw [hshows.mcr]; exact hm)
  obtain ⟨hflag, hactive, hidle⟩ :=
    State.Settles.third_spec (s := s.closed) (d := s.closed.badScan.dci) hsettles rfl h hr
  refine ⟨hflag, hactive, fun hm hi hh => ?_, hidle⟩
  rw [hsettles.inputs, hsettles.hornLevel]
  exact State.third_delivers (s := s.closed) h hr hm hi hh

/-- The clauses of O16 about the fifth good scan of a run. -/
theorem recovery_holds {bytes : List Byte} {image : Word} {handle : Int} (ho : s.dci.exchangeOpen = true)
    (hacc : acceptScan bytes = some (image, handle)) (hm : s.mcr.mode ≠ .standby) (h : s.dci.state = .lost)
    (hr : s.dci.goodRun = 4) (ht : exec (.scanArrivalEnd ⟨bytes, false⟩) s = .next t) :
    t.dci.state = .ok ∧ t.dci.badRun = 0 ∧ t.dci.goodRun = 0 ∧
      t.dci.raised = (if t.mcr.mode = .standby then none else s.dci.raised) ∧
      (s.mcr.mode.active = true → s.Distinct →
        ∀ e ∈ t.rsl, e.source = .desk → e.key = 0 → e.kind = .emergency true) ∧
      ((s.dci.heldKey = false ∨ heldIn image .keyOn = true ∨ ¬ s.still ∨
          (s.mcr.mode ≠ .service ∧ s.mcr.mode ≠ .holdPending ∧ s.mcr.mode ≠ .hold)) →
        t.efn.isSet .deskOk = true ∧
        (s.mcr.mode.active = true → s.tdu.inputs = ⟨0, false, false, false, false⟩ → s.ssq.hornLevel = false →
          t.tdu.inputs = (View.mk image handle).inputs ∧ t.ssq.hornLevel = heldIn image .horn) ∧
        (s.mcr.mode.active = false → t.rsl = s.rsl ∧ t.tdu = s.tdu)) := by
  rw [exec_scan_of_good ho hacc] at ht
  injection ht with ht
  have hdesk : (s.closed.counted image handle).recoverDesk.dci =
      { (s.closed.counted image handle).dci with state := .ok, badRun := 0, goodRun := 0 } := State.recoverDesk_dci _
  have hmode : (s.closed.counted image handle).recoverDesk.mcr = s.mcr := State.recoverDesk_mcr _
  have hcases := State.completionAfter_goodScan (s := s.closed) (u := s) h hr hm image handle rfl rfl
  rw [ht] at hcases
  have hraised : t.dci.raised = (if t.mcr.mode = .standby then none else s.dci.raised) := by
    obtain hw | hw := hcases <;> rw [hw]
    · rw [hmode, if_neg hm, hdesk]
      rfl
    · rfl
  have hcounts : t.dci.state = .ok ∧ t.dci.badRun = 0 ∧ t.dci.goodRun = 0 := by
    obtain hw | hw := hcases <;> rw [hw] <;>
      exact ⟨congrArg Desk.state hdesk, congrArg Desk.badRun hdesk, congrArg Desk.goodRun hdesk⟩
  refine ⟨hcounts.1, hcounts.2.1, hcounts.2.2, hraised, fun ha hd e he => ?_, fun hkey => ?_⟩
  · obtain hw | hw := hcases <;> rw [hw] at he
    · exact State.recoverDesk_leaves (s := s.closed.counted image handle) ha hd.2.2.1 e he
    · cases he
  · have hw : t = (s.closed.counted image handle).recoverDesk := by
      rw [← ht, State.goodScan_recovers_of_unmoved (s := s.closed) h hr hm handle hkey]
      exact State.completionAfter_recovers (s := s.closed.counted image handle) h rfl rfl
    rw [hw]
    refine ⟨State.recoverDesk_isSet _, fun ha hi hh => State.counted_delivers (s := s.closed) h ha image handle hi hh,
      fun ha => ?_⟩
    rw [State.recoverDesk_of_inactive (s := s.closed.counted image handle) ha, State.setFlag_rsl, State.setFlag_tdu]
    exact ⟨rfl, rfl⟩

/-- Settles O16: scans discarded, bad scans, good scans in OK and in LOST, the press of each input, and the emergency
handle released. -/
theorem scansAreJudged : Obligations.ScansAreJudged := by
  refine ⟨fun s scan => exec_scan_of_late, fun s bytes ho ha => badScans_hold ho ha,
    fun s bytes image handle ho ha hm => ?_, fun s u bytes b ho h hactive hm hk hb ha hu => ?_,
    fun s u bytes ho h hactive hk hb ha hu => ?_⟩
  · have hexec := exec_scan_of_good (s := s) ho ha
    have hdesk := State.completionAfter_dci s (s.closed.goodScan image handle)
    obtain ⟨himage, hhandle, hkey, hopen, hbad⟩ := State.goodScan_stores (s := s.closed) hm image handle
    refine ⟨_, hexec, (congrArg Desk.image hdesk).trans himage, (congrArg Desk.handle hdesk).trans hhandle,
      (congrArg Desk.heldKey hdesk).trans hkey, (congrArg Desk.exchangeOpen hdesk).trans hopen,
      (congrArg Desk.badScans hdesk).trans hbad, fun h => ?_, fun h hr => ?_,
      fun h hr => recovery_holds ho ha hm h hr hexec, fun h hactive hk hi hh => ?_⟩
    · have hok := hdesk.trans (State.goodScan_ok_desk (s := s.closed) h hm image handle)
      exact ⟨(congrArg Desk.state hok).trans h, congrArg Desk.badRun hok⟩
    · have hlost := hdesk.trans (State.goodScan_lost_desk (s := s.closed) h (by exact hr.ne) hm image handle)
      exact ⟨(congrArg Desk.state hlost).trans h, congrArg Desk.goodRun hlost⟩
    · obtain ⟨hinputs, hhorn⟩ := State.completionAfter_delivers s (s.closed.goodScan image handle)
      rw [hinputs, hhorn]
      exact State.goodScan_ok_delivers (s := s.closed) h hactive hk hi hh
  · have press (h0 : b ≠ 0) := exec_scan_of_press ho h hm hk hb h0 ha hu
    have hu_active : u.mcr.mode.active = true := by rw [hu]; exact hactive
    refine ⟨?_, ?_, ?_, ?_, ?_, ?_, ?_, ?_, ?_, ?_, ?_, ?_⟩ <;> (rintro rfl; obtain ⟨c, hc, hexec⟩ := press (by decide))
    · refine ⟨_, rfl, ?_⟩
      rw [hexec, hc.deadman hu_active, hu]
      rfl
    · rw [hexec, hc.handleEmerg hu_active]
      rfl
    · rw [hexec, hc.horn hu_active]
    · rw [hexec, hc.bell hu_active, hu]
      rfl
    · rw [hexec, hc.route hu_active (i := .routeL) rfl rfl]
      rfl
    · rw [hexec, hc.route hu_active (i := .routeS) rfl rfl]
      rfl
    · rw [hexec, hc.route hu_active (i := .routeR) rfl rfl]
      rfl
    · rw [hexec, hc.route hu_active (i := .proceed) rfl rfl]
      rfl
    · rw [hexec, hc.stops hu_active (i := .doorRelL) rfl rfl]
      rfl
    · rw [hexec, hc.stops hu_active (i := .doorRelR) rfl rfl]
      rfl
    · rw [hexec, hc.stops hu_active (i := .doorClose) rfl rfl]
      rfl
    · rw [hexec, hc.stops hu_active (i := .stopCancel) rfl rfl]
      rfl
  · rw [exec_scan_of_release ho h hactive hk hb ha rfl, hu]
    rfl

end Sys2Proof.Machine
end


section
/-! SUPPORT. Commits of the banked tables and the load check sum (R59, R68, R98, R181, R183), with the statement about
them. -/

namespace Sys2Proof.Machine

variable {s t : State} {r : Request}

/-! ### When a bank may be committed (R59, R68) -/

theorem State.mayCommitTraction_iff (s : State) :
    s.mayCommitTraction = true ↔ s.mcr.mode = .configure ∨ s.mcr.mode = .hold ∨ (s.mcr.mode = .service ∧ s.still) := by
  simp only [State.mayCommitTraction, Bool.or_eq_true, Bool.and_eq_true, Mode.held_iff, State.standstill_iff,
    decide_eq_true_eq, or_assoc]

/-- Each speed below the next is each speed below all that follow. -/
theorem ascending_iff : ∀ limb : List Breakpoint, ascending limb = true ↔ limb.Pairwise (·.speed < ·.speed)
  | [] => by simp [ascending]
  | [a] => by simp [ascending]
  | a :: b :: rest => by
    have ih := ascending_iff (b :: rest)
    rw [ascending, Bool.and_eq_true, decide_eq_true_eq, ih, List.pairwise_cons (a := a)]
    refine and_congr_left fun hrest => ⟨fun hab c hc => ?_, fun h => h b (List.mem_cons_self ..)⟩
    obtain rfl | hc := List.mem_cons.mp hc
    · exact hab
    · exact hab.trans ((List.pairwise_cons.mp hrest).1 c hc)

theorem Curve.ready_iff (c : Curve) :
    c.ready = true ↔ c.power.Pairwise (·.speed < ·.speed) ∧ c.brake.Pairwise (·.speed < ·.speed) := by
  rw [Curve.ready, Bool.and_eq_true, ascending_iff, ascending_iff]

theorem Allocation.ready_iff (a : Allocation) :
    a.ready = true ↔ ∃ u ∈ a.units, u.present = true ∧ 0 < u.weight := by
  simp [Allocation.ready]

/-! ### A commit, table by table (R183) -/

theorem State.commitCurve_of_ready (hm : s.mayCommitTraction = true) (hr : s.tdu.curveShadow.ready = true) :
    s.commitCurve = (s.withTdu { s.tdu with
      curveActive := { s.tdu.curveShadow with valid := true }
      curveShadow := { s.tdu.curveShadow with valid := true } }, .done) := by
  simp [State.commitCurve, hm, hr]

theorem State.commitCurve_of_not_ready (hm : s.mayCommitTraction = true) (hr : ¬ s.tdu.curveShadow.ready = true) :
    s.commitCurve = (s, .refusedInvalid) := by
  simp [State.commitCurve, hm, hr]

theorem State.commitCurve_of_busy (hm : ¬ s.mayCommitTraction = true) : s.commitCurve = (s, .refusedBusy) := by
  simp [State.commitCurve, hm]

theorem State.commitAllocation_of_ready (hm : s.mayCommitTraction = true) (hr : s.tdu.allocShadow.ready = true) :
    s.commitAllocation = (s.withTdu { s.tdu with
      allocActive := { s.tdu.allocShadow with valid := true }
      allocShadow := { s.tdu.allocShadow with valid := true } }, .done) := by
  simp [State.commitAllocation, hm, hr]

theorem State.commitAllocation_of_not_ready (hm : s.mayCommitTraction = true) (hr : ¬ s.tdu.allocShadow.ready = true) :
    s.commitAllocation = (s, .refusedInvalid) := by
  simp [State.commitAllocation, hm, hr]

theorem State.commitAllocation_of_busy (hm : ¬ s.mayCommitTraction = true) :
    s.commitAllocation = (s, .refusedBusy) := by
  simp [State.commitAllocation, hm]

/-- A commit of a table that has no banks, or of none, is BAD_ITEM (R183). -/
theorem State.commitTable_of_unbanked (s : State) {b : Byte} (h1 : b ≠ 1) (h2 : b ≠ 2) (h3 : b ≠ 3) :
    s.commitTable (TableName.ofCode b) = (s, .badItem) := by
  unfold TableName.ofCode
  split
  · rfl
  · next h => exact absurd (BitVec.eq_of_toNat_eq h) h1
  · next h => exact absurd (BitVec.eq_of_toNat_eq h) h2
  · next h => exact absurd (BitVec.eq_of_toNat_eq h) h3
  all_goals rfl

/-- COMMIT, by what `State.commitTable` makes of the table's code. -/
theorem exec_commit_of_table {b : Byte} {st : Status} (h : s.asked r .commit) (hb : r.byte 0 = b)
    (hc : s.taken.commitTable (TableName.ofCode b) = (t, st)) : exec .commit s = .next (t.respond r ⟨st, []⟩) := by
  have hact : actCommit r s.taken = (t, ⟨st, []⟩) := by rw [actCommit, hb, hc]
  refine (congrArg Host.Outcome.next (manage_of_asked h (by decide) actCommit)).trans ?_
  rw [hact]

/-- Settles O44, answer by answer. -/
theorem commitsMakeBanksEqual : Obligations.CommitsMakeBanksEqual := by
  intro s r allowed ascending weighted hallowed hascending hweighted
  rw [← s.mayCommitTraction_iff] at hallowed
  rw [← Curve.ready_iff] at hascending
  rw [← Allocation.ready_iff] at hweighted
  rw [hallowed, hascending, hweighted]
  refine ⟨fun h => ⟨fun hb hm hr => ?_, fun hb hm hr => ?_, ?_, ?_, fun h1 h2 h3 => ?_, fun hb hq => ?_,
    fun hb hq => ?_⟩, fun h => congrArg Host.Outcome.next (manage_of_asked h (by decide) actReadLoadSum)⟩
  · exact exec_commit_of_table h hb (State.commitCurve_of_ready (s := s.taken) hm hr)
  · exact exec_commit_of_table h hb (State.commitAllocation_of_ready (s := s.taken) hm hr)
  · rintro (⟨hb, hm, hr⟩ | ⟨hb, hm, hr⟩)
    · exact exec_commit_of_table h hb (State.commitCurve_of_not_ready (s := s.taken) hm hr)
    · exact exec_commit_of_table h hb (State.commitAllocation_of_not_ready (s := s.taken) hm hr)
  · rintro (hb | hb) hm
    · exact exec_commit_of_table h hb (State.commitCurve_of_busy (s := s.taken) hm)
    · exact exec_commit_of_table h hb (State.commitAllocation_of_busy (s := s.taken) hm)
  · exact exec_commit_of_table h rfl (s.taken.commitTable_of_unbanked h1 h2 h3)
  · exact exec_commit_of_table h hb (if_pos (List.isEmpty_iff.mpr hq))
  · exact exec_commit_of_table h hb (if_neg (mt List.isEmpty_iff.mp hq))

end Sys2Proof.Machine
end

section
/-! SUPPORT. Base shares (R70): the truncated proportions, the remainder and where it goes, with the statement about
them. -/

namespace Sys2Proof.Machine

/-! ### The available weight (R69) -/

/-- A unit's truncated part of `m` out of a weight of `w` in all (R70). -/
def UnitView.part (u : UnitView) (m w : Nat) : Nat := if u.available then m * u.entry.weight / w else 0

theorem truncatedShares_eq (m : Nat) (us : List UnitView) :
    truncatedShares m us = us.map (·.part m (totalWeight us)) := rfl

theorem totalWeight_cons (u : UnitView) (us : List UnitView) :
    totalWeight (u :: us) = (if u.available then u.entry.weight else 0) + totalWeight us := by
  unfold totalWeight
  cases h : u.available <;> simp [h]

theorem length_available_cons (u : UnitView) (us : List UnitView) :
    ((u :: us).filter (·.available)).length = (if u.available then 1 else 0) + (us.filter (·.available)).length := by
  cases h : u.available <;> simp [h, Nat.add_comm]

theorem UnitView.weight_pos {u : UnitView} (h : u.available = true) : 0 < u.entry.weight := by
  simp only [UnitView.available, Bool.and_eq_true, decide_eq_true_eq] at h
  exact h.1.2

/-- There is available weight exactly when a unit is available. -/
theorem totalWeight_pos_iff {us : List UnitView} : 0 < totalWeight us ↔ ∃ u ∈ us, u.available = true := by
  induction us with
  | nil => simp [totalWeight]
  | cons u us ih =>
    rw [totalWeight_cons]
    cases h : u.available with
    | false => simp [h, ih]
    | true =>
      have := u.weight_pos h
      simp only [if_true, List.exists_mem_cons_iff, h, true_or, iff_true]
      omega

/-! ### Truncated proportions (R70) -/

/-- The parts are no more than the whole, and fall short of it by less than one for each available unit. -/
theorem sum_parts_bounds (m : Nat) {w : Nat} (hw : 0 < w) (us : List UnitView) :
    (us.map (·.part m w)).sum * w ≤ m * totalWeight us ∧
      m * totalWeight us + (us.filter (·.available)).length ≤
        ((us.map (·.part m w)).sum + (us.filter (·.available)).length) * w := by
  induction us with
  | nil => simp [totalWeight]
  | cons u us ih =>
    obtain ⟨hle, hlt⟩ := ih
    rw [totalWeight_cons, length_available_cons, List.map_cons, List.sum_cons, UnitView.part]
    cases h : u.available with
    | false => simpa using ⟨hle, hlt⟩
    | true =>
      have hdiv := Nat.div_mul_le_self (m * u.entry.weight) w
      have hmod := Nat.lt_div_mul_add (a := m * u.entry.weight) hw
      simp only [if_true, Nat.add_mul, Nat.mul_add, Nat.one_mul] at *
      omega

theorem sum_truncatedShares_bounds (m : Nat) {us : List UnitView} (h : 0 < totalWeight us) :
    (truncatedShares m us).sum ≤ m ∧ m < (truncatedShares m us).sum + (us.filter (·.available)).length := by
  obtain ⟨hle, hlt⟩ := sum_parts_bounds m h us
  obtain ⟨u, hu, ha⟩ := totalWeight_pos_iff.mp h
  have hpos : 0 < (us.filter (·.available)).length := List.length_pos_of_mem (List.mem_filter.mpr ⟨hu, ha⟩)
  rw [truncatedShares_eq]
  exact ⟨Nat.le_of_mul_le_mul_right hle h, Nat.lt_of_mul_lt_mul_right (a := totalWeight us) (by omega)⟩

theorem shareRemainder_of_pos (m : Nat) {us : List UnitView} (h : 0 < totalWeight us) :
    shareRemainder m us = m - (truncatedShares m us).sum := if_neg h.ne'

/-- The truncated shares and the remainder are all of `m`, and the remainder is less than the available units. -/
theorem truncatedShares_add_remainder (m : Nat) {us : List UnitView} (h : 0 < totalWeight us) :
    (truncatedShares m us).sum + shareRemainder m us = m ∧
      shareRemainder m us < (us.filter (·.available)).length := by
  obtain ⟨hle, hlt⟩ := sum_truncatedShares_bounds m h
  rw [shareRemainder_of_pos m h]
  omega

/-! ### The remainder's place (R70) -/

/-- With a unit available the shares gain the remainder. -/
theorem sum_addRemainder (r : Nat) : ∀ {us : List UnitView} {bs : List Nat}, bs.length = us.length →
    (∃ u ∈ us, u.available = true) → (addRemainder r us bs).sum = bs.sum + r
  | [], _, _, h => by simp at h
  | _ :: _, [], hl, _ => by cases hl
  | u :: us, b :: bs, hl, h => by
    rw [addRemainder]
    cases hu : u.available with
    | true => simp [Nat.add_right_comm]
    | false =>
      have ih := sum_addRemainder r (us := us) (bs := bs) (by simpa using hl) (by simpa [hu] using h)
      simp [ih, Nat.add_assoc]

/-- A share behind an available unit, or of a unit that is not available, stays as it is. -/
theorem getElem?_addRemainder_of_other (r : Nat) : ∀ {us : List UnitView} {bs : List Nat} {i : Nat} {u : UnitView},
    us[i]? = some u → u.available = false ∨ (∃ j v, j < i ∧ us[j]? = some v ∧ v.available = true) →
      (addRemainder r us bs)[i]? = bs[i]?
  | [], _, _, _, h, _ => by simp at h
  | _ :: _, [], _, _, _, _ => rfl
  | x :: us, b :: bs, i, u, h, ho => by
    rw [addRemainder]
    cases i with
    | zero =>
      obtain rfl : x = u := by simpa using h
      obtain hu | ⟨j, _, hj, -⟩ := ho
      · simp [hu]
      · omega
    | succ i =>
      cases hx : x.available with
      | true => simp
      | false =>
        have ih := getElem?_addRemainder_of_other r (bs := bs) (i := i) (u := u) (us := us) (by simpa using h) ?_
        · simpa using ih
        · refine ho.imp_right fun ⟨j, v, hj, hv, ha⟩ => ?_
          cases j with
          | zero =>
            obtain rfl : x = v := by simpa using hv
            simp [hx] at ha
          | succ j => exact ⟨j, v, by omega, by simpa using hv, ha⟩

/-- The first available unit's share gains the remainder. -/
theorem getElem?_addRemainder_of_first (r : Nat) : ∀ {us : List UnitView} {bs : List Nat} {i : Nat} {u : UnitView},
    us[i]? = some u → u.available = true → (∀ j v, j < i → us[j]? = some v → v.available = false) →
      (addRemainder r us bs)[i]? = bs[i]?.map (· + r)
  | [], _, _, _, h, _, _ => by simp at h
  | _ :: _, [], _, _, _, _, _ => rfl
  | x :: us, b :: bs, i, u, h, hu, hf => by
    rw [addRemainder]
    cases i with
    | zero =>
      obtain rfl : x = u := by simpa using h
      simp [hu]
    | succ i =>
      have hx : x.available = false := hf 0 x (by omega) rfl
      have ih := getElem?_addRemainder_of_first r (bs := bs) (i := i) (u := u) (us := us) (by simpa using h) hu
        fun j v hj hv => hf (j + 1) v (by omega) (by simpa using hv)
      simpa [hx] using ih

/-! ### Base shares (R70) -/

theorem length_truncatedShares (m : Nat) (us : List UnitView) : (truncatedShares m us).length = us.length :=
  List.length_map ..

@[simp] theorem length_baseShares (m : Nat) (us : List UnitView) : (baseShares m us).length = us.length := by
  rw [baseShares, length_addRemainder, length_truncatedShares]

/-- With weight available the base shares are all of `m`. -/
theorem sum_baseShares (m : Nat) {us : List UnitView} (h : 0 < totalWeight us) : (baseShares m us).sum = m := by
  rw [baseShares, sum_addRemainder _ (length_truncatedShares m us) (totalWeight_pos_iff.mp h)]
  exact (truncatedShares_add_remainder m h).1

theorem getElem?_truncatedShares {m i : Nat} {us : List UnitView} {u : UnitView} (h : us[i]? = some u) :
    (truncatedShares m us)[i]? = some (if u.available then m * u.entry.weight / totalWeight us else 0) := by
  simp [truncatedShares, h]

/-- Settles O23: the sum of the shares, and each unit's share by whether it is the first available. -/
theorem baseSharesSumToCommand : Obligations.BaseSharesSumToCommand := by
  intro m us hw
  obtain ⟨hsum, hlt⟩ := truncatedShares_add_remainder m hw
  have htotal := sum_baseShares m hw
  refine ⟨length_baseShares m us, htotal, fun i u hu => ⟨fun ha => ?_, fun ha hf => ?_, fun ha hb => ?_⟩, hsum, hlt,
    fun hm b hb => ?_⟩
  · rw [baseShares, getElem?_addRemainder_of_other _ hu (.inl ha), getElem?_truncatedShares hu, ha]
    rfl
  · rw [baseShares, getElem?_addRemainder_of_first _ hu ha hf, getElem?_truncatedShares hu, ha]
    rfl
  · rw [baseShares, getElem?_addRemainder_of_other _ hu (.inr hb), getElem?_truncatedShares hu, ha]
    rfl
  · have := List.single_le_sum (l := baseShares m us) (fun _ _ => Nat.zero_le _) b hb
    omega

end Sys2Proof.Machine
end

section
/-! SUPPORT. A limb evaluated at a speed (R58), and the restrictions' and the jerk limit's effect on the effort (R62,
R66), with the statements about them. -/

namespace Sys2Proof.Machine

/-! ### The polyline (R58) -/

/-- The polyline between two neighbouring breakpoints. -/
theorem limbFrom_of_between {x : Nat} {a b : Breakpoint} (ha : a.speed ≤ x) (hb : x < b.speed) :
    ∀ {rest : List Breakpoint} {lo : Breakpoint} {i : Nat}, (lo :: rest).Pairwise (·.speed < ·.speed) →
      (lo :: rest)[i]? = some a → (lo :: rest)[i + 1]? = some b → limbFrom lo rest x =
        a.effort + Int.tdiv (((b.effort : Int) - a.effort) * ((x : Int) - a.speed)) ((b.speed : Int) - a.speed)
  | [], _, _, _, _, h => by simp at h
  | hi :: rest, lo, 0, _, hlo, hhi => by
    obtain rfl : lo = a := by simpa using hlo
    obtain rfl : hi = b := by simpa using hhi
    rw [limbFrom, if_pos hb]
  | hi :: rest, lo, i + 1, hp, hlo, hhi => by
    obtain ⟨-, hrest⟩ := List.pairwise_cons.mp hp
    have hle : hi.speed ≤ a.speed := by
      obtain rfl | h := List.mem_cons.mp (List.mem_of_getElem? (l := hi :: rest) (by simpa using hlo))
      · exact Nat.le_refl _
      · exact ((List.pairwise_cons.mp hrest).1 a h).le
    rw [limbFrom, if_neg (by omega)]
    exact limbFrom_of_between ha hb hrest (by simpa using hlo) (by simpa using hhi)

/-- The polyline from its last breakpoint on. -/
theorem limbFrom_of_last {x : Nat} {b : Breakpoint} (hb : b.speed ≤ x) :
    ∀ {rest : List Breakpoint} {lo : Breakpoint}, (lo :: rest).Pairwise (·.speed < ·.speed) →
      (lo :: rest).getLast? = some b → limbFrom lo rest x = b.effort
  | [], lo, _, hlast => by
    obtain rfl : lo = b := by simpa using hlast
    rfl
  | hi :: rest, lo, hp, hlast => by
    obtain ⟨-, hrest⟩ := List.pairwise_cons.mp hp
    rw [List.getLast?_cons_cons] at hlast
    have hle : hi.speed ≤ b.speed := by
      obtain rfl | h := List.mem_cons.mp (List.mem_of_getLast? hlast)
      · exact Nat.le_refl _
      · exact ((List.pairwise_cons.mp hrest).1 b h).le
    rw [limbFrom, if_neg (by omega)]
    exact limbFrom_of_last hb hrest hlast

/-- The polyline at the speed of its first breakpoint. -/
theorem limbFrom_self (lo : Breakpoint) (rest : List Breakpoint) (h : (lo :: rest).Pairwise (·.speed < ·.speed)) :
    limbFrom lo rest lo.speed = lo.effort := by
  cases rest with
  | nil => rfl
  | cons hi rest =>
    rw [limbFrom, if_pos ((List.pairwise_cons.mp h).1 hi (List.mem_cons_self ..))]
    simp

/-- From the first breakpoint on a limb's value is the polyline's. -/
theorem evalLimb_eq_limbFrom {lo : Breakpoint} {rest : List Breakpoint} {x : Nat}
    (hp : (lo :: rest).Pairwise (·.speed < ·.speed)) (he : ∀ b ∈ lo :: rest, b.effort ≤ 1000) (hx : lo.speed ≤ x) :
    (evalLimb (lo :: rest) x : Int) = limbFrom lo rest x := by
  obtain ⟨hlo, hrest⟩ := List.forall_mem_cons.mp he
  rw [evalLimb]
  split
  · obtain rfl : x = lo.speed := by omega
    rw [limbFrom_self lo rest hp]
  · exact Int.toNat_of_nonneg (limbFrom_mem rest hlo hrest hx).1

/-- In an ascending limb no speed is below the first. -/
theorem head_speed_le {lo b : Breakpoint} {rest : List Breakpoint} (hp : (lo :: rest).Pairwise (·.speed < ·.speed))
    (h : b ∈ lo :: rest) : lo.speed ≤ b.speed := by
  obtain rfl | h := List.mem_cons.mp h
  · exact Nat.le_refl _
  · exact ((List.pairwise_cons.mp hp).1 b h).le

theorem evalLimb_of_last {limb : List Breakpoint} {x : Nat} {b : Breakpoint} (hp : limb.Pairwise (·.speed < ·.speed))
    (he : ∀ b ∈ limb, b.effort ≤ 1000) (hlast : limb.getLast? = some b) (hx : b.speed ≤ x) :
    evalLimb limb x = b.effort := by
  cases limb with
  | nil => cases hlast
  | cons lo rest =>
    have hlo := head_speed_le hp (List.mem_of_getLast? hlast)
    have h := evalLimb_eq_limbFrom hp he (hlo.trans hx)
    rw [limbFrom_of_last hx hp hlast] at h
    exact Int.ofNat_inj.mp h

theorem evalLimb_of_between {limb : List Breakpoint} {x i : Nat} {lo hi : Breakpoint}
    (hp : limb.Pairwise (·.speed < ·.speed)) (he : ∀ b ∈ limb, b.effort ≤ 1000) (hlo : limb[i]? = some lo)
    (hhi : limb[i + 1]? = some hi) (hl : lo.speed ≤ x) (hh : x < hi.speed) :
    (evalLimb limb x : Int) =
      lo.effort + Int.tdiv (((hi.effort : Int) - lo.effort) * ((x : Int) - lo.speed)) ((hi.speed : Int) - lo.speed) := by
  cases limb with
  | nil => simp at hlo
  | cons a rest =>
    have ha := head_speed_le hp (List.mem_of_getElem? hlo)
    rw [evalLimb_eq_limbFrom hp he (ha.trans hl), limbFrom_of_between hl hh hp hlo hhi]

/-- At a breakpoint's speed a limb has the breakpoint's effort. -/
theorem evalLimb_of_mem {limb : List Breakpoint} {b : Breakpoint} (hp : limb.Pairwise (·.speed < ·.speed))
    (he : ∀ b ∈ limb, b.effort ≤ 1000) (hb : b ∈ limb) : evalLimb limb b.speed = b.effort := by
  obtain ⟨i, hi⟩ := List.mem_iff_getElem?.mp hb
  cases hnext : limb[i + 1]? with
  | none =>
    have hlen : limb.length = i + 1 := by
      have hlt := (List.getElem?_eq_some_iff.mp hi).1
      have hge := List.getElem?_eq_none_iff.mp hnext
      omega
    refine evalLimb_of_last hp he ?_ (Nat.le_refl _)
    rw [List.getLast?_eq_getElem?, hlen]
    exact hi
  | some hi' =>
    have hlt := List.pairwise_iff_getElem.mp hp i (i + 1) (List.getElem?_eq_some_iff.mp hi).1
      (List.getElem?_eq_some_iff.mp hnext).1 (by omega)
    rw [(List.getElem?_eq_some_iff.mp hi).2, (List.getElem?_eq_some_iff.mp hnext).2] at hlt
    have h := evalLimb_of_between hp he hi hnext (Nat.le_refl _) hlt
    simpa using h

/-- Settles O21: the ends, the interpolation, its bounds. -/
theorem limbInterpolates : Obligations.LimbInterpolates := by
  intro limb x _ _ he hp
  refine ⟨fun a ha hx => ?_, fun b hb hx => evalLimb_of_last hp he hb hx, fun i lo hi hlo hhi hl hh => ?_,
    fun b hb hx => by rw [hx, evalLimb_of_mem hp he hb], evalLimb_le he x⟩
  · cases limb with
    | nil => cases ha
    | cons lo rest =>
      obtain rfl : lo = a := by simpa using ha
      exact if_pos hx
  · have h := evalLimb_of_between hp he hlo hhi hl hh
    have hpart := tdiv_part_mem (d := (hi.effort : Int) - lo.effort) (a := (x : Int) - lo.speed)
      (b := (hi.speed : Int) - lo.speed) (by omega) (by omega)
    exact ⟨h, by omega, by omega⟩

/-! ### The effort cut and limited (R62, R66) -/

theorem cutBack_of_emergency (i : TractionItems) (speed : Option Speed) {y : Summary} (target : Int)
    (h : y.emergency = true) : cutBack i speed y target = -(i.emergBrake : Int) := if_pos h

theorem cutBack_of_hold (i : TractionItems) (speed : Option Speed) {y : Summary} (target : Int)
    (he : y.emergency = false) (h : y.hold = true) : cutBack i speed y target = min target (-(i.holdBrake : Int)) := by
  simp [cutBack, he, h]

/-- Without EMERGENCY and HOLD the speed decides, against the cap and the band above it. -/
theorem cutBack_of_free (i : TractionItems) (x : Speed) {y : Summary} (target : Int) (he : y.emergency = false)
    (h : y.hold = false) :
    cutBack i (some x) y target =
      if y.cap + i.overspeedBand ≤ x.v then min target (-(i.enforceBrake : Int))
      else if y.cap ≤ x.v then min target 0 else target := by
  simp [cutBack, he, h, atCap]

theorem limitJerk_of_emergency (i : TractionItems) (old target : Int) :
    limitJerk i true old target = -(i.emergBrake : Int) := rfl

/-- Without an emergency the command stops at zero where its sign is to change, and else moves toward the target by at
most a step (R66). -/
theorem limitJerk_of_free (i : TractionItems) (old target : Int) :
    limitJerk i false old target =
      if 0 < old ∧ target < 0 then max (old - (i.jerk / 50 : Nat)) 0
      else if old < 0 ∧ 0 < target then min (old + (i.jerk / 50 : Nat)) 0
      else old + max (-((i.jerk / 50 : Nat) : Int)) (min (i.jerk / 50 : Nat) (target - old)) := rfl

/-- Settles O22: the cases of R62 one by one, then the three of R66. -/
theorem effortIsCutAndLimited : Obligations.EffortIsCutAndLimited := by
  refine ⟨fun i x y target => ⟨cutBack_of_emergency i _ target, cutBack_of_hold i _ target, fun he hh hx => ?_,
    fun he hh hx hc => ?_, fun he hh hx => ?_⟩, fun i old target => ?_⟩
  · rw [cutBack_of_free i x target he hh, if_pos hx]
  · rw [cutBack_of_free i x target he hh, if_neg (by omega), if_pos hc]
  · rw [cutBack_of_free i x target he hh, if_neg (by omega), if_neg (by omega)]
  · rw [limitJerk_of_free]
    refine ⟨limitJerk_of_emergency i old target, ?_⟩
    generalize i.jerk / 50 = step
    split
    · omega
    · split
      · omega
      · omega

end Sys2Proof.Machine
end

section
/-! SUPPORT. Stage 4 (R70 to R74): what one unit is given, its slip test, the sum of what all are given, with the
statement about it. -/

namespace Sys2Proof.Machine

/-! ### The slip test (R71) -/

theorem slipFound_iff (threshold : Nat) (v : Speed) (cmd : Int) (a : Nat) :
    slipFound threshold v cmd a = true ↔
      (0 < cmd ∧ v.vMin + threshold < a) ∨ (cmd < 0 ∧ a + threshold < v.v) := by
  unfold slipFound
  split
  · simp only [decide_eq_true_eq]
    omega
  · split
    · simp only [decide_eq_true_eq]
      omega
    · simp only [Bool.false_eq_true, false_iff]
      omega

theorem UnitView.tested_of_seen {u : UnitView} {a : Nat} {v : Speed} (hp : u.entry.present = true)
    (ha : u.axle = some a) (threshold : Nat) (cmd : Int) :
    u.tested threshold (some v) cmd = some (slipFound threshold v cmd a) := by
  simp only [UnitView.tested, hp, ha]

theorem UnitView.tested_of_unseen {u : UnitView} {speed : Option Speed}
    (h : u.entry.present = false ∨ u.axle = none ∨ speed = none) (threshold : Nat) (cmd : Int) :
    u.tested threshold speed cmd = none := by
  unfold UnitView.tested
  split
  · next hp ha => simp [hp, ha] at h
  · rfl

theorem UnitSlip.after_true (x : UnitSlip) : x.after true = ⟨factorDown x.factor, 0⟩ := rfl

theorem UnitSlip.after_false (x : UnitSlip) :
    x.after false =
      if x.factor < 100 then
        if x.clean + 1 = 10 then ⟨factorUp x.factor, 0⟩ else ⟨x.factor, x.clean + 1⟩
      else ⟨x.factor, 0⟩ := rfl

/-- A factor stays within 100. -/
theorem UnitSlip.after_factor_le {x : UnitSlip} (h : x.factor ≤ 100) (b : Bool) : (x.after b).factor ≤ 100 := by
  cases b with
  | true =>
    rw [UnitSlip.after_true]
    unfold factorDown
    dsimp only
    repeat' split
    all_goals decide
  | false =>
    rw [UnitSlip.after_false]
    split
    · split
      · unfold factorUp
        dsimp only
        repeat' split
        all_goals decide
      · exact h
    · exact h

/-! ### One unit (R71 to R73) -/

section
variable (i : TractionItems) (speed : Option Speed) (cmd : Int) (cut : Bool) (u : UnitView) (base : Nat) (x : UnitSlip)

theorem unitRecord_of_untested (h : u.tested i.slipThreshold speed cmd = none) :
    (unitRecord i speed cmd cut u base x).2 = x ∧ (unitRecord i speed cmd cut u base x).1.slipping = false := by
  simp [unitRecord, h]

theorem unitRecord_of_tested {b : Bool} (h : u.tested i.slipThreshold speed cmd = some b) :
    (unitRecord i speed cmd cut u base x).2 = x.after b ∧ (unitRecord i speed cmd cut u base x).1.slipping = b := by
  cases b <;> simp [unitRecord, h]

theorem unitRecord_factor_le (h : x.factor ≤ 100) : (unitRecord i speed cmd cut u base x).2.factor ≤ 100 := by
  cases ht : u.tested i.slipThreshold speed cmd with
  | none => rwa [(unitRecord_of_untested i speed cmd cut u base x ht).1]
  | some b =>
    rw [(unitRecord_of_tested i speed cmd cut u base x ht).1]
    exact UnitSlip.after_factor_le h b

/-- A unit's allocated share is its share with the command's sign (R72). -/
theorem unitRecord_allocated :
    (unitRecord i speed cmd cut u base x).1.allocated =
      withSign cmd (u.share base (unitRecord i speed cmd cut u base x).2.factor) := rfl

theorem unitRecord_published :
    (unitRecord i speed cmd cut u base x).1.published =
      if cut then 0 else (unitRecord i speed cmd cut u base x).1.allocated := rfl

end

theorem natAbs_withSign (cmd : Int) (m : Nat) : (withSign cmd m).natAbs = m := by
  unfold withSign
  split <;> omega

theorem withSign_nonpos {cmd : Int} (h : cmd < 0) (m : Nat) : withSign cmd m ≤ 0 := by
  rw [withSign, if_pos h]
  omega

theorem withSign_nonneg {cmd : Int} (h : 0 ≤ cmd) (m : Nat) : 0 ≤ withSign cmd m := by
  rw [withSign, if_neg (by omega)]
  omega

theorem UnitView.share_of_available {u : UnitView} (h : u.available = true) (base factor : Nat) :
    u.share base factor = min (base * factor / 100) (min u.entry.limit u.capability) := if_pos h

theorem UnitView.share_of_unavailable {u : UnitView} (h : u.available = false) (base factor : Nat) :
    u.share base factor = 0 := if_neg (by simp [h])

theorem UnitView.share_le (u : UnitView) (base factor : Nat) :
    u.share base factor ≤ base * factor / 100 ∧ u.share base factor ≤ u.entry.limit ∧
      u.share base factor ≤ u.capability := by
  unfold UnitView.share
  split <;> omega

/-- What is published of a unit is no more than what is allocated. -/
theorem natAbs_published_le (i : TractionItems) (speed : Option Speed) (cmd : Int) (cut : Bool) (u : UnitView)
    (base : Nat) (x : UnitSlip) :
    (unitRecord i speed cmd cut u base x).1.published.natAbs ≤
      u.share base (unitRecord i speed cmd cut u base x).2.factor := by
  rw [unitRecord_published, unitRecord_allocated]
  split
  · exact Nat.zero_le _
  · rw [natAbs_withSign]

/-! ### All units (R70, R74) -/

theorem addRemainder_sum_le (r : Nat) : ∀ (us : List UnitView) (bs : List Nat), (addRemainder r us bs).sum ≤ bs.sum + r
  | [], bs => by simp [addRemainder]
  | _ :: _, [] => by simp [addRemainder]
  | u :: us, b :: bs => by
    have ih := addRemainder_sum_le r us bs
    rw [addRemainder]
    split <;> simp only [List.sum_cons] <;> omega

/-- The base shares are no more than the command, whatever weight is available. -/
theorem sum_baseShares_le (m : Nat) (us : List UnitView) : (baseShares m us).sum ≤ m := by
  obtain hw | hw := Nat.eq_zero_or_pos (totalWeight us)
  · have hzero : (truncatedShares m us).sum = 0 := by
      rw [List.sum_eq_zero_iff_forall_eq_nat]
      intro b hb
      obtain ⟨u, -, rfl⟩ := List.mem_map.mp hb
      simp [hw]
    have hle := addRemainder_sum_le (shareRemainder m us) us (truncatedShares m us)
    rw [hzero, shareRemainder, if_pos hw] at hle
    rw [baseShares, shareRemainder, if_pos hw]
    omega
  · exact (sum_baseShares m hw).le

section
variable {i : TractionItems} {speed : Option Speed} {cmd : Int} {cut : Bool} {us : List UnitView}
  {slips : List UnitSlip}

/-- Stage 4 gives each unit its part out of its base share and its slip state. -/
theorem getElem?_allocateUnits {k : Nat} {u : UnitView} {x : UnitSlip} (hu : us[k]? = some u)
    (hx : slips[k]? = some x) : ∃ base, (baseShares cmd.natAbs us)[k]? = some base ∧
      (allocateUnits i speed cmd cut us slips)[k]? = some (unitRecord i speed cmd cut u base x) := by
  obtain ⟨hk, -⟩ := List.getElem?_eq_some_iff.mp hu
  have hb : (baseShares cmd.natAbs us)[k]? = some ((baseShares cmd.natAbs us)[k]'(by simpa using hk)) :=
    List.getElem?_eq_getElem _
  have hz : (us.zip ((baseShares cmd.natAbs us).zip slips))[k]? = some (u, _, x) :=
    List.getElem?_zip_eq_some.mpr ⟨hu, List.getElem?_zip_eq_some.mpr ⟨hb, hx⟩⟩
  exact ⟨_, hb, List.getElem?_map.trans (congrArg _ hz)⟩

/-- The units are given no more than their base shares. -/
theorem sum_published_le (hl : us.length = slips.length) (hf : ∀ x ∈ slips, x.factor ≤ 100) :
    (((allocateUnits i speed cmd cut us slips).map (·.1)).map (·.published.natAbs)).sum ≤ cmd.natAbs := by
  have hbase : (us.zip ((baseShares cmd.natAbs us).zip slips)).map (fun p => p.2.1) = baseShares cmd.natAbs us := by
    rw [show (fun p : UnitView × Nat × UnitSlip => p.2.1) = Prod.fst ∘ Prod.snd from rfl, ← List.map_map,
      List.map_snd_zip (by simp [hl]), List.map_fst_zip (by simp [hl])]
  calc _ = ((us.zip ((baseShares cmd.natAbs us).zip slips)).map
        fun p => (unitRecord i speed cmd cut p.1 p.2.1 p.2.2).1.published.natAbs).sum := by
        rw [allocateUnits, List.map_map, List.map_map]
        rfl
    _ ≤ ((us.zip ((baseShares cmd.natAbs us).zip slips)).map (fun p => p.2.1)).sum := by
        refine List.sum_le_sum fun p hp => ?_
        have hx := hf p.2.2 (List.of_mem_zip (List.of_mem_zip hp).2).2
        have hfactor := unitRecord_factor_le i speed cmd cut p.1 p.2.1 p.2.2 hx
        have hpub := natAbs_published_le i speed cmd cut p.1 p.2.1 p.2.2
        have hshare := (p.1.share_le p.2.1 (unitRecord i speed cmd cut p.1 p.2.1 p.2.2).2.factor).1
        have hmul := Nat.div_le_of_le_mul (Nat.mul_comm p.2.1 _ ▸ Nat.mul_le_mul_right p.2.1 hfactor)
        exact (hpub.trans hshare).trans hmul
    _ ≤ cmd.natAbs := by
        rw [hbase]
        exact sum_baseShares_le _ _

end

/-! ### The statement -/

/-- A factor and its count after a slip found (R71). -/
theorem UnitSlip.after_slip (x : UnitSlip) : (x.after true).clean = 0 ∧
    (x.factor = 100 → (x.after true).factor = 75) ∧ (x.factor = 75 → (x.after true).factor = 50) ∧
      (x.factor = 50 ∨ x.factor = 25 → (x.after true).factor = 25) := by
  rw [UnitSlip.after_true]
  refine ⟨rfl, fun h => ?_, fun h => ?_, fun h => ?_⟩
  · rw [h]; rfl
  · rw [h]; rfl
  · obtain h | h := h <;> (rw [h]; rfl)

/-- A factor and its count after a clean period (R71). -/
theorem UnitSlip.after_clean (x : UnitSlip) : (x.factor = 100 → x.after false = ⟨100, 0⟩) ∧
    (x.factor < 100 → x.clean < 9 → x.after false = ⟨x.factor, x.clean + 1⟩) ∧
      (x.factor < 100 → x.clean = 9 → (x.after false).clean = 0 ∧ (x.factor = 75 → (x.after false).factor = 100) ∧
        (x.factor = 50 → (x.after false).factor = 75) ∧ (x.factor = 25 → (x.after false).factor = 50)) := by
  rw [UnitSlip.after_false]
  refine ⟨fun h => by simp [h], fun h hc => ?_, fun h hc => ?_⟩
  · rw [if_pos h, if_neg (by omega)]
  · rw [if_pos h, if_pos (by omega)]
    refine ⟨rfl, fun h => ?_, fun h => ?_, fun h => ?_⟩ <;> (rw [h]; rfl)

/-- Settles O24: the sums, each unit's bounds, and each unit's share and slip test. -/
theorem demandIsDelivered : Obligations.DemandIsDelivered := by
  intro i speed cmd cut us slips hus hslips hf units after
  have hsum : (units.map (·.published.natAbs)).sum ≤ cmd.natAbs := sum_published_le (hus.trans hslips.symm) hf
  have hlen : (allocateUnits i speed cmd cut us slips).length = 4 := by rw [length_allocateUnits, hus, hslips]; rfl
  have given {k : Nat} {u : UnitView} {x : UnitSlip} {r : UnitRecord} (hu : us[k]? = some u) (hx : slips[k]? = some x)
      (hr : units[k]? = some r) : ∃ base, (baseShares cmd.natAbs us)[k]? = some base ∧
        after[k]? = some (unitRecord i speed cmd cut u base x).2 ∧ r = (unitRecord i speed cmd cut u base x).1 := by
    obtain ⟨base, hb, h⟩ := getElem?_allocateUnits (i := i) (speed := speed) (cmd := cmd) (cut := cut) hu hx
    refine ⟨base, hb, List.getElem?_map.trans (congrArg _ h), ?_⟩
    exact Option.some.inj (hr.symm.trans (List.getElem?_map.trans (congrArg _ h)))
  have hdeficit : deficitOf cmd units = cmd.natAbs - (units.map (·.published.natAbs)).sum := rfl
  refine ⟨by simpa [units] using hlen, by simpa [after] using hlen, hsum, by omega, fun hc => ?_, fun hc => ?_,
    fun k u r hu hr => ?_, fun k u x y r hu hx hy hr => ?_⟩
  · rw [mechDemand, if_pos hc]
    omega
  · rw [mechDemand, if_neg (by omega)]
  · have hk : k < slips.length := by
      rw [hslips, ← hus]
      exact (List.getElem?_eq_some_iff.mp hu).1
    obtain ⟨base, -, -, rfl⟩ := given hu (List.getElem?_eq_getElem hk) hr
    have hpub := natAbs_published_le i speed cmd cut u base slips[k]
    obtain ⟨-, hlimit, hcap⟩ := u.share_le base (unitRecord i speed cmd cut u base slips[k]).2.factor
    refine ⟨hpub.trans hlimit, hpub.trans hcap, fun ha => ?_⟩
    rw [unitRecord_allocated, UnitView.share_of_unavailable ha]
    simp [withSign]
  · obtain ⟨base, hb, hafter, rfl⟩ := given hu hx hr
    obtain rfl : y = (unitRecord i speed cmd cut u base x).2 := Option.some.inj (hy.symm.trans hafter)
    refine ⟨hb, rfl, rfl, fun ha => ?_, fun hc => withSign_nonpos hc _, fun hc => withSign_nonneg hc _, rfl,
      fun h => unitRecord_of_untested i speed cmd cut u base x (UnitView.tested_of_unseen h _ _),
      fun a v hp ha hv => ⟨fun h => ?_, fun h => ?_⟩⟩
    · rw [unitRecord_allocated, natAbs_withSign, UnitView.share_of_available ha]
      rfl
    · subst hv
      have ht := UnitView.tested_of_seen (v := v) hp ha i.slipThreshold cmd
      rw [(slipFound_iff ..).mpr h] at ht
      obtain ⟨hy, hslip⟩ := unitRecord_of_tested i (some v) cmd cut u base x ht
      rw [hy]
      exact ⟨hslip, x.after_slip⟩
    · subst hv
      have ht := UnitView.tested_of_seen (v := v) hp ha i.slipThreshold cmd
      rw [Bool.eq_false_iff.mpr (mt (slipFound_iff ..).mp (by omega))] at ht
      obtain ⟨hy, hslip⟩ := unitRecord_of_tested i (some v) cmd cut u base x ht
      rw [hy]
      exact ⟨hslip, x.after_clean⟩

end Sys2Proof.Machine
end

section
/-! SUPPORT. What sends no frame while no notify channel is enabled, and a frame that is published before it (R16, R75,
R191); what the route unit's actions leave of the emergency (R103, R117, R122). -/

namespace Sys2Proof.Machine

variable {s t u : State}

/-! ### Nothing sent -/

/-- From `s` to `t` the node address and the notify channels stay, and while no channel is enabled no frame is sent. -/
structure State.Hushed (s t : State) : Prop where
  address : t.mcr.address = s.mcr.address
  channels : t.efn.channels = s.efn.channels
  line : (∀ c ∈ s.efn.channels, c.enable = false) → t.line = s.line

theorem State.Hushed.refl (s : State) : s.Hushed s := ⟨rfl, rfl, fun _ => rfl⟩

theorem State.Hushed.trans (h : s.Hushed t) (k : t.Hushed u) : s.Hushed u where
  address := k.address.trans h.address
  channels := k.channels.trans h.channels
  line := fun hc => (k.line (by rw [h.channels]; exact hc)).trans (h.line hc)

theorem State.Hushed.ite {c : Prop} {_ : Decidable c} (h : s.Hushed t) (k : s.Hushed u) :
    s.Hushed (if c then t else u) := by
  split
  · exact h
  · exact k

/-- A change that leaves the address, the channels and the ports. -/
theorem State.Hushed.of_same (h : s.Hushed t) (ha : u.mcr.address = t.mcr.address)
    (hc : u.efn.channels = t.efn.channels) (hl : u.line = t.line) : s.Hushed u :=
  h.trans ⟨ha, hc, fun _ => hl⟩

theorem State.Hushed.withTdu (h : s.Hushed t) (x : Traction) : s.Hushed (t.withTdu x) := h.of_same rfl rfl rfl
theorem State.Hushed.withRsl (h : s.Hushed t) (x : List Restriction) : s.Hushed (t.withRsl x) := h.of_same rfl rfl rfl
theorem State.Hushed.withRtu (h : s.Hushed t) (x : RouteUnit) : s.Hushed (t.withRtu x) := h.of_same rfl rfl rfl
theorem State.Hushed.withTlk (h : s.Hushed t) (x : TrackLink) : s.Hushed (t.withTlk x) := h.of_same rfl rfl rfl
theorem State.Hushed.withSru (h : s.Hushed t) (x : StopUnit) : s.Hushed (t.withSru x) := h.of_same rfl rfl rfl
theorem State.Hushed.withSsq (h : s.Hushed t) (x : Sounder) : s.Hushed (t.withSsq x) := h.of_same rfl rfl rfl
theorem State.Hushed.withMarks (h : s.Hushed t) (m : Marks) : s.Hushed (t.withMarks m) := h.of_same rfl rfl rfl

/-- With no channel enabled a flag is set and no more (R191). -/
theorem State.setFlag_of_disabled (h : ∀ c ∈ s.efn.channels, c.enable = false) (f : Flag) :
    s.setFlag f = s.withEfn (s.efn.set f) := by
  have hoff (n : Nat) : (s.efn.channel n).enable = false := by
    unfold Notifier.channel
    rw [List.getD_eq_getElem?_getD]
    cases hn : s.efn.channels[n]? with
    | none => rfl
    | some c => exact h c (List.mem_of_getElem? hn)
  exact State.setFlagTo_of_quiet 4 (.inr (.inr (Bool.and_eq_false_imp.mpr fun hon => by
    rw [show ((s.withEfn (s.efn.set f)).efn.channel _).enable = _ from hoff _] at hon
    cases hon)))

theorem State.hushed_setFlag (s : State) (f : Flag) : s.Hushed (s.setFlag f) where
  address := by rw [State.setFlag_mcr]
  channels := (s.setFlag_sameButSent f).channels
  line := fun hc => by rw [State.setFlag_of_disabled hc]; rfl

theorem State.Hushed.setFlag (h : s.Hushed t) (f : Flag) : s.Hushed (t.setFlag f) := h.trans (t.hushed_setFlag f)

theorem State.Hushed.raise (h : s.Hushed t) (src : Source) (key : Half) (k : Restraint) :
    s.Hushed (t.raise src key k) := by
  unfold State.raise
  refine h.ite ?_
  split
  · exact (h.withRsl _).setFlag _
  · exact h.ite ((h.withRsl _).setFlag _)

theorem State.Hushed.lift (h : s.Hushed t) (src : Source) (key : Half) : s.Hushed (t.lift src key) := by
  unfold State.lift
  split
  · exact h
  · split
    · exact h
    · exact (h.withRsl _).setFlag _
    · exact (h.withRsl _).setFlag _

theorem State.Hushed.releaseTest (h : s.Hushed t) : s.Hushed t.releaseTest := by
  unfold State.releaseTest
  exact ((h.withRsl _).setFlag _).ite h

theorem State.Hushed.soundRequest (h : s.Hushed t) (ch : Channel) (r : SoundRequest) :
    s.Hushed (t.soundRequest ch r) := by
  unfold State.soundRequest
  exact h.ite ((h.setFlag _).ite (h.ite ((h.withSsq _).ite (((h.withSsq _).setFlag _).ite (h.setFlag _)))))

theorem State.Hushed.doorsTest (h : s.Hushed t) : s.Hushed t.doorsTest := by
  unfold State.doorsTest
  refine h.ite ?_
  split
  · exact (h.withSru _).raise _ _ _
  · exact (h.withSru _).lift _ _
  · exact h

/-! ### A frame published (R16, R75) -/

/-- The drop flags send nothing. -/
theorem State.hushed_setDrops (s : State) (fd od : Bool) : s.Hushed (s.setDrops fd od) := by
  cases fd <;> cases od
  · exact State.Hushed.refl s
  · exact s.hushed_setFlag _
  · exact s.hushed_setFlag _
  · exact (s.hushed_setFlag _).setFlag _

/-- A frame published before and after handlings that send nothing is one that the whole sends. -/
theorem State.sendsTo_of_publish {id : Half} {payload : List Byte} (h : s.Hushed t)
    (k : (t.publish id payload).Hushed u) : s.sendsTo u id payload := by
  intro own ho ha hb hc
  have hline : t.line = s.line := h.line hc
  have hout : (t.publish id payload).efn.channels = s.efn.channels :=
    (t.publish_sameButSent id payload).channels.trans h.channels
  have hpresent : (t.present .process 63 id payload).1.efn.channels = s.efn.channels :=
    (t.present_sameButSent .process 63 id payload).channels.trans h.channels
  have hsent := (State.hushed_setDrops (t.present .process 63 id payload).1
    (t.present .process 63 id payload).2.1 (t.present .process 63 id payload).2.2).line (by rw [hpresent]; exact hc)
  have hkept := k.line (by rw [hout]; exact hc)
  refine ⟨Frame.make 63 own .process id s.line.txSeq payload, rfl, rfl, rfl, rfl, rfl, rfl, fun p => ?_⟩
  have hmem := State.present_mem t own id payload (h.address.trans ho) (by rw [hline]; exact ha)
    (by rw [hline]; exact hb) p
  rw [State.port, hkept]
  rw [State.port, ← hsent, hline] at hmem
  exact hmem

/-! ### The emergency in the list (R61, R84 to R87) -/

theorem any_replaceFirst {α : Type} {p q : α → Bool} {x y : α} (hp : p x = p y) :
    ∀ {l : List α}, l.find? q = some y → (replaceFirst q x l).any p = l.any p
  | z :: l, h => by
    unfold replaceFirst
    cases hz : q z with
    | true =>
      rw [List.find?_cons_of_pos hz] at h
      obtain rfl := Option.some.inj h
      simp [hp]
    | false =>
      rw [List.find?_cons_of_neg (by simp [hz])] at h
      simp [any_replaceFirst hp h]

theorem any_eraseP {α : Type} {p q : α → Bool} {y : α} (hp : p y = false) :
    ∀ {l : List α}, l.find? q = some y → (l.eraseP q).any p = l.any p
  | z :: l, h => by
    cases hz : q z with
    | true =>
      rw [List.find?_cons_of_pos hz] at h
      obtain rfl := Option.some.inj h
      simp [hz, hp]
    | false =>
      rw [List.find?_cons_of_neg (by simp [hz])] at h
      simp [hz, any_eraseP hp h]

/-- An entry is an EMERGENCY, lift requested or not. -/
def Restriction.isEmergency (e : Restriction) : Bool := match e.kind with | .emergency _ => true | _ => false

theorem emergencyPresent_eq (l : List Restriction) : emergencyPresent l = l.any Restriction.isEmergency := rfl

theorem Restriction.isEmergency_of_kind {e : Restriction} {l : Bool} (h : e.kind = .emergency l) :
    e.isEmergency = true := by
  simp only [Restriction.isEmergency, h]

/-- A raise of another kind neither makes an emergency nor ends one (R84, R85). -/
theorem State.emergencyPresent_raise {k : Restraint} (hk : ∀ l, k ≠ .emergency l) (s : State) (src : Source)
    (key : Half) : emergencyPresent (s.raise src key k).rsl = emergencyPresent s.rsl := by
  have hsame (held : Restraint) (r : Restriction) (hr : r.kind = held) :
      ({ r with kind := held.raisedBy k } : Restriction).isEmergency = r.isEmergency := by
    subst hr
    unfold Restriction.isEmergency
    rcases hkind : r.kind with _ | _ | _ <;> rcases k with _ | _ | l <;> simp_all [Restraint.raisedBy]
  rw [State.raise_rsl]
  split
  · rfl
  · split
    · have hnew : (⟨src, key, k, s.tdu.periodCount⟩ : Restriction).isEmergency = false := by
        unfold Restriction.isEmergency
        cases k <;> simp_all
      simp [emergencyPresent_eq, hnew]
    · rename_i e he
      split
      · rfl
      · exact any_replaceFirst (q := fun x : Restriction => x.names src key) (hsame _ e rfl) he

/-- A lift neither makes an emergency nor ends one: it requests its release (R86, R87). -/
theorem State.emergencyPresent_lift (s : State) (src : Source) (key : Half) :
    emergencyPresent (s.lift src key).rsl = emergencyPresent s.rsl := by
  rw [State.lift_rsl]
  split
  · rfl
  · rename_i e he
    split
    · rfl
    · rename_i hkind
      exact any_replaceFirst (q := fun x : Restriction => x.names src key)
        (Restriction.isEmergency_of_kind hkind).symm he
    · rename_i hne hne'
      refine any_eraseP (q := fun x : Restriction => x.names src key) ?_ he
      change e.isEmergency = false
      unfold Restriction.isEmergency
      rcases hkind : e.kind with _ | _ | (_ | _) <;> simp_all

/-! ### The route unit's actions (R103 to R122) -/

/-- From `s` to `t` the route unit has acted: nothing is sent while no channel is enabled, and the list has an emergency
exactly when it had one. -/
structure State.RoutesHushed (s t : State) : Prop where
  hushed : s.Hushed t
  emergency : emergencyPresent t.rsl = emergencyPresent s.rsl

theorem State.RoutesHushed.refl (s : State) : s.RoutesHushed s := ⟨.refl s, rfl⟩

theorem State.RoutesHushed.trans (h : s.RoutesHushed t) (k : t.RoutesHushed u) : s.RoutesHushed u :=
  ⟨h.hushed.trans k.hushed, k.emergency.trans h.emergency⟩

theorem State.RoutesHushed.ite {c : Prop} {_ : Decidable c} (h : s.RoutesHushed t) (k : s.RoutesHushed u) :
    s.RoutesHushed (if c then t else u) := by
  split
  · exact h
  · exact k

theorem State.RoutesHushed.foldl {α : Type} {f : State → α → State} (hf : ∀ (u : State) x, u.RoutesHushed (f u x)) :
    ∀ (l : List α) {t : State}, s.RoutesHushed t → s.RoutesHushed (l.foldl f t)
  | [], _, h => h
  | x :: l, t, h => State.RoutesHushed.foldl hf l (h.trans (hf t x))

theorem State.RoutesHushed.withRtu (h : s.RoutesHushed t) (x : RouteUnit) : s.RoutesHushed (t.withRtu x) :=
  ⟨h.hushed.withRtu x, h.emergency⟩

theorem State.RoutesHushed.withQueue (h : s.RoutesHushed t) (q : List Transaction) : s.RoutesHushed (t.withQueue q) :=
  h.withRtu _

theorem State.RoutesHushed.withAttempt (h : s.RoutesHushed t) (a : Option Nat) : s.RoutesHushed (t.withAttempt a) :=
  h.withRtu _

theorem State.RoutesHushed.withTlk (h : s.RoutesHushed t) (x : TrackLink) : s.RoutesHushed (t.withTlk x) :=
  ⟨h.hushed.withTlk x, h.emergency⟩

theorem State.RoutesHushed.setFlag (h : s.RoutesHushed t) (f : Flag) : s.RoutesHushed (t.setFlag f) :=
  ⟨h.hushed.setFlag f, by rw [State.setFlag_rsl]; exact h.emergency⟩

theorem State.RoutesHushed.raise (h : s.RoutesHushed t) (src : Source) (key : Half) {k : Restraint}
    (hk : ∀ l, k ≠ .emergency l) : s.RoutesHushed (t.raise src key k) :=
  ⟨h.hushed.raise src key k, (t.emergencyPresent_raise hk src key).trans h.emergency⟩

theorem State.RoutesHushed.lift (h : s.RoutesHushed t) (src : Source) (key : Half) : s.RoutesHushed (t.lift src key) :=
  ⟨h.hushed.lift src key, (t.emergencyPresent_lift src key).trans h.emergency⟩

theorem State.RoutesHushed.startAttempt (h : s.RoutesHushed t) : s.RoutesHushed t.startAttempt := by
  unfold State.startAttempt
  split
  · exact h
  · split
    · exact h
    · exact (h.withRtu _).withTlk _

/-- A transaction's restriction is a CAP or a HOLD (R103). -/
theorem Transaction.restraint_ne_emergency {x : Transaction} {items : RouteItems} {k : Restraint}
    (h : x.restraint items = some k) (l : Bool) : k ≠ .emergency l := by
  unfold Transaction.restraint at h
  rintro rfl
  split at h <;> simp at h

theorem State.RoutesHushed.syncJunction (h : s.RoutesHushed t) (x : Transaction) :
    s.RoutesHushed (t.syncJunction x) := by
  unfold State.syncJunction
  split
  · rename_i hk
    exact h.raise _ _ (Transaction.restraint_ne_emergency hk)
  · exact h.lift _ _

theorem State.RoutesHushed.makeUnconfirmed (h : s.RoutesHushed t) (x : Transaction) :
    s.RoutesHushed (t.makeUnconfirmed x) :=
  (State.RoutesHushed.syncJunction (((h.withQueue _).withAttempt _).ite (h.withQueue _)) _).setFlag _

theorem State.RoutesHushed.removeTransaction (h : s.RoutesHushed t) (x : Transaction) :
    s.RoutesHushed (t.removeTransaction x) := by
  have removed := h.withQueue (t.rtu.queue.eraseP (·.junction == x.junction))
  have stopped : s.RoutesHushed (if t.rtu.isHead x.junction then _ else _) := (removed.withAttempt none).ite removed
  unfold State.removeTransaction
  dsimp only
  split
  · exact stopped.lift _ _
  · exact stopped

theorem State.RoutesHushed.liftRoute (h : s.RoutesHushed t) : s.RoutesHushed t.liftRoute := by
  unfold State.liftRoute
  exact ((h.withRtu _).lift _ _).ite h

theorem State.RoutesHushed.afterRemoval (h : s.RoutesHushed t) (old : Option Half) :
    s.RoutesHushed (t.afterRemoval old) := by
  unfold State.afterRemoval
  dsimp only
  split
  · exact h.liftRoute
  · exact h.liftRoute.startAttempt.ite h.liftRoute

theorem State.RoutesHushed.judgeDistance (h : s.RoutesHushed t) (x : Transaction) :
    s.RoutesHushed (t.judgeDistance x) := by
  unfold State.judgeDistance
  exact (h.removeTransaction x).ite ((h.makeUnconfirmed x).ite h)

theorem State.routesHushed_periodDistance (s : State) (d : Nat) : s.RoutesHushed (s.periodDistance d) := by
  have judged (q : List Transaction) : s.RoutesHushed (q.foldl State.judgeDistance (s.withQueue q)) :=
    State.RoutesHushed.foldl (fun u x => (State.RoutesHushed.refl u).judgeDistance x) q
      ((State.RoutesHushed.refl s).withQueue q)
  unfold State.periodDistance
  exact (State.RoutesHushed.refl s).ite (((judged _).afterRemoval _).ite (judged _))

end Sys2Proof.Machine
end

section
/-! SUPPORT. What a computed period leaves of the vigilance (R50, R63), what the vigilance and the closing tests of a
period leave of the traction unit (R198, R200), with the statement about a control period's count and hold setpoint. -/

namespace Sys2Proof.Machine

variable {s t u : State}

/-! ### The stages of a computation -/

/-- The period timer and the period count (R50). -/
def Traction.period (x : Traction) : Nat × Word := (x.periodLeft, x.periodCount)

/-- The vigilance timer, its indication and its mark (R63). -/
def Traction.vigilance (x : Traction) : Nat × Bool × Bool := (x.vigil, x.vigilOn, x.marks.vigil)

/-- From `s` to `t` a period has been computed: the period, the vigilance, the desk's inputs, the items, the sounders and
the modes stay, no VIGIL entry comes, and none goes that is an EMERGENCY with no lift request. -/
structure State.Computes (s t : State) : Prop where
  period : t.tdu.period = s.tdu.period
  vigilance : t.tdu.vigilance = s.tdu.vigilance
  inputs : t.tdu.inputs = s.tdu.inputs
  items : t.tdu.items = s.tdu.items
  ssq : t.ssq = s.ssq
  mcr : t.mcr = s.mcr
  comes : ∀ e ∈ t.rsl, e.source = .vigil → e ∈ s.rsl
  stays : ∀ e ∈ s.rsl, e.source = .vigil → e.kind = .emergency false → e ∈ t.rsl

theorem State.Computes.refl (s : State) : s.Computes s :=
  ⟨rfl, rfl, rfl, rfl, rfl, rfl, fun _ h _ => h, fun _ h _ _ => h⟩

theorem State.Computes.trans (h : s.Computes t) (k : t.Computes u) : s.Computes u where
  period := k.period.trans h.period
  vigilance := k.vigilance.trans h.vigilance
  inputs := k.inputs.trans h.inputs
  items := k.items.trans h.items
  ssq := k.ssq.trans h.ssq
  mcr := k.mcr.trans h.mcr
  comes := fun e he hs => h.comes e (k.comes e he hs) hs
  stays := fun e he hs hk => k.stays e (h.stays e he hs hk) hs hk

theorem State.Computes.ite {c : Prop} {_ : Decidable c} (h : s.Computes t) (k : s.Computes u) :
    s.Computes (if c then t else u) := by
  split
  · exact h
  · exact k

theorem State.Computes.withTdu (h : s.Computes t) {x : Traction} (hp : x.period = t.tdu.period)
    (hv : x.vigilance = t.tdu.vigilance) (hi : x.inputs = t.tdu.inputs) (hs : x.items = t.tdu.items) :
    s.Computes (t.withTdu x) :=
  h.trans ⟨hp, hv, hi, hs, rfl, rfl, fun _ h _ => h, fun _ h _ _ => h⟩

theorem State.Computes.withMarks (h : s.Computes t) {m : Marks} (hm : m.vigil = t.tdu.marks.vigil) :
    s.Computes (t.withMarks m) :=
  h.withTdu rfl (by rw [Traction.vigilance, hm]; rfl) rfl rfl

theorem State.Computes.sends (h : s.Computes t) (k : t.Sends u) : s.Computes u := by
  refine h.trans ⟨by rw [k.same.tdu], by rw [k.same.tdu], by rw [k.same.tdu], by rw [k.same.tdu], k.same.ssq, k.same.mcr,
    fun e he _ => ?_, fun e he _ _ => ?_⟩
  · rwa [k.same.rsl] at he
  · rwa [k.same.rsl]

theorem State.Computes.setFlag (h : s.Computes t) (f : Flag) : s.Computes (t.setFlag f) := h.sends (t.sends_setFlag f)

/-- A change of the list and of what sending changes, that leaves the entries of VIGIL. -/
theorem State.Computes.of_entries (h : s.Computes t) (ht : u.tdu = t.tdu) (hq : u.ssq = t.ssq) (hm : u.mcr = t.mcr)
    (hr : ∀ e : Restriction, e.source = .vigil → (e ∈ u.rsl ↔ e ∈ t.rsl)) : s.Computes u :=
  h.trans ⟨by rw [ht], by rw [ht], by rw [ht], by rw [ht], hq, hm, fun e he hs => (hr e hs).mp he,
    fun e he hs _ => (hr e hs).mpr he⟩

theorem State.Computes.raise (h : s.Computes t) {src : Source} (hsrc : .vigil ≠ src) (key : Half) (k : Restraint) :
    s.Computes (t.raise src key k) :=
  h.of_entries (by simp) (by simp) (by simp) fun _ he => State.mem_raise_iff (he ▸ hsrc) t key k

theorem State.Computes.lift (h : s.Computes t) {src : Source} (hsrc : .vigil ≠ src) (key : Half) :
    s.Computes (t.lift src key) :=
  h.of_entries (by simp) (by simp) (by simp) fun _ he => State.mem_lift_iff (he ▸ hsrc) t key

/-- The release test takes EMERGENCY entries whose lift is requested, and no other (R88). -/
theorem State.mem_releaseTest_iff (s : State) (e : Restriction) :
    e ∈ s.releaseTest.rsl ↔ e ∈ s.rsl ∧ (s.releaseCondition = true → e.kind ≠ .emergency true) := by
  rw [State.releaseTest_rsl]
  split <;> simp_all

theorem State.Computes.releaseTest (h : s.Computes t) : s.Computes t.releaseTest :=
  h.trans ⟨by simp, by simp, by simp, by simp, by simp, by simp,
    fun e he _ => ((t.mem_releaseTest_iff e).mp he).1,
    fun e he _ hk => (t.mem_releaseTest_iff e).mpr ⟨he, fun _ => by rw [hk]; decide⟩⟩

theorem State.computes_superviseSpeed (s : State) : s.Computes s.superviseSpeed := by
  unfold State.superviseSpeed
  split
  · exact (((State.Computes.refl s).withMarks (by exact rfl)).raise (by decide) _ _).setFlag _
  · exact ((State.Computes.refl s).withMarks (by exact rfl)).lift (by decide) _
  · exact .refl s

theorem State.computes_evaluateSpeed (s : State) : s.Computes s.evaluateSpeed.1 := by
  have found : s.Computes s.findSpeed := by
    rw [s.findSpeed_eq]
    exact (State.Computes.refl s).withTdu rfl rfl rfl rfl
  have supervised := found.trans (State.computes_superviseSpeed _)
  unfold State.evaluateSpeed State.advanceOdometer
  split
  · exact supervised
  · exact supervised.withTdu rfl rfl rfl rfl

theorem State.computes_settleDirection (s : State) : s.Computes s.settleDirection.1 := by
  have settled := fun (held : Direction) (travel : Option Direction) => (State.Computes.refl s).withTdu
    (x := { s.tdu with prevDesk := s.tdu.inputs.direction, held := held, lastTravel := travel }) rfl rfl rfl rfl
  unfold State.settleDirection
  dsimp only
  split
  · exact settled _ _
  · split
    · split
      · exact settled _ _
      · exact settled _ _
    · split
      · exact (settled _ _).setFlag _
      · exact settled _ _

theorem State.computes_judgeBrake (s : State) : s.Computes s.judgeBrake := by
  have lifted : s.Computes ((s.withMarks { s.tdu.marks with brake := false }).lift .brake 0) :=
    ((State.Computes.refl s).withMarks (by exact rfl)).lift (by decide) _
  unfold State.judgeBrake
  dsimp only
  split
  · exact lifted.ite (.refl s)
  · split
    · exact (((State.Computes.refl s).withMarks (by exact rfl)).raise (by decide) _ _).setFlag _
    · exact lifted
    · exact .refl s

theorem State.computes_finishPeriod (s : State) (stepped : Bool) (y : Summary) (target : Int)
    (limb : Option (Limb × Nat)) : s.Computes (s.finishPeriod stepped y target limb) := by
  have units (w : Nat) {v : State} (hv : s.Computes v) : s.Computes (v.superviseUnits w) := by
    unfold State.superviseUnits
    split
    · exact ((hv.withMarks (by exact rfl)).raise (by decide) _ _).setFlag _
    · exact (hv.withMarks (by exact rfl)).lift (by decide) _
    · exact hv
  exact units _ ((State.Computes.refl s).withTdu rfl rfl rfl rfl)

theorem State.computes_computePeriod (s : State) : s.Computes s.computePeriod.1 :=
  ((((s.computes_evaluateSpeed.trans (State.computes_settleDirection _)).trans
    (State.computes_judgeBrake _)).releaseTest).trans (State.computes_finishPeriod _ _ _ _ _))

/-- The state whose vigilance a computed period supervises: the one whose SETPOINT frame has been made (log 62). -/
def State.published (s : State) : State := s.computePeriod.1.publishSetpoint

theorem State.computes_published (s : State) : s.Computes s.published := by
  unfold State.published State.publishSetpoint
  split
  · exact s.computes_computePeriod.sends (State.sends_publish _ _ _)
  · exact s.computes_computePeriod

/-! ### The work of a period, by mode (R50) -/

theorem State.Routes.tdu (h : s.Routes t) : t.tdu = s.tdu := h.same.tdu
theorem State.Routes.dci (h : s.Routes t) : t.dci = s.dci := h.same.dci
theorem State.Routes.ssq (h : s.Routes t) : t.ssq = s.ssq := h.same.ssq
theorem State.Routes.mcr (h : s.Routes t) : t.mcr = s.mcr := h.same.mcr

theorem Mode.driving_of_cases {m : Mode} (h : m = .service ∨ m = .holdPending) :
    m.driving = true ∧ m.evaluates = true := by
  obtain rfl | rfl := h <;> exact ⟨rfl, rfl⟩

/-- In SERVICE and HOLD_PENDING the route unit acts after the vigilance. -/
theorem State.routes_periodWork (h : s.mcr.mode = .service ∨ s.mcr.mode = .holdPending) :
    s.published.supervise.Routes s.periodWork := by
  have supervised := State.Routes.refl s.published.supervise
  unfold State.periodWork
  obtain hm | hm := h <;>
  · rw [hm]
    dsimp only
    cases s.computePeriod.2.distance with
    | none => exact (supervised.trans (State.routes_reversal _)).ite supervised
    | some d =>
      have passed := supervised.trans (State.routes_periodDistance _ d)
      exact (passed.trans (State.routes_reversal _)).ite passed

/-- In CONFIGURE and HOLD the speed is evaluated and the hold setpoint sent; then the route unit acts. -/
theorem State.periodWork_of_holding (h : s.mcr.mode = .configure ∨ s.mcr.mode = .hold) :
    s.periodWork = s.evaluateSpeed.1.releaseTest.publishHold ∨
      ∃ d, s.periodWork = s.evaluateSpeed.1.releaseTest.publishHold.periodDistance d := by
  unfold State.periodWork
  obtain hm | hm := h <;>
  · rw [hm]
    dsimp only
    cases s.evaluateSpeed.2 with
    | none => exact .inl rfl
    | some d => exact .inr ⟨d, rfl⟩

/-! ### Vigilance (R63, R64) -/

theorem State.supervise_tdu_eq (s : State) : s.supervise.tdu =
    { s.tdu with
      vigil := s.supervise.tdu.vigil, vigilOn := s.supervise.tdu.vigilOn, marks := s.supervise.tdu.marks } := by
  unfold State.supervise State.vigilTrip State.vigilWarning
  dsimp only
  split
  · rfl
  · split
    · split <;> split <;> simp
    · rfl

theorem State.supervise_period (s : State) : s.supervise.tdu.period = s.tdu.period := by
  rw [s.supervise_tdu_eq]
  rfl

/-! ### The closing tests (R198, R200) -/

theorem State.completionTest_cases (s : State) :
    s.completionTest = s ∨
      s.mcr.mode = .holdPending ∧ s.still ∧ s.completionTest = s.inHold.standbyTest := by
  by_cases hc : s.mcr.mode = .holdPending ∧ s.holdComplete = true
  · exact .inr ⟨hc.1, (s.holdComplete_iff.mp hc.2).1, State.completionTest_of_complete hc.1 hc.2⟩
  · exact .inl (if_neg hc)

/-- With the key on a period ends as its work leaves it, or in HOLD. -/
theorem State.endTests_of_key (hk : s.dci.heldKey = true) :
    s.completionTest.standbyTest = s ∨
      s.mcr.mode = .holdPending ∧ s.still ∧ s.completionTest.standbyTest = s.inHold := by
  have hkey : s.inHold.dci.heldKey = true := by rw [State.inHold_dci, hk]
  obtain h | ⟨hm, hs, h⟩ := s.completionTest_cases
  · exact .inl (by rw [h, State.standbyTest_of_key hk])
  · exact .inr ⟨hm, hs, by rw [h, State.standbyTest_of_key hkey, State.standbyTest_of_key hkey]⟩

theorem State.standbyTest_period (s : State) : s.standbyTest.tdu.period = s.tdu.period := by
  obtain h | ⟨-, h⟩ := s.standbyTest_cases
  · rw [h]
  · rw [h]
    rfl

/-- The closing tests leave the period. -/
theorem State.endTests_period (s : State) : s.completionTest.standbyTest.tdu.period = s.tdu.period := by
  rw [State.standbyTest_period]
  obtain h | ⟨hm, -, h⟩ := s.completionTest_cases
  · rw [h]
  · rw [h, State.standbyTest_period, State.inHold_tdu (by rw [hm]; rfl)]
    rfl

/-! ### The count (R50) -/

theorem State.publishHold_tdu (s : State) : s.publishHold.tdu = s.tdu := State.publish_tdu ..

/-- The work of a period leaves the period timer and the count. -/
theorem State.periodWork_period (s : State) : s.periodWork.tdu.period = s.tdu.period := by
  have holding : s.evaluateSpeed.1.releaseTest.publishHold.tdu.period = s.tdu.period := by
    rw [State.publishHold_tdu]
    exact s.computes_evaluateSpeed.releaseTest.period
  have holds (hm : s.mcr.mode = .configure ∨ s.mcr.mode = .hold) : s.periodWork.tdu.period = s.tdu.period := by
    obtain h | ⟨d, h⟩ := State.periodWork_of_holding hm
    · rw [h, holding]
    · rw [h, (State.routes_periodDistance _ d).tdu]
      exact holding
  have drives (hm : s.mcr.mode = .service ∨ s.mcr.mode = .holdPending) : s.periodWork.tdu.period = s.tdu.period := by
    have htdu : s.periodWork.tdu = s.published.supervise.tdu := (State.routes_periodWork hm).tdu
    rw [htdu, State.supervise_period]
    exact s.computes_published.period
  cases hm : s.mcr.mode with
  | starting | failed | standby =>
    unfold State.periodWork
    rw [hm]
  | step =>
    unfold State.periodWork
    rw [hm]
    exact congrArg _ s.publishHold_tdu
  | configure => exact holds (.inl hm)
  | hold => exact holds (.inr hm)
  | service => exact drives (.inl hm)
  | holdPending => exact drives (.inr hm)

theorem exec_controlPeriod_of_not_evaluates (h : s.mcr.mode.evaluates = false) :
    exec .controlPeriod s = .next s.startPeriod.periodWork := by
  change execControlPeriod s = _
  rw [execControlPeriod, if_neg (by simp [h])]

/-! ### The hold setpoint (R52) -/

/-- What a period that computes no command keeps of the traction unit (R52). -/
def Traction.KeepsCommand (x y : Traction) : Prop :=
  y.eCmd = x.eCmd ∧ y.slips = x.slips ∧ y.record = x.record ∧ y.held = x.held ∧ y.overspeed = x.overspeed ∧
    y.unitsDegraded = x.unitsDegraded

theorem State.evaluateSpeed_keepsCommand (s : State) : s.tdu.KeepsCommand s.evaluateSpeed.1.tdu := by
  have found : s.tdu.KeepsCommand s.findSpeed.superviseSpeed.tdu := by
    rw [State.superviseSpeed_tdu, s.findSpeed_eq]
    exact ⟨rfl, rfl, rfl, rfl, rfl, rfl⟩
  unfold State.evaluateSpeed State.advanceOdometer
  split
  · exact found
  · exact found

theorem State.hushed_evaluateSpeed (s : State) : s.Hushed s.evaluateSpeed.1 := by
  have found : s.Hushed s.findSpeed := by
    rw [s.findSpeed_eq]
    exact (State.Hushed.refl s).withTdu _
  have supervised : s.Hushed s.findSpeed.superviseSpeed := by
    unfold State.superviseSpeed
    split
    · exact ((found.withMarks _).raise _ _ _).setFlag _
    · exact (found.withMarks _).lift _ _
    · exact found
  unfold State.evaluateSpeed State.advanceOdometer
  split
  · exact supervised
  · exact supervised.withTdu _

/-- The evaluation of the speed raises and lifts SPEED_LOST alone (R54). -/
theorem State.mem_evaluateSpeed_iff {e : Restriction} (he : e.source ≠ .speedLost) (s : State) :
    e ∈ s.evaluateSpeed.1.rsl ↔ e ∈ s.rsl := by
  have found : s.findSpeed.rsl = s.rsl := by rw [s.findSpeed_eq]; rfl
  have supervised : e ∈ s.findSpeed.superviseSpeed.rsl ↔ e ∈ s.rsl := by
    rw [← found]
    unfold State.superviseSpeed
    split
    · rw [State.setFlag_rsl]
      exact State.mem_raise_iff he _ _ _
    · exact State.mem_lift_iff he _ _
    · exact .rfl
  unfold State.evaluateSpeed State.advanceOdometer
  split
  · exact supervised
  · exact supervised

/-- The payload of the hold setpoint, with an emergency in the list or without (R52). -/
def Traction.holdPayload (x : Traction) (emergency : Bool) : List Byte :=
  setpointPayload x.held [0, 0, 0, 0] (if emergency then max x.items.holdBrake x.items.emergBrake else x.items.holdBrake)
    emergency true false 0

/-- The hold setpoint of a state that has sent nothing since `s`, with what sends nothing after it. -/
theorem State.sendsTo_publishHold {a : State} (h : s.Hushed a) (hi : a.tdu.items = s.tdu.items)
    (hh : a.tdu.held = s.tdu.held) (k : a.publishHold.Hushed t) :
    s.sendsTo t s.tdu.items.setpointId (s.tdu.holdPayload (emergencyPresent a.rsl)) := by
  have hpublish : a.publishHold = a.publish s.tdu.items.setpointId (s.tdu.holdPayload (emergencyPresent a.rsl)) := by
    unfold State.publishHold Traction.holdPayload
    rw [hi, hh]
  rw [hpublish] at k
  exact State.sendsTo_of_publish h k

/-- What O18 says of CONFIGURE, HOLD and STEP: the command is kept, and the hold setpoint sent. -/
def State.HoldsSetpoint (s t : State) : Prop :=
  s.tdu.KeepsCommand t.tdu ∧ ∃ emergency : Bool,
    s.sendsTo t s.tdu.items.setpointId (s.tdu.holdPayload emergency) ∧
    (t.mcr.mode = s.mcr.mode → (emergency = true ↔ ∃ e ∈ t.rsl, ∃ l, e.kind = .emergency l)) ∧
    ((∃ e ∈ s.rsl, e.source ≠ .speedLost ∧ e.kind = .emergency false) → emergency = true)

theorem State.hushed_startPeriod (s : State) : s.Hushed s.startPeriod := ⟨rfl, rfl, fun _ => rfl⟩

/-- STEP sends the hold setpoint and nothing else (R50, R52). -/
theorem State.holdsSetpoint_of_step (s : State) : s.HoldsSetpoint s.startPeriod.publishHold := by
  refine ⟨by rw [State.publishHold_tdu]; exact ⟨rfl, rfl, rfl, rfl, rfl, rfl⟩, emergencyPresent s.rsl,
    State.sendsTo_publishHold (a := s.startPeriod) s.hushed_startPeriod rfl rfl (.refl _), fun _ => ?_, fun ⟨e, he, _, hk⟩ => ?_⟩
  · rw [emergencyPresent_iff, State.publishHold, State.publish_rsl]
    rfl
  · exact (emergencyPresent_iff _).mpr ⟨e, he, false, hk⟩

theorem State.standbyTest_keepsCommand (s : State) : s.tdu.KeepsCommand s.standbyTest.tdu := by
  obtain h | ⟨-, h⟩ := s.standbyTest_cases <;> (rw [h]; exact ⟨rfl, rfl, rfl, rfl, rfl, rfl⟩)

theorem State.hushed_standbyTest (s : State) : s.Hushed s.standbyTest := by
  obtain h | ⟨-, h⟩ := s.standbyTest_cases <;> (rw [h]; exact ⟨rfl, rfl, fun _ => rfl⟩)

/-- CONFIGURE and HOLD evaluate the speed, test the release and send the hold setpoint (R50, R52). -/
theorem State.holdsSetpoint_of_holding (hm : s.mcr.mode = .configure ∨ s.mcr.mode = .hold) :
    s.HoldsSetpoint s.startPeriod.periodWork.standbyTest := by
  set a := s.startPeriod.evaluateSpeed.1.releaseTest with ha
  have computed : s.startPeriod.Computes a := s.startPeriod.computes_evaluateSpeed.releaseTest
  have kept : s.tdu.KeepsCommand a.tdu := by
    rw [ha, State.releaseTest_tdu]
    exact s.startPeriod.evaluateSpeed_keepsCommand
  have hushed : s.Hushed a := s.hushed_startPeriod.trans s.startPeriod.hushed_evaluateSpeed.releaseTest
  obtain ⟨htdu, hroute⟩ : s.startPeriod.periodWork.tdu = a.tdu ∧ a.publishHold.RoutesHushed s.startPeriod.periodWork := by
    obtain h | ⟨d, h⟩ := State.periodWork_of_holding (s := s.startPeriod) hm
    · rw [h]
      exact ⟨a.publishHold_tdu, .refl _⟩
    · rw [h]
      exact ⟨(State.routes_periodDistance _ d).tdu.trans a.publishHold_tdu, State.routesHushed_periodDistance _ d⟩
  have hmode : s.startPeriod.periodWork.mcr = s.mcr := State.mcr_of_watch (by simp)
  refine ⟨?_, emergencyPresent a.rsl, ?_, fun hsame => ?_, fun ⟨e, he, hsrc, hk⟩ => ?_⟩
  · have hstandby := s.startPeriod.periodWork.standbyTest_keepsCommand
    rw [htdu] at hstandby
    simp only [Traction.KeepsCommand] at hstandby kept ⊢
    simpa only [kept] using hstandby
  · exact State.sendsTo_publishHold hushed computed.items (by obtain ⟨-, -, -, h, -⟩ := kept; exact h)
      (hroute.hushed.trans (State.hushed_standbyTest _))
  · have hstay : s.startPeriod.periodWork.standbyTest = s.startPeriod.periodWork := by
      refine (State.standbyTest_cases _).resolve_right fun ⟨_, h⟩ => ?_
      rw [h] at hsame
      obtain hm | hm := hm <;> (rw [hm] at hsame; cases hsame)
    rw [hstay, ← emergencyPresent_iff, hroute.emergency, State.publishHold, State.publish_rsl]
  · refine (emergencyPresent_iff _).mpr ⟨e, ?_, false, hk⟩
    exact (State.mem_releaseTest_iff _ e).mpr ⟨(State.mem_evaluateSpeed_iff hsrc _).mpr he, fun _ => by rw [hk]; decide⟩

/-- Settles O18: the count of every mode, the modes that do no more, and the hold setpoint of the others. -/
theorem controlPeriodCounts : Obligations.ControlPeriodCounts := by
  intro s
  have counted {t : State} (h : t.tdu.period = s.startPeriod.tdu.period) :
      t.tdu.periodLeft = 20 ∧ t.tdu.periodCount = s.tdu.periodCount + 1 :=
    ⟨congrArg Prod.fst h, congrArg Prod.snd h⟩
  have worked := s.startPeriod.periodWork_period
  have ended := (s.startPeriod.periodWork.endTests_period).trans worked
  cases hm : s.mcr.mode with
  | starting | failed | standby =>
    obtain ⟨hleft, hcount⟩ := counted worked
    refine ⟨_, exec_controlPeriod_of_not_evaluates (by rw [hm]; rfl), hleft, hcount, fun _ => ?_, by simp, by simp⟩
    unfold State.periodWork
    rw [show s.startPeriod.mcr.mode = _ from hm]
    rfl
  | step =>
    have hwork : s.startPeriod.periodWork = s.startPeriod.publishHold := by
      unfold State.periodWork
      rw [show s.startPeriod.mcr.mode = _ from hm]
    obtain ⟨hleft, hcount⟩ := counted worked
    rw [hwork] at hleft hcount
    obtain ⟨⟨h1, h2, h3, h4, h5, h6⟩, hsent⟩ := s.holdsSetpoint_of_step
    rw [hm] at hsent
    refine ⟨_, (exec_controlPeriod_of_not_evaluates (by rw [hm]; rfl)).trans (congrArg _ hwork), hleft, hcount, by simp,
      fun _ => ⟨h1, h2, h3, h4, h5, h6, hsent⟩, fun _ => ?_⟩
    rw [State.publishHold_tdu, State.publishHold, State.publish_rsl]
    exact ⟨rfl, rfl, rfl⟩
  | configure | hold =>
    have hdone : s.startPeriod.periodWork.completionTest = s.startPeriod.periodWork := by
      refine (State.completionTest_cases _).resolve_right fun ⟨h, _⟩ => ?_
      rw [State.mcr_of_watch (s := s) (by simp), hm] at h
      cases h
    obtain ⟨hleft, hcount⟩ := counted ended
    obtain ⟨⟨h1, h2, h3, h4, h5, h6⟩, hsent⟩ := State.holdsSetpoint_of_holding (s := s) (by rw [hm]; simp)
    rw [hm, ← hdone] at hsent
    rw [← hdone] at h1 h2 h3 h4 h5 h6
    exact ⟨_, exec_controlPeriod_of_evaluates (by rw [hm]; rfl), hleft, hcount, by simp,
      fun _ => ⟨h1, h2, h3, h4, h5, h6, hsent⟩, by simp⟩
  | service | holdPending =>
    obtain ⟨hleft, hcount⟩ := counted ended
    exact ⟨_, exec_controlPeriod_of_evaluates (by rw [hm]; rfl), hleft, hcount, by simp, by simp, by simp⟩

end Sys2Proof.Machine
end

section
/-! SUPPORT. Vigilance (R63, R64): its count, its warning and its trip, each on its own, and a computed period's, with
the statement about it. -/

namespace Sys2Proof.Machine

variable {s t u : State}

/-! ### What the warning and the trip may change -/

/-- From `s` to `t` the vigilance has acted: the traction unit, the list, the sounders and what sending changes are all
that may differ, and no flag is cleared. -/
structure State.Alerts (s t : State) : Prop where
  same : (((s.withTdu t.tdu).withRsl t.rsl).withSsq t.ssq).sameButSent t
  flags : s.flagsKept t

theorem State.Alerts.trans (h : s.Alerts t) (k : t.Alerts u) : s.Alerts u where
  same := State.sameButSent_of (k.same.fcl.trans h.same.fcl) (k.same.sgt.trans h.same.sgt) (k.same.dci.trans h.same.dci)
    rfl rfl (k.same.rtu.trans h.same.rtu) (k.same.tlk.trans h.same.tlk) (k.same.sru.trans h.same.sru) rfl
    (k.same.mcr.trans h.same.mcr) (k.same.env.trans h.same.env) (k.same.pending.trans h.same.pending)
    (k.same.enables.trans h.same.enables) (k.same.channels.trans h.same.channels) (k.same.map.trans h.same.map)
  flags := State.flagsKept_iff.mpr fun n hn => State.flagsKept_iff.mp k.flags n (State.flagsKept_iff.mp h.flags n hn)

theorem State.Alerts.mcr (h : s.Alerts t) : t.mcr = s.mcr := h.same.mcr

theorem State.alerts_withTdu (s : State) (x : Traction) : s.Alerts (s.withTdu x) := ⟨rfl, BitVec.and_self⟩

/-- A change of the list and the sounders that leaves the stop request unit. -/
theorem State.Serves.alerts (h : s.Serves t) (hs : t.sru = s.sru) : s.Alerts t where
  same := State.sameButSent_of h.same.fcl h.same.sgt h.same.dci rfl rfl h.same.rtu h.same.tlk hs rfl h.same.mcr h.same.env
    h.same.pending h.same.enables h.same.channels h.same.map
  flags := h.flags

/-- A sound request's effect on the sounders is decided by the sounders and the mode (R164). -/
theorem State.soundRequest_ssq_congr (hm : t.mcr = s.mcr) (hq : t.ssq = s.ssq) (ch : Channel) (r : SoundRequest) :
    (t.soundRequest ch r).ssq = (s.soundRequest ch r).ssq := by
  simp only [State.soundRequest, hm, hq, apply_ite State.ssq, State.setFlag_ssq, State.withSsq_ssq]

/-! ### The warning (R63) -/

/-- The warning of a state: VIGIL_PAT on CHIME at priority SAFETY (R63). -/
def State.warningRequest (s : State) : SoundRequest := ⟨s.ssq.items.vigilPat, .vigil, 2⟩

/-- The trip's request: EMERG_HORN_PAT on HORN at priority SAFETY (R63). -/
def State.tripRequest (s : State) : SoundRequest := ⟨s.ssq.items.emergHornPat, .vigil, 2⟩

theorem State.vigilWarning_tdu (s : State) : s.vigilWarning.tdu = { s.tdu with vigilOn := true } := by
  simp [State.vigilWarning]

theorem State.vigilWarning_rsl (s : State) : s.vigilWarning.rsl = s.rsl := by simp [State.vigilWarning]

theorem State.vigilWarning_ssq (s : State) : s.vigilWarning.ssq = (s.soundRequest .chime s.warningRequest).ssq := by
  rw [State.vigilWarning, State.setFlag_ssq]
  exact State.soundRequest_ssq_congr (by exact rfl) (by exact rfl) _ _

theorem State.vigilWarning_isSet (s : State) : s.vigilWarning.efn.isSet .vigilWarn = true := State.setFlag_isSet _ _

theorem State.alerts_vigilWarning (s : State) : s.Alerts s.vigilWarning :=
  (s.alerts_withTdu _).trans
    ((((State.Serves.refl _).soundRequest _ _).setFlag _).alerts (by rw [State.setFlag_sru, State.soundRequest_sru]))

/-! ### The trip (R63) -/

theorem State.vigilTrip_tdu (s : State) :
    s.vigilTrip.tdu = { s.tdu with marks := { s.tdu.marks with vigil := true } } := by
  simp [State.vigilTrip]

theorem State.vigilTrip_rsl (s : State) :
    s.vigilTrip.rsl = ((s.withMarks { s.tdu.marks with vigil := true }).raise .vigil 0 (.emergency false)).rsl := by
  simp [State.vigilTrip]

theorem State.vigilTrip_ssq (s : State) : s.vigilTrip.ssq = (s.soundRequest .horn s.tripRequest).ssq :=
  State.soundRequest_ssq_congr (by simp) (by simp) _ _

theorem State.alerts_vigilTrip (s : State) : s.Alerts s.vigilTrip :=
  (s.alerts_withTdu _).trans
    (((((State.Serves.refl _).raise _ _ _).setFlag _).soundRequest _ _).alerts
      (by rw [State.soundRequest_sru, State.setFlag_sru, State.raise_sru]))

theorem State.vigilTrip_isSet (s : State) : s.vigilTrip.efn.isSet .vigilTrip = true :=
  ((State.Serves.refl _).soundRequest _ _).isSet (State.setFlag_isSet _ _)

/-- VIGIL stands as an EMERGENCY with no lift request (R63, R85). -/
theorem State.vigilTrip_stands (hm : s.mcr.mode ≠ .standby) : standsAs s.vigilTrip.rsl .vigil (.emergency false) := by
  rw [State.vigilTrip_rsl]
  obtain ⟨e, he, hsrc, hkey, hkind | ⟨hne, -, -⟩⟩ := State.exists_mem_raise
    (s := s.withMarks { s.tdu.marks with vigil := true }) hm .vigil 0 (k := .emergency false) (by decide)
  · exact ⟨e, he, hsrc, hkey, hkind⟩
  · exact absurd rfl (hne false)

/-! ### A period's vigilance, by case (R63, R64) -/

theorem State.moving_iff (s : State) : s.moving = true ↔ ∃ x, s.tdu.speed = some x ∧ 3 < x.v := by
  unfold State.moving
  cases s.tdu.speed <;> simp

theorem State.supervise_of_still (h : s.still) : s.supervise = s.withTdu s.tdu.vigilCleared :=
  if_pos (s.standstill_iff.mpr h)

/-- Out of motion, with DEADMAN held or at the limit nothing changes. -/
theorem State.supervise_of_quiet (h : ¬ s.still)
    (hq : s.moving = true → s.tdu.inputs.deadman = true ∨ s.tdu.items.vigilLimit ≤ s.tdu.vigil) : s.supervise = s := by
  rw [State.supervise, if_neg (mt s.standstill_iff.mp h), if_neg]
  simp only [Bool.and_eq_true, Bool.not_eq_true', decide_eq_true_eq]
  rintro ⟨⟨hm, hd⟩, hv⟩
  obtain hd' | hv' := hq hm
  · rw [hd] at hd'
    cases hd'
  · omega

/-- The timer has gained a period (R63). -/
def State.vigilCounted (s : State) : State := s.withTdu { s.tdu with vigil := s.tdu.vigil + 20 }

/-- The count has come to VIGIL_WARN. -/
def State.warns (s : State) : Bool := decide (s.tdu.vigil + 20 = s.tdu.items.vigilWarn)

/-- The count has come to VIGIL_LIMIT. -/
def State.trips (s : State) : Bool := decide (s.tdu.vigil + 20 = s.tdu.items.vigilLimit)

/-- The count with its warning where it is due (R63). -/
def State.vigilWarned (s : State) : State := if s.warns then s.vigilCounted.vigilWarning else s.vigilCounted

theorem State.supervise_of_counting (h : s.moving = true) (hd : s.tdu.inputs.deadman = false)
    (hv : s.tdu.vigil < s.tdu.items.vigilLimit) :
    s.supervise = if s.trips then s.vigilWarned.vigilTrip else s.vigilWarned := by
  have hstill : ¬ s.standstill = true := by
    obtain ⟨x, hx, hlt⟩ := s.moving_iff.mp h
    rw [State.standstill_iff]
    rintro ⟨y, hy, hle⟩
    rw [hx] at hy
    obtain rfl := Option.some.inj hy
    omega
  rw [State.supervise, if_neg hstill, if_pos (by simp [h, hd, hv])]
  simp only [State.trips, State.vigilWarned, State.warns, decide_eq_true_eq]
  rfl

/-! ### Count and warning, then the trip -/

theorem State.vigilWarned_tdu (s : State) : s.vigilWarned.tdu =
    { s.tdu with vigil := s.tdu.vigil + 20, vigilOn := s.tdu.vigilOn || s.warns } := by
  unfold State.vigilWarned
  cases h : s.warns with
  | true =>
    rw [if_pos rfl, State.vigilWarning_tdu, Bool.or_true]
    rfl
  | false =>
    rw [if_neg (by simp), Bool.or_false]
    rfl

theorem State.vigilWarned_rsl (s : State) : s.vigilWarned.rsl = s.rsl := by
  unfold State.vigilWarned
  split
  · exact s.vigilCounted.vigilWarning_rsl
  · rfl

theorem State.vigilWarned_ssq (s : State) :
    s.vigilWarned.ssq = if s.warns then (s.soundRequest .chime s.warningRequest).ssq else s.ssq := by
  unfold State.vigilWarned
  split
  · rw [State.vigilWarning_ssq]
    exact State.soundRequest_ssq_congr (by exact rfl) (by exact rfl) _ _
  · rfl

theorem State.alerts_vigilWarned (s : State) : s.Alerts s.vigilWarned := by
  unfold State.vigilWarned
  split
  · exact (s.alerts_withTdu _).trans (State.alerts_vigilWarning _)
  · exact s.alerts_withTdu _

theorem State.soundRequest_items (s : State) (ch : Channel) (r : SoundRequest) :
    (s.soundRequest ch r).ssq.items = s.ssq.items := by
  have h : (s.soundRequest ch r).settings = s.settings := by simp
  exact congrArg Settings.patterns h

/-- The clause of O25 about a period that counts (R63). -/
theorem State.supervise_counts (h : s.moving = true) (hd : s.tdu.inputs.deadman = false)
    (hv : s.tdu.vigil < s.tdu.items.vigilLimit) :
    s.supervise.tdu =
        { s.tdu with
          vigil := s.tdu.vigil + 20
          vigilOn := s.tdu.vigilOn || s.warns
          marks := { s.tdu.marks with vigil := s.tdu.marks.vigil || s.trips } } ∧
      (s.warns = true → s.supervise.efn.isSet .vigilWarn = true) ∧
      (s.trips = true → s.supervise.efn.isSet .vigilTrip = true) ∧
      (s.trips = true → s.mcr.mode ≠ .standby → standsAs s.supervise.rsl .vigil (.emergency false)) ∧
      (s.trips = false → s.supervise.rsl = s.rsl) ∧
      s.supervise.ssq =
        (if s.trips then ((s.withSsq s.vigilWarned.ssq).soundRequest .horn s.tripRequest).ssq else s.vigilWarned.ssq) ∧
      (s.warns = false → s.trips = false → s.supervise = s.withTdu s.supervise.tdu) ∧ s.Alerts s.supervise := by
  have hset (hw : s.warns = true) : s.vigilWarned.efn.isSet .vigilWarn = true := by
    rw [State.vigilWarned, if_pos hw]
    exact State.vigilWarning_isSet _
  have alerts := s.alerts_vigilWarned
  rw [State.supervise_of_counting h hd hv]
  cases htrips : s.trips with
  | true =>
    have hrequest : s.vigilWarned.tripRequest = s.tripRequest := by
      rw [State.tripRequest, State.vigilWarned_ssq, State.tripRequest]
      split
      · rw [State.soundRequest_items]
      · rfl
    have hmode : s.vigilWarned.mcr = s.mcr := alerts.mcr
    have trip := s.vigilWarned.alerts_vigilTrip
    rw [if_pos rfl, State.vigilTrip_tdu, State.vigilWarned_tdu, Bool.or_true, State.vigilTrip_ssq, hrequest]
    refine ⟨rfl, fun hw => State.flagsKept_iff.mp trip.flags _ (hset hw), fun _ => State.vigilTrip_isSet _,
      fun _ hm => State.vigilTrip_stands (by rwa [hmode]), by simp, ?_, by simp, alerts.trans trip⟩
    rw [if_pos rfl]
    exact State.soundRequest_ssq_congr (s := s.withSsq s.vigilWarned.ssq) hmode rfl _ _
  | false =>
    rw [if_neg (by simp), State.vigilWarned_tdu, Bool.or_false]
    refine ⟨rfl, hset, by simp, by simp, fun _ => s.vigilWarned_rsl, rfl, fun hw _ => ?_, alerts⟩
    rw [hw, Bool.or_false, State.vigilWarned, if_neg (by simp [hw])]
    rfl

/-! ### The statement -/

/-- What the route unit's actions and the closing tests of a period leave of the vigilance with the key on. -/
theorem State.endTests_keep_vigilance {b : State} (hk : s.dci.heldKey = true)
    (hcleared : s.still → s.tdu.vigil = 0 ∧ s.tdu.vigilOn = false) (h : s.Routes b) :
    b.completionTest.standbyTest.tdu.vigilance = s.tdu.vigilance ∧
      (∀ e : Restriction, e.source = .vigil → (e ∈ b.completionTest.standbyTest.rsl ↔ e ∈ s.rsl)) ∧
      (b.completionTest.standbyTest.mcr.mode = s.mcr.mode → b.completionTest.standbyTest.ssq = s.ssq) := by
  have hroute (e : Restriction) (he : e.source = .vigil) : e ∈ b.rsl ↔ e ∈ s.rsl :=
    h.entries e (by rw [he]; decide) (by rw [he]; decide)
  obtain heq | ⟨hm, hs, heq⟩ := State.endTests_of_key (s := b) (by rw [h.dci, hk])
  · rw [heq]
    exact ⟨by rw [h.tdu], hroute, fun _ => h.ssq⟩
  · have hdrive : b.mcr.mode.driving = true := by rw [hm]; rfl
    rw [heq, State.inHold_tdu hdrive, State.inHold_mcr, h.tdu]
    refine ⟨?_, fun e he => ?_, fun hmode => ?_⟩
    · have hstill : s.still := by rwa [State.still, h.tdu] at hs
      obtain ⟨hv, ho⟩ := hcleared hstill
      rw [Traction.vigilance, Traction.vigilance, hv, ho]
      rfl
    · rw [State.mem_inHold_iff hdrive (by rw [he]; decide) (by rw [he]; decide), hroute e he]
    · rw [← h.mcr, hm] at hmode
      cases hmode

/-- Settles O25: the cases of a period's vigilance, then a control period, whose vigilance is that of the state that has
made its SETPOINT frame. -/
theorem vigilanceTrips : Obligations.VigilanceTrips := by
  refine ⟨fun s => ⟨fun x hx hv => State.supervise_of_still ⟨x, hx, hv⟩, fun x hx hv hd hl => ?_,
    fun x hx hv hd hl => State.supervise_of_quiet ?_ fun _ => .inr hl, fun hn => State.supervise_of_quiet ?_ ?_,
    fun x hx hv hd => State.supervise_of_quiet ?_ fun _ => .inl hd⟩, fun s hm hk => ?_⟩
  · obtain ⟨htdu, hwarn, htrip, hstands, hrsl, hssq, hquiet, halerts⟩ :=
      State.supervise_counts (s.moving_iff.mpr ⟨x, hx, hv⟩) hd hl
    exact ⟨s.supervise, s.warns, s.trips, s.vigilWarned.ssq, rfl, decide_eq_true_iff, decide_eq_true_iff, htdu, hwarn,
      htrip, hstands, hrsl, s.vigilWarned_ssq, hssq, hquiet, halerts.same, halerts.flags⟩
  · rintro ⟨y, hy, hle⟩
    rw [hx] at hy
    obtain rfl := Option.some.inj hy
    omega
  · rintro ⟨y, hy, -⟩
    rw [hn] at hy
    cases hy
  · intro hmoving
    obtain ⟨y, hy, -⟩ := s.moving_iff.mp hmoving
    rw [hn] at hy
    cases hy
  · rintro ⟨y, hy, hle⟩
    rw [hx] at hy
    obtain rfl := Option.some.inj hy
    omega
  · set u := s.startPeriod.published with hu
    have computed : s.startPeriod.Computes u := s.startPeriod.computes_published
    have route : u.supervise.Routes s.startPeriod.periodWork := State.routes_periodWork hm
    have hdci : u.supervise.dci = s.dci := route.dci.symm.trans (State.dci_of_watch (by simp))
    have supervised : u.KeepsSpeed u.supervise := (State.KeepsSpeed.refl u).supervise
    have ended := ((State.KeepsSpeed.refl u.supervise).routes route).endTests (by rw [hdci]; exact hk)
    have hcleared (h : u.supervise.still) : u.supervise.tdu.vigil = 0 ∧ u.supervise.tdu.vigilOn = false := by
      rw [State.still, supervised.speed] at h
      rw [State.supervise_of_still h]
      exact ⟨rfl, rfl⟩
    obtain ⟨hvigil, hentries, hssq⟩ := State.endTests_keep_vigilance (by rw [hdci]; exact hk) hcleared route
    have hmcr : u.supervise.mcr = s.mcr := route.mcr.symm.trans (State.mcr_of_watch (by simp))
    rw [hmcr] at hssq
    simp only [Traction.vigilance, Prod.mk.injEq] at hvigil
    obtain ⟨hv, ho, hmark⟩ := hvigil
    have hbefore := computed.vigilance
    simp only [Traction.vigilance, Prod.mk.injEq] at hbefore
    obtain ⟨huv, huo, hum⟩ := hbefore
    exact ⟨u, u.supervise, _, exec_controlPeriod_of_evaluates (Mode.driving_of_cases hm).2, rfl,
      (ended.speed.trans supervised.speed).symm, computed.inputs, computed.items, huv, huo, hum, computed.mcr,
      computed.ssq, computed.comes, computed.stays, hv, ho, hmark, hentries, hssq, ended.flags⟩

end Sys2Proof.Machine
end

section
/-! SUPPORT. The statement about a computed period's restrictions (R73), refuted: it is made of every state, with no
premise that DOORS is held (State.DoorsHeld), and a period that completes HOLD_PENDING tests DOORS after its SETPOINT
frame (R154, R198). -/

namespace Sys2Proof.Machine

/-- HOLD_PENDING at 0.3 km/h with a power command of 120 left and one unit available, the key on, no junction queued and
every channel idle. The doors are not known closed, yet the DOORS mark is clear: State.DoorsHeld does not hold here. -/
def standingUnderPower : State :=
  { State.reset with
    sgt := { slots := [{ value := [0, 3], state := .fresh }, { value := [0, 1, 244], state := .fresh }] }
    dci := { heldKey := true }
    tdu :=
      { allocActive := ⟨[⟨true, 4, 400, some 0, some 1⟩, {}, {}, {}], true⟩
        held := .fwd, prevDesk := .fwd, eCmd := 120, inputs := { dirFwd := true } }
    rsl := []
    mcr := { mode := .holdPending, address := some 5 } }

/-- What a period makes of it: HOLD. -/
def standingUnderPower.next : State := standingUnderPower.startPeriod.periodWork.completionTest.standbyTest

theorem exec_standingUnderPower : exec .controlPeriod standingUnderPower = .next standingUnderPower.next :=
  exec_controlPeriod_of_evaluates rfl

/-- Its record gives a unit power: the list was empty when the shares were computed. -/
theorem standingUnderPower_powers :
    (standingUnderPower.next.tdu.record.any fun r => r.units.any fun u => decide (0 < u.published)) = true := by
  decide

/-- The entry to HOLD has then raised DOORS as HOLD. -/
theorem standingUnderPower_doors : ⟨.doors, 0, .hold, 1⟩ ∈ standingUnderPower.next.rsl := by decide

/-- Refutes O19: `w` is to hold the DOORS entry that the period leaves, a HOLD, and yet no HOLD while a unit has power.
The DOORS test of the entry to HOLD comes after the frame, and in a state whose DOORS mark disagrees with the doors it
raises that entry (R154); the statement wants State.DoorsHeld of `s`. -/
theorem not_noPowerUnderRestriction : ¬ Obligations.NoPowerUnderRestriction := by
  intro h
  obtain ⟨t, r, hexec, hrecord, -, -, -, -, -, -, -, -, -, -, -, -, -, -, -, -, -, -, -, -, -, -, -, -, -, -, -, -, w,
    -, -, hquiet, -, -, hlist⟩ := h standingUnderPower _ .fwd (.inr rfl) rfl (by decide) (by decide)
  obtain rfl : standingUnderPower.next = t := Host.Outcome.next.inj (exec_standingUnderPower.symm.trans hexec)
  have hpower := standingUnderPower_powers
  rw [hrecord, Option.any_some, List.any_eq_true] at hpower
  obtain ⟨x, hx, hpositive⟩ := hpower
  have hhold := hlist _ standingUnderPower_doors (.inl rfl)
  exact absurd (hquiet ⟨_, hhold, .inl rfl⟩ x hx) (Int.not_le.mpr (of_decide_eq_true hpositive))

end Sys2Proof.Machine
end

section
/-! SUPPORT. Raises, lifts and the release test entry by entry (R84 to R88, R94), and the places that the list needs
(R82), with the statements about them. -/

namespace Sys2Proof.Machine

variable {s : State} {src : Source} {key : Half} {k : Restraint} {l l1 l2 : List Restriction} {e : Restriction}

/-! ### The entry of a source and key -/

/-- `e` is the entry of `l` that a raise or a lift of its source and key finds, between `l1` and `l2`. -/
structure FoundBetween (l l1 : List Restriction) (e : Restriction) (l2 : List Restriction) : Prop where
  split : l = l1 ++ e :: l2
  first : ∀ y ∈ l1, ¬ (y.source = e.source ∧ y.key = e.key)

theorem Restriction.names_self (e : Restriction) : e.names e.source e.key = true := (e.names_iff _ _).mpr ⟨rfl, rfl⟩

theorem FoundBetween.names (h : FoundBetween l l1 e l2) : ∀ y ∈ l1, y.names e.source e.key = false := fun y hy =>
  Bool.eq_false_iff.mpr fun hn => h.first y hy ((y.names_iff _ _).mp hn)

theorem FoundBetween.find (h : FoundBetween l l1 e l2) : findRestriction l e.source e.key = some e := by
  have hnone : l1.find? (·.names e.source e.key) = none := List.find?_eq_none.mpr (by simpa using h.names)
  rw [findRestriction, h.split, List.find?_append, hnone, Option.none_or,
    List.find?_cons_of_pos (p := fun y : Restriction => y.names e.source e.key) e.names_self]

theorem FoundBetween.replace (h : FoundBetween l l1 e l2) (x : Restriction) :
    replaceFirst (·.names e.source e.key) x l = l1 ++ x :: l2 := by
  rw [h.split]
  exact replaceFirst_append_cons x e.names_self l2 h.names

theorem FoundBetween.erase (h : FoundBetween l l1 e l2) : l.eraseP (·.names e.source e.key) = l1 ++ l2 := by
  rw [h.split, List.eraseP_append_right _ (by simpa using h.names),
    List.eraseP_cons_of_pos (p := fun y : Restriction => y.names e.source e.key) e.names_self]

/-! ### The table of R85 -/

/-- A raise that is no EMERGENCY does not lessen one. -/
theorem Restraint.raisedBy_of_emergency {b : Bool} (hk : ∀ m, k ≠ .emergency m) :
    (Restraint.emergency b).raisedBy k = .emergency b := by
  cases k with
  | emergency m => exact absurd rfl (hk m)
  | cap v => rfl
  | hold => rfl

/-- A raise of EMERGENCY leaves one with no lift request. -/
theorem Restraint.raisedBy_emergency (held : Restraint) (m : Bool) : held.raisedBy (.emergency m) = .emergency false := by
  cases held <;> rfl

/-- Between CAP and HOLD the raise decides. -/
theorem Restraint.raisedBy_of_calm {held : Restraint} (hh : ∀ b, held ≠ .emergency b) (hk : ∀ m, k ≠ .emergency m) :
    held.raisedBy k = k := by
  cases held with
  | emergency b => exact absurd rfl (hh b)
  | cap v | hold =>
    cases k with
    | emergency m => exact absurd rfl (hk m)
    | cap v => rfl
    | hold => rfl

/-! ### Raises (R84, R85, R94) -/

theorem State.raise_of_standby (h : s.mcr.mode = .standby) : s.raise src key k = s := if_pos h

theorem State.raise_of_new (hm : s.mcr.mode ≠ .standby) (h : findRestriction s.rsl src key = none) :
    (s.raise src key k).rsl = s.rsl ++ [⟨src, key, k, s.tdu.periodCount⟩] ∧
      (s.raise src key k).efn.isSet .rslChange = true := by
  rw [State.raise, if_neg hm, h, State.setFlag_rsl]
  exact ⟨rfl, State.setFlag_isSet _ _⟩

theorem State.raise_of_same (h : FoundBetween s.rsl l1 e l2) (hk : e.kind.raisedBy k = e.kind) :
    s.raise e.source e.key k = s := by
  unfold State.raise
  rw [h.find]
  dsimp only
  rw [if_pos hk, ite_self]

theorem State.raise_of_other (hm : s.mcr.mode ≠ .standby) (h : FoundBetween s.rsl l1 e l2)
    (hk : e.kind.raisedBy k ≠ e.kind) :
    (s.raise e.source e.key k).rsl = l1 ++ { e with kind := e.kind.raisedBy k } :: l2 ∧
      (s.raise e.source e.key k).efn.isSet .rslChange = true := by
  rw [State.raise, if_neg hm, h.find]
  dsimp only
  rw [if_neg hk, State.setFlag_rsl, State.withRsl_rsl, h.replace]
  exact ⟨rfl, State.setFlag_isSet _ _⟩

/-- Settles O26: the entry that stands is replaced where the table of R85 changes its kind, and the table's rows are the
cases of the statement. -/
theorem raiseFollowsTable : Obligations.RaiseFollowsTable := by
  intro s src key k
  refine ⟨State.raise_of_standby, fun hm hnone _ => State.raise_of_new hm hnone, ?_⟩
  rintro l1 e l2 hm hl rfl rfl hfirst
  have found : FoundBetween s.rsl l1 e l2 := ⟨hl, hfirst⟩
  refine ⟨fun b he hk => ?_, ?_, ?_, ?_, fun he hk => ?_⟩
  · exact State.raise_of_same found (by rw [he, Restraint.raisedBy_of_emergency hk])
  · rintro m he rfl
    exact State.raise_of_same found (by rw [he, Restraint.raisedBy_emergency])
  · rintro m he rfl
    have other := State.raise_of_other (k := .emergency m) hm found (by simp [he, Restraint.raisedBy_emergency])
    rwa [Restraint.raisedBy_emergency] at other
  · rintro m he rfl
    have other := State.raise_of_other (k := .emergency m) hm found
      (by rw [Restraint.raisedBy_emergency]; exact (he false).symm)
    rwa [Restraint.raisedBy_emergency] at other
  · have calm := Restraint.raisedBy_of_calm he hk
    have same (h : e.kind = k) : s.raise e.source e.key k = s := State.raise_of_same found (calm.trans h.symm)
    by_cases h : e.kind = k
    · exact ⟨by rw [same h, hl, ← h], fun hne => absurd h hne, same⟩
    · have other := State.raise_of_other hm found (by rw [calm]; exact Ne.symm h)
      rw [calm] at other
      exact ⟨other.1, fun _ => other.2, fun heq => absurd heq h⟩

/-! ### Lifts (R86, R87) and the release test (R88) -/

theorem State.lift_of_absent (h : findRestriction s.rsl src key = none) : s.lift src key = s := by
  rw [State.lift, h]

theorem State.lift_of_calm (h : FoundBetween s.rsl l1 e l2) (he : ∀ b, e.kind ≠ .emergency b) :
    (s.lift e.source e.key).rsl = l1 ++ l2 ∧ (s.lift e.source e.key).efn.isSet .rslChange = true := by
  have heq : s.lift e.source e.key = (s.withRsl (l1 ++ l2)).setFlag .rslChange := by
    rw [State.lift, h.find, ← h.erase]
    cases hk : e.kind with
    | emergency b => exact absurd hk (he b)
    | cap v | hold => simp only [hk]
  rw [heq, State.setFlag_rsl]
  exact ⟨rfl, State.setFlag_isSet _ _⟩

theorem State.lift_of_emergency (h : FoundBetween s.rsl l1 e l2) (he : e.kind = .emergency false) :
    (s.lift e.source e.key).rsl = l1 ++ { e with kind := .emergency true } :: l2 ∧
      (s.lift e.source e.key).efn.isSet .rslChange = true := by
  have heq : s.lift e.source e.key = (s.withRsl (l1 ++ { e with kind := .emergency true } :: l2)).setFlag .rslChange := by
    rw [State.lift, h.find, ← h.replace]
    simp only [he]
  rw [heq, State.setFlag_rsl]
  exact ⟨rfl, State.setFlag_isSet _ _⟩

theorem State.lift_of_requested (h : FoundBetween s.rsl l1 e l2) (he : e.kind = .emergency true) :
    s.lift e.source e.key = s := by
  rw [State.lift, h.find]
  simp only [he]

theorem State.releaseCondition_iff (s : State) :
    s.releaseCondition = true ↔ s.still ∧ s.tdu.inputs.handle ≤ -900 ∧ s.tdu.inputs.deadman = true := by
  rw [State.releaseCondition, Bool.and_eq_true, Bool.and_eq_true, State.standstill_iff, decide_eq_true_iff, and_assoc]

theorem State.releaseTest_of_unmet (h : ¬ s.releaseCondition = true) : s.releaseTest = s :=
  if_neg fun hc => h (Bool.and_eq_true_iff.mp hc).1

theorem State.releaseTest_of_met (h : s.releaseCondition = true) :
    s.releaseTest.rsl = s.rsl.filter (·.kind != .emergency true) := by
  rw [State.releaseTest_rsl, if_pos h]

/-- An entry with its lift requested goes, and sets RSL_CHANGE (R88). -/
theorem State.releaseTest_isSet (h : s.releaseCondition = true) (he : ∃ e ∈ s.rsl, e.kind = .emergency true) :
    s.releaseTest.efn.isSet .rslChange = true := by
  have shorter : (s.rsl.filter (·.kind != .emergency true)).length < s.rsl.length := by
    obtain ⟨e, hmem, hkind⟩ := he
    exact List.length_filter_lt_length_iff_exists.mpr ⟨e, hmem, by simp [hkind]⟩
  unfold State.releaseTest
  dsimp only
  rw [h, decide_eq_true shorter]
  exact State.setFlag_isSet _ _

/-- Settles O27: a lift is decided by the kind of the entry that stands; the release test is a filter where its condition
holds. -/
theorem liftsAndReleaseRemove : Obligations.LiftsAndReleaseRemove := by
  refine ⟨fun s src key => ⟨State.lift_of_absent, ?_⟩, fun s => ⟨?_, fun h => ?_⟩⟩
  · rintro l1 e l2 hl rfl rfl hfirst
    have found : FoundBetween s.rsl l1 e l2 := ⟨hl, hfirst⟩
    exact ⟨State.lift_of_calm found, State.lift_of_emergency found, State.lift_of_requested found⟩
  · intro x hx hv hh hd
    have met := s.releaseCondition_iff.mpr ⟨⟨x, hx, hv⟩, hh, hd⟩
    rw [State.releaseTest_of_met met]
    exact ⟨fun e => by simp, List.filter_sublist, State.releaseTest_isSet met⟩
  · refine State.releaseTest_of_unmet fun hc => ?_
    obtain ⟨⟨x, hx, hv⟩, hh, hd⟩ := s.releaseCondition_iff.mp hc
    obtain h | ⟨y, hy, hlt⟩ | h | h := h
    · rw [h] at hx
      cases hx
    · obtain rfl := Option.some.inj (hx.symm.trans hy)
      omega
    · omega
    · rw [h] at hd
      cases hd

/-! ### The places of the list (R82) -/

/-- The identities that a list can have: the nine sources under key 0, and a JUNCTION entry for each junction queued. -/
def possibleIdentities (q : List Transaction) : List (Source × Half) :=
  [.doors, .route, .speedLost, .unitsLost, .brake, .vigil, .handle, .desk, .mode].map (·, 0) ++
    q.map fun t => (.junction, t.junction)

theorem State.identity_possible (hk : s.KeysZero) (hj : s.JunctionsMirrored) (he : e ∈ s.rsl) :
    e.identity ∈ possibleIdentities s.rtu.queue := by
  by_cases hs : e.source = .junction
  · obtain ⟨⟨t, ht, hkey⟩, -⟩ := hj.2 e he hs
    exact List.mem_append_right _ (List.mem_map.mpr ⟨t, ht, by rw [Restriction.identity, hs, hkey]⟩)
  · refine List.mem_append_left _ ?_
    rw [Restriction.identity, hk e he hs]
    cases h : e.source with
    | junction => exact absurd h hs
    | _ => simp

/-- Settles O28: the identities are distinct, and nine and one for each of four junctions are possible. -/
theorem atMostThirteenRestrictions : Obligations.AtMostThirteenRestrictions := by
  intro s hfits hdistinct hkeys hmirrored
  obtain ⟨-, -, -, hqueue, -⟩ := hfits
  obtain ⟨-, -, honce, -⟩ := hdistinct
  have hsub : identities s.rsl ⊆ possibleIdentities s.rtu.queue := fun i hi => by
    obtain ⟨e, he, rfl⟩ := List.mem_map.mp hi
    exact State.identity_possible hkeys hmirrored he
  have hlen := (List.subperm_of_subset honce hsub).length_le
  simp only [possibleIdentities, List.length_map, List.length_append, List.length_cons, List.length_nil] at hlen
  omega

end Sys2Proof.Machine
end

section
/-! SUPPORT. RESTART and standby exit (R93, R201, R202): what every block takes at their beginning, the answer, and the
scan that brings the key on in STANDBY, with the statement about them. -/

namespace Sys2Proof.Machine

variable {s t u : State} {r : Request} {c : ScanChange}

/-! ### The blocks (R18, R46, R79, R125, R139, R157) -/

/-- A raise into an empty list in a mode that does not report sets its flag and sends nothing (R84, R191). -/
theorem State.raise_of_empty (hm : s.mcr.mode ≠ .standby) (hq : s.mcr.mode.sounding = false) (hl : s.rsl = [])
    (src : Source) (key : Half) (k : Restraint) :
    s.raise src key k = (s.withRsl [⟨src, key, k, s.tdu.periodCount⟩]).withEfn (s.efn.set .rslChange) := by
  have hsilent (l : List Restriction) : (s.withRsl l).setFlag .rslChange = (s.withRsl l).withEfn (s.efn.set .rslChange) :=
    State.setFlag_of_silent (s := s.withRsl l) hq _
  rw [State.raise, if_neg hm, hl]
  exact hsilent _

/-- A port's queue and its seen set are emptied, and the idle timer runs unless a frame is in flight (R4, R18). -/
theorem LinePort.restarted_eq (p : LinePort) : p.restarted =
    { p with
      egress := []
      seen := []
      idleLeft := if p.inFlight = none then some (p.idleLeft.getD 5) else p.idleLeft } := by
  unfold LinePort.restarted LinePort.restartIdle
  cases hf : p.inFlight <;> cases hi : p.idleLeft <;> simp [Config.idleMs]

theorem TrackLink.restarted_abandoned (x : TrackLink) :
    x.restarted.abandoned = x.abandoned + x.reception.elim 0 (·.arrivals) := by
  unfold TrackLink.restarted
  cases x.reception <;> rfl

theorem Notifier.set_of_clear (e : Notifier) (f : Flag) :
    { e with flags := 0 }.set f = { e with flags := BitVec.twoPow 64 f.number } := by
  simp [Notifier.set]

/-- RESTART and standby exit leave each block's restart values, with MODE/HOLD alone in the list (R93, R202). -/
theorem State.restarted_restartBlocks (s : State) : s.Restarted s.restartBlocks := by
  unfold State.restartBlocks
  rw [State.raise_of_empty Mode.noConfusion rfl rfl]
  refine ⟨fun p => ?_, rfl, rfl, rfl, rfl, rfl, rfl, rfl, ?_, rfl, fun ch => ?_, rfl, rfl, rfl, rfl, ?_, rfl, rfl, rfl⟩
  · cases p <;> exact LinePort.restarted_eq _
  · rw [← TrackLink.restarted_abandoned]
    rfl
  · cases ch <;> rfl
  · exact Notifier.set_of_clear _ _

/-- The flags before a restart, and what it clears of the desk, are not seen after it. -/
theorem State.Restarted.of_desk {d d' : Desk} {e : Environment} {x : BitVec 64}
    (h : (((s.withDci d).withEnv e).withEfn { s.efn with flags := x }).Restarted t) (hd : d.restarted = d'.restarted) :
    ((s.withDci d').withEnv e).Restarted t := by
  obtain ⟨hport, hseq, hfcl, hsgt, hdci, htdu, hrsl, hrtu, htlk, hsru, hch, hdirect, hpat, hitems, hlevel, hefn, hmcr,
    henv, hpending⟩ := h
  exact ⟨hport, hseq, hfcl, hsgt, hdci.trans hd, htdu, hrsl, hrtu, htlk, hsru, hch, hdirect, hpat, hitems, hlevel, hefn,
    hmcr, henv, hpending⟩

theorem State.Restarted.env (h : s.Restarted t) : t.env = s.env := by
  obtain ⟨-, -, -, -, -, -, -, -, -, -, -, -, -, -, -, -, -, henv, -⟩ := h
  exact henv

/-! ### RESTART (R202) -/

/-- RESTART passes the tests of R175 in every mode but STARTING. -/
theorem exec_restart (h : s.fcl.requests.head? = some r) (hr : r.row = .restart) (hm : s.mcr.mode ≠ .starting) :
    exec .restart s = .next ((actRestart r s.taken).1.respond r (actRestart r s.taken).2) := by
  obtain ⟨rest, hreq⟩ := List.head?_eq_some_iff.mp h
  have htaken : s.withFcl { s.fcl with requests := rest } = s.taken := by rw [State.taken, hreq]; rfl
  have hpre : preAnswer s.taken.mcr.mode r = none := by
    change preAnswer s.mcr.mode r = none
    simp [preAnswer, hm, hr]
  change execRestart s = _
  rw [execRestart, manage, hreq]
  dsimp only
  rw [if_pos hr, htaken, answerRequest, decideRequest, hpre]

/-- The modes and the standstill in which RESTART is accepted (R202). -/
theorem actRestart_accepted (r : Request) (h : s.mcr.mode = .configure ∨ s.mcr.mode = .hold ∨ s.mcr.mode = .step ∨
      s.mcr.mode = .failed ∨ (s.mcr.mode = .service ∨ s.mcr.mode = .holdPending) ∧ s.still) :
    actRestart r s = (s.restartBlocks, .plain .done) := by
  unfold actRestart
  obtain hm | hm | hm | hm | ⟨hm | hm, hs⟩ := h <;> simp only [hm]
  all_goals exact if_pos (s.standstill_iff.mpr hs)

theorem actRestart_in_motion (r : Request) (hm : s.mcr.mode = .service ∨ s.mcr.mode = .holdPending) (hs : ¬ s.still) :
    actRestart r s = (s, .plain .refusedBusy) := by
  unfold actRestart
  obtain hm | hm := hm <;> simp only [hm]
  all_goals exact if_neg fun h => hs (s.standstill_iff.mp h)

theorem actRestart_in_standby (r : Request) (hm : s.mcr.mode = .standby) :
    actRestart r s = (s, .plain .refusedMode) := by
  unfold actRestart
  simp only [hm]

/-! ### Standby exit (R201) -/

/-- In STANDBY the key on restarts every block, whatever else the scan delivers and in whatever order (R201; log 6). -/
theorem State.deliverScan_restarts (hc : c.due .control = true) (hk : s.dci.heldKey = true) (hm : s.mcr.mode = .standby) :
    s.deliverScan c = s.restartBlocks := by
  obtain ⟨-, -, -, -, hdci, -, -, -, -, -, -, -, -, -, -, -, hmcr, -⟩ := s.restarted_restartBlocks
  have restarts : State.deliverTo c s .control = s.restartBlocks := by
    rw [State.deliverTo_control, State.keyChanged, if_pos hk, if_pos hm]
  have waits {x : Consumer} (hx : x ≠ .control) : State.deliverTo c s x = s :=
    State.deliverTo_of_inactive (by rw [hm]; rfl) c hx
  have checks (x : Consumer) : State.deliverTo c s.restartBlocks x = s.restartBlocks := by
    by_cases hx : x = .control
    · rw [hx, State.deliverTo_control]
      exact State.keyChanged_of_on (by rw [hdci]; exact hk) (by rw [hmcr]; exact Mode.noConfusion)
    · exact State.deliverTo_of_inactive (by rw [hmcr]; rfl) c hx
  refine foldl_reaches (x := Consumer.control) (P := fun v => v = s ∨ v = s.restartBlocks)
    (R := fun v => v = s.restartBlocks) (ScanChange.mem_consumers.mpr hc) ?_ ?_ ?_ (.inl rfl)
  · rintro v x - (rfl | rfl)
    · by_cases hx : x = .control
      · exact .inr (hx ▸ restarts)
      · exact .inl (waits hx)
    · exact .inr (checks x)
  · rintro v (rfl | rfl)
    · exact restarts
    · exact checks _
  · rintro v x - rfl
    exact checks x

/-- A good scan that brings the key on in STANDBY restarts every block, from a state that differs from the one before it
in the desk, the index of free values and the flags. -/
theorem State.goodScan_restarts (hm : s.mcr.mode = .standby) (hk : s.dci.heldKey = false) {image : Word}
    (hon : heldIn image .keyOn = true) (handle : Int) : ∃ d e x,
      s.goodScan image handle = (((s.withDci d).withEnv e).withEfn { s.efn with flags := x }).restartBlocks ∧
        d.restarted = { s.dci with image := image, heldKey := true }.restarted := by
  have turned : s.dci.heldKey ≠ heldIn image .keyOn := by rw [hk, hon]; decide
  have restarts {v : State} (hv : v.dci.heldKey = true) (hmv : v.mcr.mode = .standby) : v.keyChanged = v.restartBlocks := by
    rw [State.keyChanged, if_pos hv, if_pos hmv]
  cases h : s.dci.state with
  | ok =>
    rw [State.goodScan_of_ok h, State.deliverScan_restarts (s := s.scanned image handle)
      (by simp [ScanChange.due, State.scanChange, turned]) hon hm]
    exact ⟨(s.scanned image handle).dci, (s.scanned image handle).env, s.efn.flags, rfl,
      by simp [State.scanned, Desk.restarted, hon]⟩
  | lost =>
    rw [State.goodScan_of_lost h, if_neg turned]
    split
    · rw [State.recoverDesk_of_inactive (s := s.counted image handle) (by rw [State.counted, State.withDci_mcr, hm]; rfl),
        State.setFlag_of_silent (by rw [State.counted, State.withDci_mcr, State.withDci_mcr, hm]; rfl)]
      refine ⟨{ (s.counted image handle).dci with state := .ok, badRun := 0, goodRun := 0 }, s.env,
        (s.efn.set .deskOk).flags, (restarts ?_ ?_).trans rfl, by simp [State.counted, Desk.restarted, hon]⟩
      · exact hon
      · exact hm
    · rw [restarts (v := s.counted image handle) hon hm]
      exact ⟨(s.counted image handle).dci, s.env, s.efn.flags, rfl, by simp [State.counted, Desk.restarted, hon]⟩

/-- Settles O50: an accepted RESTART and a standby exit both leave what restartBlocks makes of the state; the refusals
leave the state with the request taken. -/
theorem restartKeepsConfiguration : Obligations.RestartKeepsConfiguration := by
  refine ⟨fun s r hhead hrow => ⟨fun h => ?_, fun hm hs => ?_, fun hm => ?_⟩,
    fun s bytes image handle hm ho hk hacc hon => ?_⟩
  · have hne : s.mcr.mode ≠ .starting := by
      intro hst
      rw [hst] at h
      simp at h
    refine ⟨s.taken.restartBlocks, s.taken.restarted_restartBlocks, ?_⟩
    rw [exec_restart hhead hrow hne, actRestart_accepted (s := s.taken) r h]
    rfl
  · have hne : s.mcr.mode ≠ .starting := by obtain h | h := hm <;> rw [h] <;> decide
    rw [exec_restart hhead hrow hne, actRestart_in_motion (s := s.taken) r hm hs]
    rfl
  · rw [exec_restart hhead hrow (by rw [hm]; decide), actRestart_in_standby (s := s.taken) r hm]
    rfl
  · obtain ⟨d, e, x, hscan, hdesk⟩ := State.goodScan_restarts (s := s.closed) hm hk hon handle
    have restarted := State.restarted_restartBlocks
      (((s.closed.withDci d).withEnv e).withEfn { s.closed.efn with flags := x })
    rw [← hscan] at restarted
    have hmode : (s.closed.goodScan image handle).mcr.mode ≠ .holdPending := by
      obtain ⟨-, -, -, -, -, -, -, -, -, -, -, -, -, -, -, -, hmcr, -⟩ := restarted
      rw [hmcr]
      exact Mode.noConfusion
    refine ⟨_, exec_scan_of_good ho hacc, ?_⟩
    rw [State.completionAfter_of_mode hmode, restarted.env]
    exact State.Restarted.of_desk (s := s) restarted hdesk

end Sys2Proof.Machine
end

section
/-! SUPPORT. The identities and the kinds that a raise and a lift leave in the list (R81, R84 to R86). -/

namespace Sys2Proof.Machine

variable {s : State} {src : Source} {key : Half} {k : Restraint} {l : List Restriction} {e : Restriction}

/-- The entries of a source are none of them an EMERGENCY. -/
def Calm (l : List Restriction) (src : Source) : Prop := ∀ e ∈ l, e.source = src → ∀ b, e.kind ≠ .emergency b

theorem mem_identities (h : e ∈ l) (hs : e.source = src) (hk : e.key = key) : (src, key) ∈ identities l :=
  List.mem_map.mpr ⟨e, h, Prod.ext hs hk⟩

theorem exists_of_mem_identities (h : (src, key) ∈ identities l) : ∃ e ∈ l, e.source = src ∧ e.key = key := by
  obtain ⟨e, he, hid⟩ := List.mem_map.mp h
  exact ⟨e, he, congrArg Prod.fst hid, congrArg Prod.snd hid⟩

/-- A source and key are found exactly when they are the identity of an entry. -/
theorem findRestriction_isSome_iff : (findRestriction l src key).isSome = true ↔ (src, key) ∈ identities l := by
  cases h : findRestriction l src key with
  | none => simpa using not_mem_identities h
  | some e =>
    have hid : e.identity = (src, key) := findRestriction_identity h
    exact iff_of_true rfl (hid ▸ List.mem_map_of_mem (List.mem_of_find?_eq_some h))

theorem eq_or_mem_of_mem_replaceFirst {α : Type} {q : α → Bool} {x z : α} :
    ∀ {l : List α}, z ∈ replaceFirst q x l → z = x ∨ z ∈ l
  | y :: l, h => by
    unfold replaceFirst at h
    split at h <;> obtain rfl | h := List.mem_cons.mp h
    · exact .inl rfl
    · exact .inr (List.mem_cons_of_mem _ h)
    · exact .inr List.mem_cons_self
    · exact (eq_or_mem_of_mem_replaceFirst h).imp_right (List.mem_cons_of_mem _)

/-! ### Raises (R84, R85) -/

/-- A raise adds its identity and no other. -/
theorem State.mem_identities_raise (hm : s.mcr.mode ≠ .standby) (i : Source × Half) :
    i ∈ identities (s.raise src key k).rsl ↔ i ∈ identities s.rsl ∨ i = (src, key) := by
  have there : findRestriction s.rsl src key ≠ none → (src, key) ∈ identities s.rsl := fun h =>
    findRestriction_isSome_iff.mp (Option.isSome_iff_ne_none.mpr h)
  rw [State.raise_rsl, if_neg hm]
  split
  · simp [Restriction.identity]
  · rename_i e he
    have found := there (by rw [he]; exact Option.some_ne_none e)
    split
    · exact ⟨.inl, fun h => h.elim id fun h => h ▸ found⟩
    · rw [identities_replaceFirst (x := { e with kind := e.kind.raisedBy k }) (findRestriction_identity (e := e) he)]
      exact ⟨.inl, fun h => h.elim id fun h => h ▸ found⟩

/-- Where neither the raise nor an entry of its source is an EMERGENCY, what comes is of the kind raised. -/
theorem State.mem_raise_of_calm (hc : Calm s.rsl src) (hk : ∀ b, k ≠ .emergency b)
    (he : e ∈ (s.raise src key k).rsl) : e ∈ s.rsl ∨ e.source = src ∧ e.key = key ∧ e.kind = k := by
  rw [State.raise_rsl] at he
  split at he
  · exact .inl he
  · split at he
    · obtain h | h := List.mem_append.mp he
      · exact .inl h
      · obtain rfl := List.mem_singleton.mp h
        exact .inr ⟨rfl, rfl, rfl⟩
    · rename_i x hx
      split at he
      · exact .inl he
      · obtain rfl | h := eq_or_mem_of_mem_replaceFirst he
        · have hid : x.identity = (src, key) := findRestriction_identity hx
          have hsrc : x.source = src := congrArg Prod.fst hid
          have calm : ∀ b, x.kind ≠ .emergency b := hc x (List.mem_of_find?_eq_some hx) hsrc
          exact .inr ⟨hsrc, congrArg Prod.snd hid, Restraint.raisedBy_of_calm calm hk⟩
        · exact .inl h

theorem State.onlyHold_raise (h : onlyHold s.rsl src) : onlyHold (s.raise src key .hold).rsl src := fun e he hs => by
  have calm : Calm s.rsl src := fun x hx hxs b hb => by simp [h x hx hxs] at hb
  obtain h' | ⟨-, -, hk⟩ := State.mem_raise_of_calm calm (fun b => Restraint.noConfusion) he
  · exact h e h' hs
  · exact hk

/-! ### Lifts (R86) -/

/-- A lift of a source that has no EMERGENCY takes the entry out, if there is one. -/
theorem State.lift_rsl_of_calm (hc : Calm s.rsl src) : (s.lift src key).rsl = s.rsl.eraseP (·.names src key) := by
  rw [State.lift_rsl]
  split
  · rename_i h
    exact (List.eraseP_of_forall_not (List.find?_eq_none.mp h)).symm
  · rename_i x hx
    have calm := hc x (List.mem_of_find?_eq_some hx) (source_of_findRestriction (e := x) hx)
    split
    · exact absurd ‹_› (calm true)
    · exact absurd ‹_› (calm false)
    · rfl

/-- A lift adds no identity. -/
theorem State.identities_lift_subset (s : State) (src : Source) (key : Half) :
    identities (s.lift src key).rsl ⊆ identities s.rsl := by
  rw [State.lift_rsl]
  split
  · exact fun _ => id
  · rename_i x hx
    split
    · exact fun _ => id
    · rw [identities_replaceFirst (x := { x with kind := .emergency true }) (findRestriction_identity (e := x) hx)]
      exact fun _ => id
    · exact (List.eraseP_sublist.map _).subset

theorem State.onlyHold_lift (h : onlyHold s.rsl src) : onlyHold (s.lift src key).rsl src := fun e he hs => by
  have calm : Calm s.rsl src := fun x hx hxs b hb => by simp [h x hx hxs] at hb
  rw [State.lift_rsl_of_calm calm] at he
  exact h e (List.mem_of_mem_eraseP he) hs

/-! ### Keys (R81, R83) -/

/-- The keys by the identities. -/
theorem State.keysZero_iff : s.KeysZero ↔ ∀ i ∈ identities s.rsl, i.1 ≠ .junction → i.2 = 0 := by
  simp [State.KeysZero, Restriction.identity]

theorem State.KeysZero.raise (h : s.KeysZero) (hkey : src ≠ .junction → key = 0) : (s.raise src key k).KeysZero := by
  by_cases hm : s.mcr.mode = .standby
  · rwa [State.raise_of_standby hm]
  · refine State.keysZero_iff.mpr fun i hi hj => ?_
    obtain hi | rfl := (State.mem_identities_raise hm i).mp hi
    · exact State.keysZero_iff.mp h i hi hj
    · exact hkey hj

theorem State.KeysZero.lift (h : s.KeysZero) : (s.lift src key).KeysZero :=
  State.keysZero_iff.mpr fun i hi => State.keysZero_iff.mp h i (s.identities_lift_subset src key hi)

end Sys2Proof.Machine
end

section
/-! SUPPORT. What the blocks but the route unit and the mode control leave as it is: the mode, the junction queue, the
attempt timer, and the entries of MODE and JUNCTION (R82, R103). One relation, and for each operation the lemma that it
stays within the relation. -/

namespace Sys2Proof.Machine

variable {s t u : State} {src : Source} {k : Restraint}

/-- The sources whose entries go with the mode and with the junction queue (R82, R103). -/
def Source.tied : Source → Bool
  | .mode | .junction => true
  | _ => false

/-- From `s` to `t` the mode, the junction queue and whether the attempt timer runs are as they were; no entry of MODE or
JUNCTION comes, and none goes but an EMERGENCY; keys and identities stay sound, and an empty list in STANDBY is empty
still. -/
structure State.Leaves (s t : State) : Prop where
  mode : t.mcr.mode = s.mcr.mode
  queue : t.rtu.queue = s.rtu.queue
  attempt : t.rtu.attempt.isSome = s.rtu.attempt.isSome
  comes : ∀ e ∈ t.rsl, e.source.tied = true → e ∈ s.rsl
  stays : ∀ e ∈ s.rsl, e.source.tied = true → (∀ b, e.kind ≠ .emergency b) → e ∈ t.rsl
  keys : s.KeysZero → t.KeysZero
  once : (identities s.rsl).Nodup → (identities t.rsl).Nodup
  empty : s.mcr.mode = .standby → s.rsl = [] → t.rsl = []

theorem State.Leaves.refl (s : State) : s.Leaves s :=
  ⟨rfl, rfl, rfl, fun _ h _ => h, fun _ h _ _ => h, id, id, fun _ => id⟩

theorem State.Leaves.trans (h : s.Leaves t) (j : t.Leaves u) : s.Leaves u where
  mode := j.mode.trans h.mode
  queue := j.queue.trans h.queue
  attempt := j.attempt.trans h.attempt
  comes := fun e he hs => h.comes e (j.comes e he hs) hs
  stays := fun e he hs hk => j.stays e (h.stays e he hs hk) hs hk
  keys := j.keys ∘ h.keys
  once := j.once ∘ h.once
  empty := fun hm hl => j.empty (h.mode.trans hm) (h.empty hm hl)

theorem State.Leaves.ite {c : Prop} {_ : Decidable c} (h : s.Leaves t) (j : s.Leaves u) :
    s.Leaves (if c then t else u) := by
  split
  · exact h
  · exact j

theorem State.Leaves.foldl {α : Type} {f : State → α → State} (hf : ∀ (u : State) x, u.Leaves (f u x)) :
    ∀ (l : List α) {t : State}, s.Leaves t → s.Leaves (l.foldl f t)
  | [], _, h => h
  | x :: l, t, h => State.Leaves.foldl hf l (h.trans (hf t x))

/-! ### Blocks, frames, flags -/

/-- A change that touches neither the list nor the mode, the queue and the timer. -/
theorem State.Leaves.of_same (h : s.Leaves t) (hm : u.mcr.mode = t.mcr.mode) (hq : u.rtu.queue = t.rtu.queue)
    (ha : u.rtu.attempt.isSome = t.rtu.attempt.isSome) (hl : u.rsl = t.rsl) : s.Leaves u :=
  h.trans
    { mode := hm
      queue := hq
      attempt := ha
      comes := fun e he _ => hl ▸ he
      stays := fun e he _ _ => hl ▸ he
      keys := fun hk => by rwa [State.KeysZero, hl]
      once := fun hd => by rwa [hl]
      empty := fun _ he => hl.trans he }

theorem State.Leaves.sends (h : s.Leaves t) (j : t.Sends u) : s.Leaves u :=
  h.of_same (by rw [j.same.mcr]) (by rw [j.same.rtu]) (by rw [j.same.rtu]) j.same.rsl

theorem State.Leaves.withLine (h : s.Leaves t) (x : LineBlock) : s.Leaves (t.withLine x) := h.of_same rfl rfl rfl rfl
theorem State.Leaves.withPort (h : s.Leaves t) (p : Line) (x : LinePort) : s.Leaves (t.withPort p x) := h.withLine _
theorem State.Leaves.withFcl (h : s.Leaves t) (x : Classifier) : s.Leaves (t.withFcl x) := h.of_same rfl rfl rfl rfl
theorem State.Leaves.withSgt (h : s.Leaves t) (x : SignalTable) : s.Leaves (t.withSgt x) := h.of_same rfl rfl rfl rfl
theorem State.Leaves.withDci (h : s.Leaves t) (x : Desk) : s.Leaves (t.withDci x) := h.of_same rfl rfl rfl rfl
theorem State.Leaves.withTdu (h : s.Leaves t) (x : Traction) : s.Leaves (t.withTdu x) := h.of_same rfl rfl rfl rfl
theorem State.Leaves.withMarks (h : s.Leaves t) (x : Marks) : s.Leaves (t.withMarks x) := h.withTdu _
theorem State.Leaves.withTlk (h : s.Leaves t) (x : TrackLink) : s.Leaves (t.withTlk x) := h.of_same rfl rfl rfl rfl
theorem State.Leaves.withSru (h : s.Leaves t) (x : StopUnit) : s.Leaves (t.withSru x) := h.of_same rfl rfl rfl rfl
theorem State.Leaves.withSsq (h : s.Leaves t) (x : Sounder) : s.Leaves (t.withSsq x) := h.of_same rfl rfl rfl rfl
theorem State.Leaves.withEfn (h : s.Leaves t) (x : Notifier) : s.Leaves (t.withEfn x) := h.of_same rfl rfl rfl rfl
theorem State.Leaves.withEnv (h : s.Leaves t) (x : Environment) : s.Leaves (t.withEnv x) := h.of_same rfl rfl rfl rfl
theorem State.Leaves.bumpFree (h : s.Leaves t) : s.Leaves t.bumpFree := h.withEnv _

/-- The route unit's tables, items and marks are neither its queue nor its timer. -/
theorem State.Leaves.withRtu (h : s.Leaves t) {x : RouteUnit} (hq : x.queue = t.rtu.queue)
    (ha : x.attempt = t.rtu.attempt) : s.Leaves (t.withRtu x) :=
  h.of_same rfl hq (congrArg Option.isSome ha) rfl

theorem State.Leaves.withMcr (h : s.Leaves t) {x : Control} (hm : x.mode = t.mcr.mode) : s.Leaves (t.withMcr x) :=
  h.of_same hm rfl rfl rfl

theorem State.Leaves.setFlag (h : s.Leaves t) (f : Flag) : s.Leaves (t.setFlag f) := h.sends (t.sends_setFlag f)
theorem State.Leaves.setDrops (h : s.Leaves t) (fd od : Bool) : s.Leaves (t.setDrops fd od) :=
  h.sends (t.sends_setDrops fd od)
theorem State.Leaves.publish (h : s.Leaves t) (i : Half) (b : List Byte) : s.Leaves (t.publish i b) :=
  h.sends (t.sends_publish i b)
theorem State.Leaves.respond (h : s.Leaves t) (r : Request) (a : Answer) : s.Leaves (t.respond r a) :=
  h.sends (t.sends_respond r a)
theorem State.Leaves.reportStops (h : s.Leaves t) (before : List StopEntry) : s.Leaves (t.reportStops before) :=
  h.sends (t.sends_reportStops before)
theorem State.Leaves.sendStopDisplay (h : s.Leaves t) : s.Leaves t.sendStopDisplay := h.sends t.sends_sendStopDisplay

/-! ### Restrictions of the other sources (R84 to R88) -/

theorem Source.ne_of_tied {x : Source} (h : x.tied = true) (hsrc : src.tied = false) : x ≠ src := by
  rintro rfl
  rw [h] at hsrc
  cases hsrc

theorem State.Leaves.raise (h : s.Leaves t) (hsrc : src.tied = false) (k : Restraint) : s.Leaves (t.raise src 0 k) :=
  h.trans
    { mode := by simp
      queue := by simp
      attempt := by simp
      comes := fun e he ht => (State.mem_raise_iff (Source.ne_of_tied ht hsrc) t 0 k).mp he
      stays := fun e he ht _ => (State.mem_raise_iff (Source.ne_of_tied ht hsrc) t 0 k).mpr he
      keys := fun hk => State.KeysZero.raise hk fun _ => rfl
      once := ((State.Keeps.refl t).raise src 0 k).rsl
      empty := fun hm hl => by rwa [State.raise_of_standby hm] }

theorem State.Leaves.lift (h : s.Leaves t) (hsrc : src.tied = false) : s.Leaves (t.lift src 0) :=
  h.trans
    { mode := by simp
      queue := by simp
      attempt := by simp
      comes := fun e he ht => (State.mem_lift_iff (Source.ne_of_tied ht hsrc) t 0).mp he
      stays := fun e he ht _ => (State.mem_lift_iff (Source.ne_of_tied ht hsrc) t 0).mpr he
      keys := State.KeysZero.lift
      once := ((State.Keeps.refl t).lift src 0).rsl
      empty := fun _ hl => by
        rw [State.lift_of_absent]
        · exact hl
        · rw [hl]; rfl }

theorem State.Leaves.releaseTest (h : s.Leaves t) : s.Leaves t.releaseTest :=
  h.trans
    { mode := by simp
      queue := by simp
      attempt := by simp
      comes := fun e he _ => ((t.mem_releaseTest_iff e).mp he).1
      stays := fun e he _ hk => (t.mem_releaseTest_iff e).mpr ⟨he, fun _ => hk true⟩
      keys := fun hk e he => hk e ((t.mem_releaseTest_iff e).mp he).1
      once := (State.Keeps.refl t).releaseTest.rsl
      empty := fun _ hl => List.eq_nil_iff_forall_not_mem.mpr fun e he => by
        have := ((t.mem_releaseTest_iff e).mp he).1
        rw [hl] at this
        cases this }

/-! ### Sounders (chapter 9) -/

theorem State.Leaves.soundRequest (h : s.Leaves t) (ch : Channel) (r : SoundRequest) :
    s.Leaves (t.soundRequest ch r) := by
  unfold State.soundRequest
  exact h.ite ((h.setFlag _).ite (h.ite ((h.withSsq _).ite (((h.withSsq _).setFlag _).ite (h.setFlag _)))))

theorem State.Leaves.judgeLoad (h : s.Leaves t) (ch : Channel) (load : Bool) : s.Leaves (t.judgeLoad ch load) :=
  (h.withSsq _).ite ((h.withSsq _).setFlag _)

theorem State.Leaves.soundBoundary (h : s.Leaves t) (ch : Channel) (load : Bool) : s.Leaves (t.soundBoundary ch load) := by
  unfold State.soundBoundary
  split
  · exact h
  · exact h.ite (State.Leaves.withSsq ((h.judgeLoad ch load).ite h) _)

theorem State.Leaves.hornPress (h : s.Leaves t) : s.Leaves t.hornPress := (h.withSsq _).ite h

theorem State.Leaves.hornRelease (h : s.Leaves t) : s.Leaves t.hornRelease := by
  unfold State.hornRelease
  split
  · exact h
  · exact (h.withSsq _).ite (h.withSsq _)

theorem State.Leaves.hornMinEnd (h : s.Leaves t) : s.Leaves t.hornMinEnd := by
  unfold State.hornMinEnd
  split
  · exact h
  · exact (h.withSsq _).ite (h.withSsq _)

theorem State.Leaves.hornInterval (h : s.Leaves t) (load : Bool) : s.Leaves (t.hornInterval load) := by
  unfold State.hornInterval
  split
  · exact h
  · exact (h.withSsq _).judgeLoad _ _

/-! ### Stops and doors (chapter 8) -/

theorem State.Leaves.firstEntry (h : s.Leaves t) (kind : StopKind) (before : List StopEntry) :
    s.Leaves (t.firstEntry kind before) := by
  cases kind with
  | normal => exact ((h.soundRequest _ _).setFlag _).ite h
  | assist => exact h.ite ((h.soundRequest _ _).setFlag _)

theorem State.Leaves.registerSource (h : s.Leaves t) (n : Nat) : s.Leaves (t.registerSource n) :=
  h.ite (((h.withSru _).firstEntry _ _).reportStops _)

theorem State.Leaves.withArmed (h : s.Leaves t) (n : Nat) (a : Bool) : s.Leaves (t.withArmed n a) := h.withSru _

theorem State.Leaves.treatSource (h : s.Leaves t) (image : Word) (n : Nat) : s.Leaves (State.treatSource image t n) :=
  (h.withArmed n true).ite (((h.registerSource n).withArmed n false).ite h)

theorem State.Leaves.stopButtons (h : s.Leaves t) (image : Word) : s.Leaves (t.stopButtons image) :=
  State.Leaves.withSru ((h.withSru _).ite ((h.withSru _).ite
    (State.Leaves.foldl (fun u n => (State.Leaves.refl u).treatSource image n) _ h))) _

theorem State.Leaves.stopButtonsStale (h : s.Leaves t) : s.Leaves t.stopButtonsStale := h.withSru _

theorem State.Leaves.sourceEnabled (h : s.Leaves t) (n : Nat) : s.Leaves (t.sourceEnabled n) :=
  ((h.registerSource n).withArmed n false).ite h

theorem State.Leaves.doorsTest (h : s.Leaves t) : s.Leaves t.doorsTest := by
  unfold State.doorsTest
  refine h.ite ?_
  split
  · exact (h.withSru _).raise rfl _
  · exact (h.withSru _).lift rfl
  · exact h

theorem State.Leaves.doorSummary (h : s.Leaves t) (v : DoorView) : s.Leaves (t.doorSummary v) := (h.withSru _).doorsTest

theorem State.Leaves.doorSummaryStale (h : s.Leaves t) : s.Leaves t.doorSummaryStale := (h.withSru _).doorsTest

theorem State.Leaves.doorReleasePress (h : s.Leaves t) (side : Side) : s.Leaves (t.doorReleasePress side) :=
  (((h.withSru _).publish _ _).doorsTest.reportStops _).ite (h.setFlag _)

theorem State.Leaves.doorClosePress (h : s.Leaves t) : s.Leaves t.doorClosePress := by
  unfold State.doorClosePress
  split
  · exact (((h.withSru _).publish _ _).soundRequest _ _).doorsTest
  · exact h.publish _ _
  · exact h

theorem State.Leaves.stopCancelPress (h : s.Leaves t) : s.Leaves t.stopCancelPress := (h.withSru _).reportStops _

theorem State.Leaves.stopPress (h : s.Leaves t) (i : DeskInput) : s.Leaves (t.stopPress i) := by
  unfold State.stopPress
  split
  · exact h.doorReleasePress _
  · exact h.doorReleasePress _
  · exact h.doorClosePress
  · exact h.stopCancelPress
  · exact h

/-! ### Slots and frames (chapters 1 and 2) -/

theorem State.Leaves.doorSlotEvent (h : s.Leaves t) (b : Option Nat) : s.Leaves (t.doorSlotEvent b) := by
  unfold State.doorSlotEvent
  split
  · exact (h.doorSummary _).ite h.doorSummaryStale
  · exact h.doorSummaryStale

theorem State.Leaves.stopSlotEvent (h : s.Leaves t) (b : Option Nat) : s.Leaves (t.stopSlotEvent b) := by
  unfold State.stopSlotEvent
  split
  · exact (h.stopButtons _).ite h.stopButtonsStale
  · exact h.stopButtonsStale

theorem State.Leaves.slotEvent (h : s.Leaves t) (i : Nat) : s.Leaves (t.slotEvent i) := by
  have door : s.Leaves (if t.sgt.doorSlot = some i then t.doorSlotEvent (some i) else t) := (h.doorSlotEvent _).ite h
  exact (door.stopSlotEvent _).ite door

theorem State.Leaves.updateSlot (h : s.Leaves t) (i : Nat) (f : Frame) (limit : Nat) :
    s.Leaves (t.updateSlot i f limit) := by
  have stored := h.withSgt { t.sgt with slots := t.sgt.slots.set i ((t.sgt.slot i).updated f.src f.payload limit
    (if decide ((f.payload.take 8).length < t.requiredLength i) then .stale else .fresh)) }
  have flagged : s.Leaves (if 8 < f.payload.length then _ else _) := (stored.setFlag .slotTrunc).ite stored
  exact ((flagged.setFlag _).ite ((flagged.setFlag _).slotEvent i)).ite (flagged.slotEvent i)

theorem State.Leaves.classify (h : s.Leaves t) (f : Frame) : s.Leaves (t.classify f) := by
  have process : s.Leaves (t.takeProcess f) := by
    unfold State.takeProcess
    split
    · exact h
    · split
      · exact h
      · exact (h.updateSlot _ _ _).ite (h.setFlag _)
  unfold State.classify
  split
  · exact process.ite h
  · exact (h.withFcl _).ite (h.setFlag _)
  · exact h
  · exact h

theorem State.Leaves.ageSlots (h : s.Leaves t) : s.Leaves t.ageSlots := by
  have aged := State.Leaves.foldl (fun u i => (State.Leaves.refl u).slotEvent i) t.sgt.goingStale (h.withSgt t.sgt.aged)
  exact aged.ite (aged.setFlag _)

theorem State.Leaves.activityExpiry (h : s.Leaves t) (p : Line) : s.Leaves (t.activityExpiry p) := by
  unfold State.activityExpiry
  split
  · exact (h.withPort p _).setFlag _
  · exact h.withPort p _

theorem State.Leaves.decideForwarding (h : s.Leaves t) (p : Line) (f : Frame) : s.Leaves (t.decideForwarding p f) := by
  have forwarded : s.Leaves (t.forwardFrom p f) := by
    rw [State.forwardFrom_eq]
    exact (h.withPort _ _).setDrops _ _
  have offered : s.Leaves (if forwards t.mcr.address f then t.forwardFrom p f else t) := forwarded.ite h
  unfold State.decideForwarding
  exact (offered.withPort p _).ite offered

theorem State.Leaves.handleFrame (h : s.Leaves t) (p : Line) : s.Leaves (t.handleFrame p) := by
  unfold State.handleFrame
  split
  · exact h
  · dsimp only
    split
    · exact h.withPort p _
    · exact State.Leaves.ite (h.withPort p _) ((h.withPort p _).decideForwarding p _)

/-! ### Traction (chapter 4) -/

theorem State.Leaves.findSpeed (h : s.Leaves t) : s.Leaves t.findSpeed := by
  unfold State.findSpeed
  split <;> exact h.withTdu _

theorem State.Leaves.superviseSpeed (h : s.Leaves t) : s.Leaves t.superviseSpeed := by
  unfold State.superviseSpeed
  split
  · exact ((h.withMarks _).raise rfl _).setFlag _
  · exact (h.withMarks _).lift rfl
  · exact h

theorem State.Leaves.evaluateSpeed (h : s.Leaves t) : s.Leaves t.evaluateSpeed.1 := by
  have found := h.findSpeed.superviseSpeed
  unfold State.evaluateSpeed State.advanceOdometer
  split
  · exact found
  · exact found.withTdu _

theorem State.Leaves.settleDirection (h : s.Leaves t) : s.Leaves t.settleDirection.1 := by
  unfold State.settleDirection
  dsimp only
  split
  · exact h.withTdu _
  · split
    · split <;> exact h.withTdu _
    · split
      · exact (h.withTdu _).setFlag _
      · exact h.withTdu _

theorem State.Leaves.judgeBrake (h : s.Leaves t) : s.Leaves t.judgeBrake := by
  have lifted {m : Marks} : s.Leaves ((t.withMarks m).lift .brake 0) := (h.withMarks m).lift rfl
  unfold State.judgeBrake
  dsimp only
  split
  · exact lifted.ite h
  · split
    · exact ((h.withMarks _).raise rfl _).setFlag _
    · exact lifted
    · exact h

theorem State.Leaves.superviseUnits (h : s.Leaves t) (w : Nat) : s.Leaves (t.superviseUnits w) := by
  unfold State.superviseUnits
  split
  · exact ((h.withMarks _).raise rfl _).setFlag _
  · exact (h.withMarks _).lift rfl
  · exact h

theorem State.Leaves.finishPeriod (h : s.Leaves t) (stepped : Bool) (y : Summary) (target : Int)
    (limb : Option (Limb × Nat)) : s.Leaves (t.finishPeriod stepped y target limb) :=
  (h.withTdu _).superviseUnits _

theorem State.Leaves.computePeriod (h : s.Leaves t) : s.Leaves t.computePeriod.1 :=
  h.evaluateSpeed.settleDirection.judgeBrake.releaseTest.finishPeriod _ _ _ _

theorem State.Leaves.computeStep (h : s.Leaves t) : s.Leaves t.computeStep.1 :=
  h.findSpeed.superviseSpeed.releaseTest.settleDirection.judgeBrake.finishPeriod _ _ _ _

theorem State.Leaves.publishSetpoint (h : s.Leaves t) : s.Leaves t.publishSetpoint := by
  unfold State.publishSetpoint
  split
  · exact h.publish _ _
  · exact h

theorem State.Leaves.publishHold (h : s.Leaves t) : s.Leaves t.publishHold := h.publish _ _

theorem State.Leaves.vigilWarning (h : s.Leaves t) : s.Leaves t.vigilWarning :=
  ((h.withTdu _).soundRequest _ _).setFlag _

theorem State.Leaves.vigilTrip (h : s.Leaves t) : s.Leaves t.vigilTrip :=
  (((h.withMarks _).raise rfl _).setFlag _).soundRequest _ _

theorem State.Leaves.supervise (h : s.Leaves t) : s.Leaves t.supervise := by
  have counted := h.withTdu { t.tdu with vigil := t.tdu.vigil + 20 }
  have warned : s.Leaves (if t.tdu.vigil + 20 = t.tdu.items.vigilWarn then _ else _) := counted.vigilWarning.ite counted
  exact (h.withTdu _).ite ((warned.vigilTrip.ite warned).ite h)

theorem State.Leaves.startPeriod (h : s.Leaves t) : s.Leaves t.startPeriod := (h.withTdu _).bumpFree

/-! ### The desk (chapter 3) -/

theorem State.Leaves.deadmanHeld (h : s.Leaves t) : s.Leaves t.deadmanHeld :=
  (((h.withTdu _).withMarks _).lift rfl).ite (h.withTdu _)

theorem State.Leaves.emergencyHandle (h : s.Leaves t) (level : Bool) : s.Leaves (t.emergencyHandle level) :=
  (((h.withMarks _).raise rfl _).setFlag _).ite (((h.withMarks _).lift rfl).ite h)

theorem State.Leaves.deliverTraction (h : s.Leaves t) (o : Option View) (n : View) : s.Leaves (t.deliverTraction o n) := by
  have taken := h.withTdu { t.tdu with inputs := t.tdu.inputs.deliver o n }
  have held : s.Leaves (if levelDue o n .deadman && heldIn n.image .deadman then _ else _) :=
    taken.deadmanHeld.ite taken
  exact (held.emergencyHandle _).ite held

theorem State.Leaves.deliverHorn (h : s.Leaves t) (o : Option View) (n : View) : s.Leaves (t.deliverHorn o n) :=
  State.Leaves.ite ((h.withSsq _).ite (h.withSsq _).hornRelease) h

theorem State.Leaves.deliverLevels (h : s.Leaves t) (o : Option View) (n : View) : s.Leaves (t.deliverLevels o n) :=
  (h.deliverTraction o n).deliverHorn o n

theorem State.Leaves.deliverSound (h : s.Leaves t) (c : ScanChange) : s.Leaves (t.deliverSound c) := by
  have level := h.deliverHorn (some c.old) c.new
  have pressed : s.Leaves (if c.pressed .horn then _ else _) := level.hornPress.ite level
  exact (pressed.soundRequest _ _).ite pressed

theorem State.Leaves.raiseDesk (h : s.Leaves t) (k : DeskKind) : s.Leaves (t.raiseDesk k) :=
  (h.withDci _).raise rfl _

theorem State.Leaves.recoverDesk (h : s.Leaves t) : s.Leaves t.recoverDesk :=
  State.Leaves.setFlag ((((h.withDci _).deliverLevels _ _).lift rfl).ite (h.withDci _)) _

theorem State.Leaves.badScan (h : s.Leaves t) : s.Leaves t.badScan := by
  have lost {v : State} (hv : s.Leaves v) : s.Leaves v.loseDesk :=
    State.Leaves.setFlag ((((hv.withDci _).deliverLevels _ _).raiseDesk _).ite (hv.withDci _)) _
  unfold State.badScan
  dsimp only
  split
  · exact (lost (h.withDci _)).ite (h.withDci _)
  · exact h.withDci _

theorem State.Leaves.escalateDesk (h : s.Leaves t) : s.Leaves t.escalateDesk := by
  unfold State.escalateDesk
  refine State.Leaves.ite ?_ h
  split
  · exact h.raiseDesk _
  · exact h.raiseDesk _
  · exact h

theorem State.Leaves.scanExpiry (h : s.Leaves t) : s.Leaves t.scanExpiry :=
  State.Leaves.withDci (State.Leaves.escalateDesk (h.badScan.ite h)) _

theorem State.Leaves.arrivalStart (h : s.Leaves t) : s.Leaves t.arrivalStart := by
  obtain ⟨x, hx, -, -⟩ | ⟨-, -, r, -, hx⟩ := t.arrivalStart_cases <;> rw [hx]
  · exact h.withTlk x
  · exact (h.withTlk _).setFlag _

/-! ### Items and tables (chapter 10) -/

theorem State.Leaves.clearItem (h : s.Leaves t) (i : Item) : s.Leaves (t.clearItem i) := by
  unfold State.clearItem
  split
  · exact h.withPort _ _
  · exact h.withDci _
  · exact h.withTlk _
  · exact h

theorem State.Leaves.writeBinding (h : s.Leaves t) (b : Binding) (slot : Option Nat) :
    s.Leaves (t.writeBinding b slot) := by
  have bound := (h.withSgt (t.sgt.bind slot b)).bumpFree
  unfold State.writeBinding
  refine bound.ite ?_
  cases b with
  | brake => exact bound
  | door => exact bound.doorSlotEvent slot
  | stop => exact bound.stopSlotEvent slot

theorem State.Leaves.setItem (h : s.Leaves t) (i : Item) (n : Nat) : s.Leaves (t.setItem i n) := by
  unfold State.setItem
  split
  · exact h.withTdu _
  · exact h.withRtu rfl rfl
  · exact h.writeBinding _ _
  · exact h.withSru _
  · exact h.withSru _
  · exact h.withSsq _
  · exact ((h.withEfn _).sends (State.sends_sendNotify _ _)).ite (h.withEfn _)
  · exact h.withEfn _
  · exact (h.withEfn _).sends (State.sends_judgeChannels _ _)
  · exact h

theorem State.Leaves.writeItem (h : s.Leaves t) (i : Item) (v : Int) : s.Leaves (t.writeItem i v).1 := by
  unfold State.writeItem
  split
  · exact h
  · split
    · exact h.setItem _ _
    · exact h
  · exact h.setItem _ _
  · exact h.clearItem i

theorem State.Leaves.replaceEntry (h : s.Leaves t) (i : Index) (e : LoadedEntry) : s.Leaves (t.replaceEntry i e) := by
  cases e with
  | window w => exact h.withFcl _
  | breakpoint b => exact h.withTdu _
  | unit u => exact h.withTdu _
  | route r => exact h.withRtu rfl rfl
  | source e => exact ((h.withSru _).sourceEnabled i.number).ite (h.withSru _)
  | pattern p => exact h.withSsq _

theorem State.Leaves.load (h : s.Leaves t) (n : TableName) (bank : Byte) (bytes : List Byte) :
    s.Leaves (t.load n bank bytes).1 := by
  unfold State.load State.loadInRange
  split
  · exact h
  · split
    · split
      · exact h.setFlag _
      · split
        · exact h.setFlag _
        · exact (h.replaceEntry _ _).withMcr rfl
    · exact h

theorem State.Leaves.commitTable (h : s.Leaves t) (n : Option TableName) : s.Leaves (t.commitTable n).1 := by
  unfold State.commitTable State.commitCurve State.commitAllocation State.commitRoute
  repeat' split
  any_goals exact h
  · exact h.withTdu _
  · exact h.withTdu _
  · exact h.withRtu rfl rfl

/-- One millisecond changes timers alone. -/
theorem State.leaves_tick (s : State) : s.Leaves s.tick :=
  (State.Leaves.refl s).of_same rfl rfl (by
    change (if s.mcr.mode.driving then s.rtu.attempt.map (· - 1) else s.rtu.attempt).isSome = _
    split <;> simp) rfl

end Sys2Proof.Machine
end

section
/-! SUPPORT. What the route unit leaves of the mode and of the MODE entries (R82, chapter 6). -/

namespace Sys2Proof.Machine

variable {s t u : State} {src : Source}

/-- From `s` to `t` the mode and the entries of MODE stay. -/
structure State.SparesMode (s t : State) : Prop where
  mode : t.mcr.mode = s.mcr.mode
  entries : ∀ e, e.source = .mode → (e ∈ t.rsl ↔ e ∈ s.rsl)

theorem State.SparesMode.refl (s : State) : s.SparesMode s := ⟨rfl, fun _ _ => .rfl⟩

theorem State.SparesMode.trans (h : s.SparesMode t) (k : t.SparesMode u) : s.SparesMode u :=
  ⟨k.mode.trans h.mode, fun e he => (k.entries e he).trans (h.entries e he)⟩

theorem State.SparesMode.ite {c : Prop} {_ : Decidable c} (h : s.SparesMode t) (k : s.SparesMode u) :
    s.SparesMode (if c then t else u) := by
  split
  · exact h
  · exact k

theorem State.SparesMode.foldl {α : Type} {f : State → α → State} (hf : ∀ (u : State) x, u.SparesMode (f u x)) :
    ∀ (l : List α) {t : State}, s.SparesMode t → s.SparesMode (l.foldl f t)
  | [], _, h => h
  | x :: l, t, h => State.SparesMode.foldl hf l (h.trans (hf t x))

/-- What the route unit does by itself spares MODE. -/
theorem State.SparesMode.routes (h : s.SparesMode t) (k : t.Routes u) : s.SparesMode u :=
  h.trans ⟨by rw [k.same.mcr]; rfl, fun e he => k.entries e (by rw [he]; decide) (by rw [he]; decide)⟩

/-- Outside STANDBY what spares MODE keeps it held (R82). -/
theorem State.SparesMode.modeHeld (h : s.SparesMode t) (hm : s.mcr.mode ≠ .standby) (hs : s.ModeHeld) : t.ModeHeld := by
  obtain ⟨honly, hentry, -⟩ := hs
  rw [State.ModeHeld, h.mode]
  refine ⟨fun e he hsrc => honly e ((h.entries e hsrc).mp he) hsrc, fun hr => ?_, fun h => absurd h hm⟩
  obtain ⟨e, he, hsrc, hkey⟩ := hentry hr
  exact ⟨e, (h.entries e hsrc).mpr he, hsrc, hkey⟩

/-- The modes of R104 are not STANDBY. -/
theorem State.ne_standby_of_routing (h : ¬ (!s.mcr.mode.routing) = true) : s.mcr.mode ≠ .standby := fun hm =>
  h (by rw [hm]; rfl)

/-! ### The route unit's operations (R103 to R123) -/

theorem State.SparesMode.of_same (h : s.SparesMode t) (hm : u.mcr.mode = t.mcr.mode) (hl : u.rsl = t.rsl) :
    s.SparesMode u :=
  h.trans ⟨hm, fun _ _ => by rw [hl]⟩

theorem State.SparesMode.withRtu (h : s.SparesMode t) (x : RouteUnit) : s.SparesMode (t.withRtu x) := h.of_same rfl rfl

theorem State.SparesMode.withQueue (h : s.SparesMode t) (q : List Transaction) : s.SparesMode (t.withQueue q) :=
  h.withRtu _

theorem State.SparesMode.withAttempt (h : s.SparesMode t) (a : Option Nat) : s.SparesMode (t.withAttempt a) :=
  h.withRtu _

theorem State.SparesMode.withTlk (h : s.SparesMode t) (x : TrackLink) : s.SparesMode (t.withTlk x) := h.of_same rfl rfl

theorem State.SparesMode.setFlag (h : s.SparesMode t) (f : Flag) : s.SparesMode (t.setFlag f) :=
  h.of_same (by simp) (by simp)

theorem State.SparesMode.raise (h : s.SparesMode t) (hsrc : src ≠ .mode) (key : Half) (k : Restraint) :
    s.SparesMode (t.raise src key k) :=
  h.trans ⟨by simp, fun _ he => State.mem_raise_iff (he ▸ hsrc.symm) t key k⟩

theorem State.SparesMode.lift (h : s.SparesMode t) (hsrc : src ≠ .mode) (key : Half) : s.SparesMode (t.lift src key) :=
  h.trans ⟨by simp, fun _ he => State.mem_lift_iff (he ▸ hsrc.symm) t key⟩

theorem State.SparesMode.syncJunction (h : s.SparesMode t) (x : Transaction) : s.SparesMode (t.syncJunction x) := by
  unfold State.syncJunction
  split
  · exact h.raise (by decide) _ _
  · exact h.lift (by decide) _

theorem State.SparesMode.startAttempt (h : s.SparesMode t) : s.SparesMode t.startAttempt :=
  h.routes (State.Routes.refl t).startAttempt

theorem State.SparesMode.makeUnconfirmed (h : s.SparesMode t) (x : Transaction) : s.SparesMode (t.makeUnconfirmed x) :=
  h.routes ((State.Routes.refl t).makeUnconfirmed x)

theorem State.SparesMode.failAttempt (h : s.SparesMode t) : s.SparesMode t.failAttempt := by
  have counted {v : State} (hv : s.SparesMode v) : s.SparesMode v.countRetry :=
    ((hv.withTlk _).setFlag _).ite (hv.withTlk _)
  unfold State.failAttempt
  split
  · exact h
  · exact (counted ((h.withQueue _).withAttempt _)).startAttempt.ite (((h.withQueue _).withAttempt _).makeUnconfirmed _)

theorem State.SparesMode.passTransaction (h : s.SparesMode t) (x : Transaction) : s.SparesMode (t.passTransaction x) :=
  h.routes (((State.Routes.refl t).removeTransaction x).afterRemoval _)

theorem State.SparesMode.autoBell (h : s.SparesMode t) (j : Half) : s.SparesMode (t.autoBell j) := by
  unfold State.autoBell
  split
  · exact (h.of_same (by simp) (by simp)).ite h
  · exact h

/-- The part with a transaction appended for a junction and its JUNCTION entry raised (R107), before the auto-bell. -/
def State.appended (s : State) (j : Half) (x : Transaction) : State :=
  match x.restraint s.rtu.items with
  | some k => (s.withQueue (s.rtu.queue ++ [x])).raise .junction j k
  | none => s.withQueue (s.rtu.queue ++ [x])

theorem State.announce_eq (s : State) (j : Half) (d : Nat) : s.announce j d =
    if s.rtu.queue.isEmpty && decide ((s.rtu.newTransaction j d).state = .announced) then
      ((s.appended j (s.rtu.newTransaction j d)).autoBell j).startAttempt
    else (s.appended j (s.rtu.newTransaction j d)).autoBell j := rfl

theorem State.appended_rtu (s : State) (j : Half) (x : Transaction) :
    (s.appended j x).rtu = { s.rtu with queue := s.rtu.queue ++ [x] } := by
  unfold State.appended
  split
  · rw [State.raise_rtu]; rfl
  · rfl

theorem State.SparesMode.announce (h : s.SparesMode t) (j : Half) (d : Nat) : s.SparesMode (t.announce j d) := by
  have placed (x : Transaction) : s.SparesMode (t.appended j x) := by
    unfold State.appended
    split
    · exact (h.withQueue _).raise (by decide) _ _
    · exact h.withQueue _
  rw [State.announce_eq]
  exact ((placed _).autoBell j).startAttempt.ite ((placed _).autoBell j)

theorem State.SparesMode.refuseApproach (h : s.SparesMode t) : s.SparesMode t.refuseApproach :=
  ((h.withRtu _).setFlag _).raise (by decide) _ _

theorem State.SparesMode.approach (h : s.SparesMode t) (j : Half) (d : Nat) : s.SparesMode (t.approach j d) := by
  unfold State.approach
  split
  · exact h.withQueue _
  · exact (h.announce j d).ite h.refuseApproach

theorem State.SparesMode.actOnConfirm (h : s.SparesMode t) (x : Transaction) (d : PointDir) (c : ConfirmState) :
    s.SparesMode (t.actOnConfirm x d c) := by
  cases c with
  | setLocked => exact (((h.withQueue _).withAttempt _).syncJunction _).ite h.failAttempt
  | setMoving => exact h.withRtu _
  | refused => exact h.makeUnconfirmed x

theorem State.SparesMode.confirm (h : s.SparesMode t) (j tram : Half) (q : Byte) (d : PointDir) (c : ConfirmState) :
    s.SparesMode (t.confirm j tram q d c) := by
  unfold State.confirm
  refine h.ite ?_
  split
  · exact h
  · exact h.ite ((h.setFlag _).ite (h.ite (h.actOnConfirm _ d c)))

theorem State.SparesMode.clearJunction (h : s.SparesMode t) (j : Half) : s.SparesMode (t.clearJunction j) := by
  unfold State.clearJunction
  split
  · exact h.passTransaction _
  · exact h

theorem State.SparesMode.deliverTelegram (h : s.SparesMode t) (m : Telegram) : s.SparesMode (t.deliverTelegram m) := by
  unfold State.deliverTelegram
  refine h.ite ?_
  cases m with
  | approach j d => exact h.approach j d
  | clear j => exact h.clearJunction j
  | confirm j tram q d c => exact h.confirm j tram q d c
  | request => exact h

theorem State.SparesMode.linkFaulted (h : s.SparesMode t) : s.SparesMode t.linkFaulted :=
  h.ite (State.SparesMode.foldl (fun u x => (State.SparesMode.refl u).makeUnconfirmed x) _ h)

theorem State.SparesMode.requestSent (h : s.SparesMode t) (q : Byte) : s.SparesMode (t.requestSent q) := by
  unfold State.requestSent
  split
  · exact h
  · exact State.SparesMode.ite (h.withRtu _) h

theorem State.SparesMode.routeButton (h : s.SparesMode t) (d : PointDir) : s.SparesMode (t.routeButton d) := by
  unfold State.routeButton
  refine h.ite ?_
  split
  · exact h
  · exact ((h.withQueue _).startAttempt.raise (by decide) _ _).ite h

theorem State.SparesMode.proceedPress (h : s.SparesMode t) : s.SparesMode t.proceedPress := by
  unfold State.proceedPress
  refine h.ite ?_
  split
  · exact h
  · exact (h.withQueue _).syncJunction _

theorem State.SparesMode.periodDistance (h : s.SparesMode t) (d : Nat) : s.SparesMode (t.periodDistance d) :=
  h.routes (t.routes_periodDistance d)

theorem State.SparesMode.reversal (h : s.SparesMode t) : s.SparesMode t.reversal := h.routes t.routes_reversal

end Sys2Proof.Machine
end

section
/-! SUPPORT. The JUNCTION entries and the junction queue (R83, R103): what their agreement asks of the list and of the
queue, and the change that one transaction makes of both. -/

namespace Sys2Proof.Machine

variable {s t : State} {j : Half} {b : Bool} {k : Restraint} {l l' : List Restriction} {q q' : List Transaction}
variable {x y : Transaction}

/-! ### Queues -/

/-- The state of a transaction places a JUNCTION entry (R103). -/
def Transaction.places (x : Transaction) : Bool :=
  match x.state with
  | .confirmed | .notRequired => false
  | _ => true

theorem Transaction.isSome_restraint (x : Transaction) (items : RouteItems) :
    (x.restraint items).isSome = x.places := by
  unfold Transaction.restraint Transaction.places
  cases x.state <;> rfl

/-- The junctions of a queue, each with whether its transaction places an entry. -/
def placements (q : List Transaction) : List (Half × Bool) := q.map fun x => (x.junction, x.places)

theorem fst_placements (q : List Transaction) : (placements q).map Prod.fst = junctionIds q := by
  simp [placements, Function.comp_def]

theorem map_replaceFirst_of_find {α β : Type} {f : α → β} {p : α → Bool} {x y : α} (hf : f x = f y) :
    ∀ {l : List α}, l.find? p = some y → (replaceFirst p x l).map f = l.map f
  | z :: l, h => by
    unfold replaceFirst
    cases hz : p z with
    | true =>
      rw [List.find?_cons_of_pos hz] at h
      obtain rfl := Option.some.inj h
      simp [hf]
    | false =>
      rw [List.find?_cons_of_neg (by simp [hz])] at h
      simp [map_replaceFirst_of_find hf h]

theorem eq_of_junction (hd : (junctionIds q).Nodup) (hx : x ∈ q) (hy : y ∈ q) (h : x.junction = y.junction) : x = y :=
  List.inj_on_of_nodup_map hd hx hy h

/-- A transaction of the queue whose junction is not that of the one removed. -/
theorem mem_erased (hd : (junctionIds q).Nodup) (h : y ∈ q.eraseP (·.junction == j)) : y ∈ q ∧ y.junction ≠ j := by
  refine ⟨List.mem_of_mem_eraseP h, fun heq => ?_⟩
  obtain ⟨z, q1, q2, -, hz, rfl, herase⟩ := List.exists_of_eraseP (p := fun z : Transaction => z.junction == j)
    (List.mem_of_mem_eraseP h) (beq_iff_eq.mpr heq)
  rw [herase] at h
  rw [junctionIds, List.map_append, List.map_cons, List.nodup_middle, ← List.map_append] at hd
  refine (List.nodup_cons.mp hd).1 ?_
  rw [eq_of_beq hz, ← heq]
  exact List.mem_map_of_mem h

/-- After an update a transaction is the new one or one of another junction. -/
theorem mem_updated (hd : (junctionIds q).Nodup) (h : y ∈ updateTransaction q x) :
    y = x ∨ y ∈ q ∧ y.junction ≠ x.junction := by
  obtain rfl | hy := eq_or_mem_of_mem_replaceFirst h
  · exact .inl rfl
  · by_cases hj : y.junction = x.junction
    · refine .inl (eq_of_junction (by rwa [junctionIds_updateTransaction]) h ?_ hj)
      exact mem_replaceFirst _ _ _ (List.any_eq_true.mpr ⟨y, hy, beq_iff_eq.mpr hj⟩)
    · exact .inr ⟨hy, hj⟩

/-- A head of another junction stays the head. -/
theorem head?_updateTransaction (h : ¬ q.head?.any (·.junction == x.junction) = true) :
    (updateTransaction q x).head? = q.head? := by
  cases q with
  | nil => rfl
  | cons y q => simp_all [updateTransaction, replaceFirst]

theorem head?_eraseP (h : ¬ q.head?.any (·.junction == j) = true) : (q.eraseP (·.junction == j)).head? = q.head? := by
  cases q with
  | nil => rfl
  | cons y q => simp_all

/-! ### The agreement -/

/-- A list agrees with placements: the JUNCTION entries stand for the junctions that place one, and none is an EMERGENCY
(R83, R103). -/
structure Agrees (l : List Restriction) (ps : List (Half × Bool)) : Prop where
  placed : ∀ p ∈ ps, (Source.junction, p.1) ∈ identities l ↔ p.2 = true
  queued : ∀ j, (Source.junction, j) ∈ identities l → j ∈ ps.map Prod.fst
  calm : Calm l .junction

/-- From `l` to `l'` the entry of one junction has been made to stand or to be absent, and the other entries stay. -/
structure SetsJunction (l l' : List Restriction) (j : Half) (b : Bool) : Prop where
  others : ∀ i, i ≠ (Source.junction, j) → (i ∈ identities l' ↔ i ∈ identities l)
  there : (Source.junction, j) ∈ identities l' ↔ b = true
  calm : Calm l' .junction

theorem State.setsJunction_raise (hm : s.mcr.mode ≠ .standby) (hc : Calm s.rsl .junction)
    (hk : ∀ b, k ≠ .emergency b) : SetsJunction s.rsl (s.raise .junction j k).rsl j true where
  others := fun i hi => (State.mem_identities_raise hm i).trans (or_iff_left hi)
  there := iff_of_true ((State.mem_identities_raise hm _).mpr (.inr rfl)) rfl
  calm := fun e he hs => by
    obtain h | ⟨-, -, hkind⟩ := State.mem_raise_of_calm hc hk he
    · exact hc e h hs
    · rwa [hkind]

theorem State.setsJunction_lift (hd : (identities s.rsl).Nodup) (hc : Calm s.rsl .junction) :
    SetsJunction s.rsl (s.lift .junction j).rsl j false := by
  rw [State.lift_rsl_of_calm hc]
  refine ⟨fun i hi => ⟨fun h => (List.eraseP_sublist.map _).subset h, fun h => ?_⟩, ?_, fun e he =>
    hc e (List.mem_of_mem_eraseP he)⟩
  · obtain ⟨e, he, rfl⟩ := List.mem_map.mp h
    have hn : ¬ e.names .junction j = true := fun hn => hi (identity_of_names hn)
    exact List.mem_map_of_mem ((List.mem_eraseP_of_neg (p := fun e : Restriction => e.names .junction j) hn).mpr he)
  · refine iff_of_false (fun h => ?_) Bool.false_ne_true
    obtain ⟨e, he, hs, hk⟩ := exists_of_mem_identities h
    exact not_names_of_mem_eraseP hd he ((e.names_iff _ _).mpr ⟨hs, hk⟩)

theorem SetsJunction.refl (hc : Calm l .junction) (h : (Source.junction, j) ∉ identities l) : SetsJunction l l j false :=
  ⟨fun _ _ => .rfl, iff_of_false h Bool.false_ne_true, hc⟩

/-- The JUNCTION entry of a transaction stands as its state asks once the list is brought in line (R103). -/
theorem State.setsJunction_sync (hm : s.mcr.mode ≠ .standby) (hd : (identities s.rsl).Nodup)
    (hc : Calm s.rsl .junction) (x : Transaction) :
    SetsJunction s.rsl (s.syncJunction x).rsl x.junction x.places := by
  rw [← x.isSome_restraint s.rtu.items]
  unfold State.syncJunction
  split
  · rename_i k hk
    rw [hk]
    exact State.setsJunction_raise hm hc (Transaction.restraint_ne_emergency hk)
  · rename_i hk
    rw [hk]
    exact State.setsJunction_lift hd hc

/-- An agreement goes on when the list is set for one junction and the placements change for that junction alone. -/
theorem Agrees.set {ps ps' : List (Half × Bool)} (h : Agrees l ps) (hset : SetsJunction l l' j b)
    (hp : ∀ p ∈ ps', p = (j, b) ∨ p ∈ ps ∧ p.1 ≠ j) (hq : ∀ i ∈ ps.map Prod.fst, i ≠ j → i ∈ ps'.map Prod.fst)
    (hb : b = true → j ∈ ps'.map Prod.fst) : Agrees l' ps' where
  placed := fun p hmem => by
    obtain rfl | ⟨hold, hj⟩ := hp p hmem
    · exact hset.there
    · exact (hset.others _ fun heq => hj (congrArg Prod.snd heq)).trans (h.placed p hold)
  queued := fun i hi => by
    by_cases hj : i = j
    · subst hj
      exact hb (hset.there.mp hi)
    · exact hq i (h.queued i ((hset.others _ fun heq => hj (congrArg Prod.snd heq)).mp hi)) hj
  calm := hset.calm

/-- A transaction changed, with its entry (R103). -/
theorem Agrees.update (h : Agrees l (placements q)) (hd : (junctionIds q).Nodup) (hx : x.junction ∈ junctionIds q)
    (hset : SetsJunction l l' x.junction x.places) : Agrees l' (placements (updateTransaction q x)) := by
  refine h.set hset (fun p hp => ?_) (fun i hi _ => ?_) fun _ => ?_
  · obtain ⟨y, hy, rfl⟩ := List.mem_map.mp hp
    obtain rfl | ⟨hy, hj⟩ := mem_updated hd hy
    · exact .inl rfl
    · exact .inr ⟨List.mem_map_of_mem hy, hj⟩
  · rwa [fst_placements, junctionIds_updateTransaction, ← fst_placements]
  · rwa [fst_placements, junctionIds_updateTransaction]

/-- A transaction removed, with its entry (R118). -/
theorem Agrees.erase (h : Agrees l (placements q)) (hd : (junctionIds q).Nodup) (hset : SetsJunction l l' j false) :
    Agrees l' (placements (q.eraseP (·.junction == j))) := by
  refine h.set hset (fun p hp => ?_) (fun i hi hj => ?_) fun hb => nomatch hb
  · obtain ⟨y, hy, rfl⟩ := List.mem_map.mp hp
    obtain ⟨hy, hj⟩ := mem_erased hd hy
    exact .inr ⟨List.mem_map_of_mem hy, hj⟩
  · rw [fst_placements] at hi ⊢
    obtain ⟨y, hy, rfl⟩ := List.mem_map.mp hi
    exact List.mem_map_of_mem ((List.mem_eraseP_of_neg (by simpa using hj)).mpr hy)

/-- A transaction of a new junction appended, with its entry (R107). -/
theorem Agrees.append (h : Agrees l (placements q)) (hx : x.junction ∉ junctionIds q)
    (hset : SetsJunction l l' x.junction x.places) : Agrees l' (placements (q ++ [x])) := by
  rw [placements, List.map_append]
  refine h.set hset (fun p hp => ?_) (fun i hi _ => ?_) fun _ => ?_
  · obtain hp | hp := List.mem_append.mp hp
    · refine .inr ⟨hp, fun hj => hx ?_⟩
      rw [← hj, ← fst_placements]
      exact List.mem_map_of_mem hp
    · exact .inl (List.mem_singleton.mp hp)
  · rw [List.map_append]
    exact List.mem_append_left _ hi
  · simp

end Sys2Proof.Machine
end

section
/-! SUPPORT. The route unit keeps the JUNCTION entries in agreement with the queue, every other entry under key 0, and
the attempt timer for a REQUESTING head (R81, R83, R103, R111), operation by operation. -/

namespace Sys2Proof.Machine

variable {s t v : State} {x h : Transaction} {rest : List Transaction}

/-- The list has no identity twice and agrees with a queue that has no junction twice, keys other than 0 are JUNCTION's,
and the attempt timer runs for a REQUESTING head alone. -/
structure State.JunctionsSound (s : State) : Prop where
  once : (identities s.rsl).Nodup
  ids : (junctionIds s.rtu.queue).Nodup
  agrees : Agrees s.rsl (placements s.rtu.queue)
  keys : s.KeysZero
  timed : s.AttemptHeld

/-- The agreement is what the model says of each transaction and of each entry (R103). -/
theorem State.junctionsMirrored_iff (s : State) :
    s.JunctionsMirrored ↔ Agrees s.rsl (placements s.rtu.queue) := by
  have same (x : Transaction) : mirrored s.rsl s.rtu.items x ↔
      ((Source.junction, x.junction) ∈ identities s.rsl ↔ x.places = true) := by
    rw [mirrored, x.isSome_restraint, Bool.eq_iff_iff, findRestriction_isSome_iff]
    exact iff_comm
  constructor
  · rintro ⟨hplaced, hentry⟩
    refine ⟨fun p hp => ?_, fun j hj => ?_, fun e he hs => (hentry e he hs).2⟩
    · obtain ⟨x, hx, rfl⟩ := List.mem_map.mp hp
      exact (same x).mp (hplaced x hx)
    · obtain ⟨e, he, hs, rfl⟩ := exists_of_mem_identities hj
      obtain ⟨⟨x, hx, hxj⟩, -⟩ := hentry e he hs
      rw [fst_placements, ← hxj]
      exact List.mem_map_of_mem hx
  · rintro ⟨hplaced, hqueued, hcalm⟩
    refine ⟨fun x hx => (same x).mpr (hplaced _ (List.mem_map_of_mem hx)), fun e he hs => ⟨?_, hcalm e he hs⟩⟩
    have hmem := hqueued e.key (mem_identities he hs rfl)
    rw [fst_placements] at hmem
    exact List.mem_map.mp hmem

/-- A change that leaves the JUNCTION entries and the queue as they are. -/
theorem State.JunctionsSound.of_entries (hs : s.JunctionsSound) (hq : t.rtu.queue = s.rtu.queue)
    (ha : t.rtu.attempt.isSome = s.rtu.attempt.isSome) (he : ∀ e, e.source = .junction → (e ∈ t.rsl ↔ e ∈ s.rsl))
    (hk : t.KeysZero) (hd : (identities t.rsl).Nodup) : t.JunctionsSound where
  once := hd
  ids := hq ▸ hs.ids
  keys := hk
  timed := by rw [State.AttemptHeld, hq, ha]; exact hs.timed
  agrees := by
    have same (j : Half) : (Source.junction, j) ∈ identities t.rsl ↔ (Source.junction, j) ∈ identities s.rsl := by
      constructor <;> intro hj <;> obtain ⟨e, hmem, hsrc, hkey⟩ := exists_of_mem_identities hj
      · exact mem_identities ((he e hsrc).mp hmem) hsrc hkey
      · exact mem_identities ((he e hsrc).mpr hmem) hsrc hkey
    rw [hq]
    exact
      { placed := fun p hp => (same p.1).trans (hs.agrees.placed p hp)
        queued := fun j hj => hs.agrees.queued j ((same j).mp hj)
        calm := fun e hmem hsrc => hs.agrees.calm e ((he e hsrc).mp hmem) hsrc }

theorem State.JunctionsSound.leaves (hs : s.JunctionsSound) (hl : s.Leaves t) : t.JunctionsSound :=
  hs.of_entries hl.queue hl.attempt
    (fun e hsrc => ⟨fun he => hl.comes e he (by rw [hsrc]; rfl),
      fun he => hl.stays e he (by rw [hsrc]; rfl) (hs.agrees.calm e he hsrc)⟩)
    (hl.keys hs.keys) (hl.once hs.once)

/-- A change of the queue that leaves its junctions and what they place. -/
theorem State.JunctionsSound.relabel (hs : s.JunctionsSound) (hl : t.rsl = s.rsl)
    (hp : placements t.rtu.queue = placements s.rtu.queue) (ht : t.AttemptHeld) : t.JunctionsSound where
  once := hl ▸ hs.once
  ids := by rw [← fst_placements, hp, fst_placements]; exact hs.ids
  agrees := by rw [hl, hp]; exact hs.agrees
  keys := by rw [State.KeysZero, hl]; exact hs.keys
  timed := ht

theorem State.AttemptHeld.of_stopped (ha : s.rtu.attempt = none) : s.AttemptHeld := fun h => by
  rw [ha] at h
  cases h

/-- The timer that runs goes on for the same head. -/
theorem State.AttemptHeld.of_head (hs : s.AttemptHeld) (ha : t.rtu.attempt = s.rtu.attempt)
    (hq : t.rtu.queue.head?.map (·.state) = s.rtu.queue.head?.map (·.state)) : t.AttemptHeld := by
  rw [State.AttemptHeld, ha, hq]
  exact hs

/-! ### Attempts (R109 to R116) -/

/-- A transaction in the place of its junction's, brought in line with the list outside STANDBY (R103). -/
theorem State.JunctionsSound.sync (hs : s.JunctionsSound) (hm : v.mcr.mode ≠ .standby) (hl : v.rsl = s.rsl)
    (hq : v.rtu.queue = updateTransaction s.rtu.queue x) (hx : x.junction ∈ junctionIds s.rtu.queue)
    (ht : v.AttemptHeld) : (v.syncJunction x).JunctionsSound := by
  have hrtu : (v.syncJunction x).rtu = v.rtu := by
    unfold State.syncJunction
    split <;> simp
  have honce : (identities v.rsl).Nodup := hl ▸ hs.once
  have hset := State.setsJunction_sync hm honce (hl ▸ hs.agrees.calm) x
  have hkeys : v.KeysZero := by rw [State.KeysZero, hl]; exact hs.keys
  refine ⟨((State.Keeps.refl v).syncJunction x).rsl honce, ?_, ?_, ?_, ?_⟩
  · rw [hrtu, hq, junctionIds_updateTransaction]
    exact hs.ids
  · rw [hrtu, hq]
    exact hs.agrees.update hs.ids hx (hl ▸ hset)
  · unfold State.syncJunction
    split
    · exact hkeys.raise fun h => absurd rfl h
    · exact hkeys.lift
  · rw [State.AttemptHeld, hrtu]
    exact ht

theorem State.startAttempt_of_head {d : PointDir} (hq : s.rtu.queue = h :: rest) (hd : h.dir = some d) :
    s.startAttempt.rsl = s.rsl ∧ s.startAttempt.rtu.attempt = none ∧
      s.startAttempt.rtu.queue = { h with lastSeq := some (s.rtu.seq + 1), state := .requesting } :: rest ∧
      s.startAttempt.mcr = s.mcr := by
  unfold State.startAttempt
  simp [hq, hd]

/-- An attempt for a head that places an entry (R109). -/
theorem State.JunctionsSound.startAttempt (hs : s.JunctionsSound) (hp : ∀ x ∈ s.rtu.queue.head?, x.places = true) :
    s.startAttempt.JunctionsSound := by
  have idle (h : s.startAttempt = s) : s.startAttempt.JunctionsSound := by rwa [h]
  cases hq : s.rtu.queue with
  | nil => exact idle (by rw [State.startAttempt, hq])
  | cons h rest =>
    cases hd : h.dir with
    | none => exact idle (by simp [State.startAttempt, hq, hd])
    | some d =>
      obtain ⟨hl, ha, hqueue, -⟩ := State.startAttempt_of_head hq hd
      refine hs.relabel hl ?_ (.of_stopped ha)
      rw [hqueue, hq]
      exact congrArg (· :: placements rest) (Prod.ext rfl (hp h (by rw [hq]; rfl)).symm)

/-- Outside STANDBY a transaction becomes UNCONFIRMED (R116). -/
theorem State.JunctionsSound.makeUnconfirmed (hs : s.JunctionsSound) (hm : s.mcr.mode ≠ .standby)
    (hx : x.junction ∈ junctionIds s.rtu.queue) : (s.makeUnconfirmed x).JunctionsSound := by
  refine State.JunctionsSound.leaves (s := State.syncJunction _ { x with state := .unconfirmed }) ?_
    ((State.Leaves.refl _).setFlag .jnUnconfirmed)
  by_cases hhead : s.rtu.isHead x.junction = true
  · rw [if_pos hhead]
    exact hs.sync (x := { x with state := .unconfirmed }) (by exact hm) rfl rfl hx (.of_stopped rfl)
  · rw [if_neg hhead]
    refine hs.sync (x := { x with state := .unconfirmed }) (by exact hm) rfl rfl hx (hs.timed.of_head rfl ?_)
    exact congrArg (Option.map _) (head?_updateTransaction hhead)

/-- Outside STANDBY an attempt of a REQUESTING head fails (R115). -/
theorem State.JunctionsSound.failAttempt (hs : s.JunctionsSound) (hm : s.mcr.mode ≠ .standby)
    (hr : ∀ h ∈ s.rtu.queue.head?, h.state = .requesting) : s.failAttempt.JunctionsSound := by
  unfold State.failAttempt
  split
  · exact hs
  · rename_i h rest hq
    have hstate : h.state = .requesting := hr h (by rw [hq]; rfl)
    dsimp only
    generalize hv : (s.withQueue ({ h with attempts := h.attempts + 1 } :: rest)).withAttempt none = v
    have hqueue : v.rtu.queue = { h with attempts := h.attempts + 1 } :: rest := by rw [← hv]; rfl
    have counted : v.JunctionsSound := by
      refine hs.relabel (by rw [← hv]; rfl) ?_ (.of_stopped (by rw [← hv]; rfl))
      rw [hqueue, hq]
      rfl
    split
    · have hretry : v.Leaves v.countRetry :=
        (((State.Leaves.refl v).withTlk _).setFlag _).ite ((State.Leaves.refl v).withTlk _)
      refine (counted.leaves hretry).startAttempt fun y hy => ?_
      rw [hretry.queue, hqueue] at hy
      obtain rfl := Option.some.inj hy
      rw [Transaction.places, hstate]
    · refine counted.makeUnconfirmed (by rw [← hv]; exact hm) ?_
      rw [hqueue]
      exact List.mem_cons_self

/-- The attempt timer is started for a REQUESTING head (R110, R113). -/
theorem State.JunctionsSound.startAttemptTimer (hs : s.JunctionsSound)
    (hr : s.rtu.queue.head?.map (·.state) = some .requesting) : s.startAttemptTimer.JunctionsSound :=
  hs.relabel rfl rfl fun _ => hr

/-! ### Removals (R106, R118, R119) -/

/-- The part without a transaction in its queue, the attempt timer stopped if it was the head, before the lift (R118). -/
def State.dequeued (s : State) (x : Transaction) : State :=
  if s.rtu.isHead x.junction then (s.withQueue (s.rtu.queue.eraseP (·.junction == x.junction))).withAttempt none
  else s.withQueue (s.rtu.queue.eraseP (·.junction == x.junction))

theorem State.removeTransaction_eq (s : State) (x : Transaction) : s.removeTransaction x =
    if x.places then (s.dequeued x).lift .junction x.junction else s.dequeued x := by
  rw [← x.isSome_restraint s.rtu.items]
  unfold State.removeTransaction
  cases x.restraint s.rtu.items <;> rfl

theorem State.dequeued_rsl (s : State) (x : Transaction) : (s.dequeued x).rsl = s.rsl := by
  unfold State.dequeued
  split <;> rfl

theorem State.dequeued_queue (s : State) (x : Transaction) :
    (s.dequeued x).rtu.queue = s.rtu.queue.eraseP (·.junction == x.junction) := by
  unfold State.dequeued
  split <;> rfl

theorem State.AttemptHeld.dequeued (hs : s.AttemptHeld) (x : Transaction) : (s.dequeued x).AttemptHeld := by
  unfold State.dequeued
  split
  · exact .of_stopped rfl
  · rename_i hhead
    exact hs.of_head rfl (congrArg (Option.map _) (head?_eraseP hhead))

theorem State.removeTransaction_rtu (s : State) (x : Transaction) :
    (s.removeTransaction x).rtu = (s.dequeued x).rtu := by
  rw [s.removeTransaction_eq]
  split
  · rw [State.lift_rtu]
  · rfl

/-- The removal takes the JUNCTION entry that the transaction placed, if it placed one. -/
theorem State.JunctionsSound.setsJunction_remove (hs : s.JunctionsSound) (hx : x ∈ s.rtu.queue) :
    SetsJunction s.rsl (s.removeTransaction x).rsl x.junction false := by
  have hl := s.dequeued_rsl x
  rw [s.removeTransaction_eq]
  split
  · rw [← hl]
    exact State.setsJunction_lift (hl ▸ hs.once) (hl ▸ hs.agrees.calm)
  · rename_i hnone
    rw [hl]
    exact .refl hs.agrees.calm fun hmem => hnone ((hs.agrees.placed _ (List.mem_map_of_mem hx)).mp hmem)

/-- A transaction of the queue is removed (R118). -/
theorem State.JunctionsSound.removeTransaction (hs : s.JunctionsSound) (hx : x ∈ s.rtu.queue) :
    (s.removeTransaction x).JunctionsSound := by
  have hkeeps := (State.Keeps.refl s).removeTransaction x
  have hkeys : (s.dequeued x).KeysZero := by rw [State.KeysZero, s.dequeued_rsl]; exact hs.keys
  refine ⟨hkeeps.rsl hs.once, hkeeps.rtu.distinct hs.ids, ?_, ?_, ?_⟩
  · rw [s.removeTransaction_rtu, s.dequeued_queue]
    exact hs.agrees.erase hs.ids (hs.setsJunction_remove hx)
  · rw [s.removeTransaction_eq]
    split
    · exact hkeys.lift
    · exact hkeys
  · rw [State.AttemptHeld, s.removeTransaction_rtu]
    exact hs.timed.dequeued x

theorem State.Leaves.liftRoute (hl : s.Leaves t) : s.Leaves t.liftRoute :=
  ((hl.withRtu (by exact rfl) (by exact rfl)).lift rfl).ite hl

/-- After removals a head that is ANNOUNCED starts its attempt (R118). -/
theorem State.JunctionsSound.afterRemoval (hs : s.JunctionsSound) (old : Option Half) :
    (s.afterRemoval old).JunctionsSound := by
  have lifted := hs.leaves (State.Leaves.refl s).liftRoute
  unfold State.afterRemoval
  dsimp only
  split
  · exact lifted
  · rename_i h rest hq
    split
    · rename_i hann
      refine lifted.startAttempt fun y hy => ?_
      rw [hq] at hy
      obtain rfl := Option.some.inj hy
      rw [Transaction.places, hann.1]
    · exact lifted

theorem mem_of_findTransaction {q : List Transaction} {j : Half} (hf : findTransaction q j = some x) : x ∈ q :=
  List.mem_of_find?_eq_some hf

theorem State.JunctionsSound.clearJunction (hs : s.JunctionsSound) (j : Half) : (s.clearJunction j).JunctionsSound := by
  unfold State.clearJunction
  split
  · rename_i x hx
    exact (hs.removeTransaction (mem_of_findTransaction hx)).afterRemoval _
  · exact hs

/-! ### Several transactions at once (R117, R122, R123) -/

/-- What is done to one transaction of a sound part keeps it sound, in its mode, with the transactions of the other
junctions. -/
structure State.Treats (s t : State) (j : Half) : Prop where
  sound : t.JunctionsSound
  mode : t.mcr.mode = s.mcr.mode
  others : ∀ y ∈ s.rtu.queue, y.junction ≠ j → y ∈ t.rtu.queue

/-- Transactions of the queue treated one after another. -/
theorem State.JunctionsSound.foldl {f : State → Transaction → State}
    (hf : ∀ (u : State) x, u.JunctionsSound → u.mcr.mode ≠ .standby → x ∈ u.rtu.queue → u.Treats (f u x) x.junction) :
    ∀ (l : List Transaction) {s : State}, s.JunctionsSound → s.mcr.mode ≠ .standby → (junctionIds l).Nodup →
      (∀ x ∈ l, x ∈ s.rtu.queue) → (l.foldl f s).JunctionsSound
  | [], _, hs, _, _, _ => hs
  | x :: l, s, hs, hm, hd, hq => by
    obtain ⟨hx, hd⟩ := List.nodup_cons.mp hd
    have treated := hf s x hs hm (hq x List.mem_cons_self)
    refine State.JunctionsSound.foldl hf l treated.sound (by rw [treated.mode]; exact hm) hd fun y hy => ?_
    exact treated.others y (hq y (List.mem_cons_of_mem _ hy)) fun heq => hx (List.mem_map.mpr ⟨y, hy, heq⟩)

theorem State.treats_removeTransaction (hs : s.JunctionsSound) (hx : x ∈ s.rtu.queue) :
    s.Treats (s.removeTransaction x) x.junction where
  sound := hs.removeTransaction hx
  mode := by rw [State.mcr_of_cab (s.cab_removeTransaction x)]
  others := fun y hy hne => by
    rw [s.removeTransaction_rtu, s.dequeued_queue]
    exact (List.mem_eraseP_of_neg (by simpa using hne)).mpr hy

theorem State.makeUnconfirmed_queue (s : State) (x : Transaction) :
    (s.makeUnconfirmed x).rtu.queue = updateTransaction s.rtu.queue { x with state := .unconfirmed } := by
  unfold State.makeUnconfirmed State.syncJunction
  dsimp only
  split <;> split <;> simp [State.withQueue, State.withAttempt]

theorem State.treats_makeUnconfirmed (hs : s.JunctionsSound) (hm : s.mcr.mode ≠ .standby) (hx : x ∈ s.rtu.queue) :
    s.Treats (s.makeUnconfirmed x) x.junction where
  sound := hs.makeUnconfirmed hm (List.mem_map_of_mem hx)
  mode := by rw [State.mcr_of_cab (s.cab_makeUnconfirmed x)]
  others := fun y hy hne => by
    rw [s.makeUnconfirmed_queue x]
    exact mem_replaceFirst_of_mem _ (by simpa using hne) hy

/-- A track link's FAULT makes the open transactions UNCONFIRMED (R123). -/
theorem State.JunctionsSound.linkFaulted (hs : s.JunctionsSound) : s.linkFaulted.JunctionsSound := by
  unfold State.linkFaulted
  split
  · exact hs
  · rename_i hr
    exact State.JunctionsSound.foldl (fun u x hu hm hx => State.treats_makeUnconfirmed hu hm hx) _ hs
      (State.ne_standby_of_routing hr) ((List.filter_sublist.map _).nodup hs.ids)
      fun x hx => List.mem_of_mem_filter hx

/-- A period-distance event (R117). -/
theorem State.JunctionsSound.periodDistance (hs : s.JunctionsSound) (d : Nat) : (s.periodDistance d).JunctionsSound := by
  have judge (u : State) (x : Transaction) (hu : u.JunctionsSound) (hm : u.mcr.mode ≠ .standby)
      (hx : x ∈ u.rtu.queue) : u.Treats (u.judgeDistance x) x.junction := by
    unfold State.judgeDistance
    split
    · exact State.treats_removeTransaction hu hx
    · split
      · exact State.treats_makeUnconfirmed hu hm hx
      · exact ⟨hu, rfl, fun _ hy _ => hy⟩
  unfold State.periodDistance
  split
  · exact hs
  · rename_i hr
    have hm : s.mcr.mode ≠ .standby := State.ne_standby_of_routing hr
    dsimp only
    generalize hq : (s.rtu.queue.map fun x => { x with remaining := countDown x.remaining d }) = q
    have counted : (s.withQueue q).JunctionsSound := by
      refine hs.relabel rfl ?_ (hs.timed.of_head rfl ?_)
      · rw [← hq]
        simp [State.withQueue, placements, Function.comp_def, Transaction.places]
      · rw [← hq]
        cases hs' : s.rtu.queue <;> simp [State.withQueue]
    have judged := State.JunctionsSound.foldl judge q counted hm counted.ids fun x hx => hx
    split
    · exact judged.afterRemoval _
    · exact judged

/-- A reversal empties the queue and lifts its entries (R122). -/
theorem State.JunctionsSound.reversal (hs : s.JunctionsSound) : s.reversal.JunctionsSound := by
  unfold State.reversal
  split
  · exact hs
  · rename_i hr
    have removed := State.JunctionsSound.foldl (fun u x hu _ hx => State.treats_removeTransaction hu hx) s.rtu.queue hs
      (State.ne_standby_of_routing hr) hs.ids fun x hx => hx
    have stopped : ((s.rtu.queue.foldl State.removeTransaction s).withAttempt none).JunctionsSound :=
      removed.relabel rfl rfl (.of_stopped rfl)
    exact stopped.leaves (((State.Leaves.refl _).ite ((State.Leaves.refl _).setFlag _)).liftRoute)

/-! ### Telegrams (R105 to R113) -/

theorem State.JunctionsSound.appended (hs : s.JunctionsSound) (hm : s.mcr.mode ≠ .standby)
    (hnew : x.junction ∉ junctionIds s.rtu.queue) : (s.appended x.junction x).JunctionsSound := by
  have hset : SetsJunction s.rsl (s.appended x.junction x).rsl x.junction x.places := by
    unfold State.appended
    rw [← x.isSome_restraint s.rtu.items]
    split
    · rename_i k hk
      rw [hk]
      exact State.setsJunction_raise (s := s.withQueue (s.rtu.queue ++ [x])) hm hs.agrees.calm
        (Transaction.restraint_ne_emergency hk)
    · rename_i hk
      rw [hk]
      refine .refl hs.agrees.calm fun hmem => hnew ?_
      rw [← fst_placements]
      exact hs.agrees.queued _ hmem
  refine ⟨?_, ?_, ?_, ?_, fun ha => ?_⟩
  · unfold State.appended
    split
    · exact ((State.Keeps.refl (s.withQueue (s.rtu.queue ++ [x]))).raise _ _ _).rsl hs.once
    · exact hs.once
  · rw [s.appended_rtu]
    exact nodup_map_concat hs.ids hnew
  · rw [s.appended_rtu]
    exact hs.agrees.append hnew hset
  · unfold State.appended
    split
    · exact State.KeysZero.raise (s := s.withQueue (s.rtu.queue ++ [x])) hs.keys fun h => absurd rfl h
    · exact hs.keys
  · rw [s.appended_rtu] at ha ⊢
    have hhead := hs.timed ha
    cases hq : s.rtu.queue with
    | nil =>
      rw [hq] at hhead
      cases hhead
    | cons y q =>
      rw [hq] at hhead
      exact hhead

/-- A new junction with room in the queue (R107, R108). -/
theorem State.JunctionsSound.announce (hs : s.JunctionsSound) (hm : s.mcr.mode ≠ .standby) {j : Half}
    (hj : findTransaction s.rtu.queue j = none) (d : Nat) : (s.announce j d).JunctionsSound := by
  have hid := s.rtu.newTransaction_junction j d
  rw [s.announce_eq]
  generalize s.rtu.newTransaction j d = x at hid ⊢
  subst hid
  have placed := hs.appended hm (not_mem_junctionIds hj)
  have hbell : (s.appended x.junction x).Leaves ((s.appended x.junction x).autoBell x.junction) := by
    unfold State.autoBell
    split
    · exact ((State.Leaves.refl _).soundRequest _ _).ite (.refl _)
    · exact .refl _
  split
  · rename_i hfirst
    simp only [Bool.and_eq_true, List.isEmpty_iff, decide_eq_true_eq] at hfirst
    obtain ⟨hempty, hann⟩ := hfirst
    refine (placed.leaves hbell).startAttempt fun y hy => ?_
    rw [hbell.queue, s.appended_rtu, hempty] at hy
    obtain rfl := Option.some.inj hy
    rw [Transaction.places, hann]
  · exact placed.leaves hbell

/-- A delivered APPROACH (R105 to R107). -/
theorem State.JunctionsSound.approach (hs : s.JunctionsSound) (hm : s.mcr.mode ≠ .standby) (j : Half) (d : Nat) :
    (s.approach j d).JunctionsSound := by
  unfold State.approach
  split
  · rename_i x hx
    have hj : x.junction = j := eq_of_beq (List.find?_some (p := fun y : Transaction => y.junction == j) hx)
    have hfind : s.rtu.queue.find? (·.junction == x.junction) = some x := hj ▸ hx
    have outline {β : Type} (f : Transaction → β) (hf : f { x with remaining := millimetres d } = f x) :
        (updateTransaction s.rtu.queue { x with remaining := millimetres d }).map f = s.rtu.queue.map f :=
      map_replaceFirst_of_find hf hfind
    refine hs.relabel rfl (outline _ rfl) (hs.timed.of_head rfl ?_)
    rw [← List.head?_map, ← List.head?_map]
    exact congrArg List.head? (outline (·.state) rfl)
  · split
    · exact hs.announce hm ‹_› d
    · exact hs.leaves ((((State.Leaves.refl s).withRtu (by exact rfl) (by exact rfl)).setFlag _).raise
        rfl _)

/-- A CONFIRM acted on for a REQUESTING head (R113). -/
theorem State.JunctionsSound.actOnConfirm (hs : s.JunctionsSound) (hm : s.mcr.mode ≠ .standby)
    (hq : s.rtu.queue = h :: rest) (hr : h.state = .requesting) (d : PointDir) (c : ConfirmState) :
    (s.actOnConfirm h d c).JunctionsSound := by
  have hh : h.junction ∈ junctionIds s.rtu.queue := by rw [hq]; exact List.mem_cons_self
  cases c with
  | setLocked =>
    unfold State.actOnConfirm
    dsimp only
    split
    · exact hs.sync (x := { h with state := .confirmed }) (by exact hm) rfl rfl hh (.of_stopped rfl)
    · refine hs.failAttempt hm fun y hy => ?_
      rw [hq] at hy
      obtain rfl := Option.some.inj hy
      exact hr
  | setMoving => exact hs.startAttemptTimer (by rw [hq]; exact congrArg some hr)
  | refused => exact hs.makeUnconfirmed hm hh

/-- A delivered CONFIRM (R112, R113). -/
theorem State.JunctionsSound.confirm (hs : s.JunctionsSound) (hm : s.mcr.mode ≠ .standby) (j tram : Half) (n : Byte)
    (d : PointDir) (c : ConfirmState) : (s.confirm j tram n d c).JunctionsSound := by
  unfold State.confirm
  split
  · exact hs
  · split
    · exact hs
    · rename_i h rest hq
      split
      · exact hs
      · split
        · exact hs.leaves ((State.Leaves.refl s).setFlag _)
        · split
          · exact hs
          · rename_i hr
            exact hs.actOnConfirm hm hq (Classical.not_not.mp hr) d c

/-- A telegram delivered in the modes of R104. -/
theorem State.JunctionsSound.deliverTelegram (hs : s.JunctionsSound) (m : Telegram) :
    (s.deliverTelegram m).JunctionsSound := by
  unfold State.deliverTelegram
  split
  · exact hs
  · rename_i hr
    have hm : s.mcr.mode ≠ .standby := State.ne_standby_of_routing hr
    cases m with
    | approach j d => exact hs.approach hm j d
    | clear j => exact hs.clearJunction j
    | confirm j tram n d c => exact hs.confirm hm j tram n d c
    | request => exact hs

/-- The track link's report of a REQUEST sent (R110). -/
theorem State.JunctionsSound.requestSent (hs : s.JunctionsSound) (n : Byte) : (s.requestSent n).JunctionsSound := by
  unfold State.requestSent
  split
  · exact hs
  · rename_i h rest hq
    split
    · rename_i hsent
      simp only [Bool.and_eq_true, decide_eq_true_eq] at hsent
      obtain ⟨⟨-, hstate⟩, -⟩ := hsent
      exact hs.startAttemptTimer (by rw [hq]; exact congrArg some hstate)
    · exact hs

/-! ### The driver (R120, R121) -/

/-- A press of a route button (R120). -/
theorem State.JunctionsSound.routeButton (hs : s.JunctionsSound) (d : PointDir) :
    (s.routeButton d).JunctionsSound := by
  unfold State.routeButton
  split
  · exact hs
  · rename_i hr
    have hm : s.mcr.mode ≠ .standby := State.ne_standby_of_routing hr
    split
    · exact hs
    · rename_i h rest hq
      split
      · dsimp only
        generalize hv : s.withQueue ({ h with dir := some d, source := .manual, attempts := 0 } :: rest) = v
        have hqueue : v.rtu.queue = { h with dir := some d, source := .manual, attempts := 0 } :: rest := by
          rw [← hv]; rfl
        obtain ⟨hl, ha, hafter, hmcr⟩ := State.startAttempt_of_head (s := v) (d := d) hqueue rfl
        have hmode : v.startAttempt.mcr.mode ≠ .standby := by rw [hmcr, ← hv]; exact hm
        refine hs.sync (v := v.startAttempt)
          (x := { h with
            dir := some d, source := .manual, attempts := 0, lastSeq := some (v.rtu.seq + 1), state := .requesting })
          hmode (by rw [hl, ← hv]; rfl) ?_ (by rw [hq]; exact List.mem_cons_self) (.of_stopped ha)
        rw [hafter, hq]
        simp [updateTransaction, replaceFirst]
      · exact hs

/-- A press of PROCEED (R121). -/
theorem State.JunctionsSound.proceedPress (hs : s.JunctionsSound) : s.proceedPress.JunctionsSound := by
  unfold State.proceedPress
  split
  · exact hs
  · rename_i hr
    have hm : s.mcr.mode ≠ .standby := State.ne_standby_of_routing hr
    split
    · exact hs
    · rename_i x hx
      have hmem : x ∈ s.rtu.queue := List.mem_of_find?_eq_some hx
      have hstate : x.state = .unconfirmed :=
        eq_of_beq (List.find?_some (p := fun y : Transaction => y.state == .unconfirmed) hx)
      refine hs.sync (x := { x with state := .proceed }) (by exact hm) rfl rfl
        (List.mem_map.mpr ⟨x, hmem, rfl⟩) fun ha => ?_
      have hhead := hs.timed ha
      refine (congrArg (Option.map _) (head?_updateTransaction fun hany => ?_)).trans hhead
      obtain ⟨h, hh, hrequesting⟩ := Option.map_eq_some_iff.mp hhead
      have hjunction : h.junction = x.junction := by simpa [hh] using hany
      obtain rfl := eq_of_junction hs.ids (List.mem_of_head? hh) hmem hjunction
      rw [hstate] at hrequesting
      cases hrequesting

end Sys2Proof.Machine
end

section
/-! SUPPORT. Every command keeps MODE/HOLD in the list where the mode calls for it (R82, R95), and the JUNCTION entries in
agreement with the queue (R103), with the statements about every step. -/

namespace Sys2Proof.Machine

variable {s t u : State} {m : Mode}

/-! ### MODE held (R82) -/

theorem State.ModeHeld.leaves (hs : s.ModeHeld) (hl : s.Leaves t) : t.ModeHeld := by
  obtain ⟨honly, hentry, hempty⟩ := hs
  rw [State.ModeHeld, hl.mode]
  refine ⟨fun e he hsrc => honly e (hl.comes e he (by rw [hsrc]; rfl)) hsrc, fun hr => ?_, fun hm => hl.empty hm (hempty hm)⟩
  obtain ⟨e, he, hsrc, hkey⟩ := hentry hr
  exact ⟨e, hl.stays e he (by rw [hsrc]; rfl) (fun b hb => by simp [honly e he hsrc] at hb), hsrc, hkey⟩

/-- What every block does at a change of mode leaves the new mode, MODE and JUNCTION (log 9). -/
theorem State.leaves_changeMode (s : State) (m : Mode) : (s.withMode m).Leaves (s.changeMode m) := by
  have silent (q : Sounder) : (s.withMode m).Leaves
      (if s.mcr.mode.sounding && !m.sounding then (s.withMode m).withSsq q else s.withMode m) :=
    ((State.Leaves.refl _).withSsq q).ite (.refl _)
  have cleared (q : Sounder) (x : Traction) : (s.withMode m).Leaves (if s.mcr.mode.driving && !m.driving then _ else _) :=
    ((silent q).withTdu x).ite (silent q)
  have reported (q : Sounder) (x : Traction) :
      (s.withMode m).Leaves (if !s.mcr.mode.sounding && m.sounding then _ else _) :=
    ((cleared q x).sends (State.sends_reportChannels _)).ite (cleared q x)
  have delivered (q : Sounder) (x : Traction) (v : View) :
      (s.withMode m).Leaves (if !s.mcr.mode.active && m.active then _ else _) :=
    ((reported q x).deliverLevels none v).ite (reported q x)
  exact (delivered _ _ _).doorsTest.ite (delivered _ _ _)

/-- A change to another mode than STANDBY keeps MODE held where the list has MODE for that mode. -/
theorem State.modeHeld_changeMode (ho : onlyHold s.rsl .mode) (hm : m ≠ .standby)
    (hr : m.restrained = true → hasEntry s.rsl .mode) : (s.changeMode m).ModeHeld :=
  State.ModeHeld.leaves (s := s.withMode m) ⟨ho, hr, fun h => absurd h hm⟩ (s.leaves_changeMode m)

theorem State.JunctionsSound.changeMode (hs : s.JunctionsSound) (m : Mode) : (s.changeMode m).JunctionsSound :=
  State.JunctionsSound.leaves (s := s.withMode m) (hs.relabel rfl rfl hs.timed) (s.leaves_changeMode m)

theorem State.JunctionsSound.raiseMode (hs : s.JunctionsSound) : (s.raise .mode 0 .hold).JunctionsSound :=
  hs.of_entries (by simp) (by simp) (fun _ he => State.mem_raise_iff (by rw [he]; decide) _ _ _)
    (State.KeysZero.raise hs.keys fun _ => rfl) (((State.Keeps.refl s).raise _ _ _).rsl hs.once)

theorem State.JunctionsSound.liftMode (hs : s.JunctionsSound) : (s.lift .mode 0).JunctionsSound :=
  hs.of_entries (by simp) (by simp) (fun _ he => State.mem_lift_iff (by rw [he]; decide) _ _)
    (State.KeysZero.lift hs.keys) (((State.Keeps.refl s).lift _ _).rsl hs.once)

/-- With no transaction queued and MODE/HOLD alone in the list, or nothing, the junctions are sound. -/
theorem State.JunctionsSound.of_empty (hq : s.rtu.queue = []) (ha : s.rtu.attempt = none)
    (hl : s.rsl = [] ∨ ∃ n, s.rsl = [⟨.mode, 0, .hold, n⟩]) : s.JunctionsSound := by
  have honce : (identities s.rsl).Nodup := by
    obtain hl | ⟨n, hl⟩ := hl <;> rw [hl]
    · exact List.nodup_nil
    · exact List.nodup_singleton _
  have hentry : ∀ e ∈ s.rsl, e.source ≠ .junction ∧ e.key = 0 := fun e he => by
    obtain hl | ⟨n, hl⟩ := hl <;> rw [hl] at he
    · cases he
    · obtain rfl := List.mem_singleton.mp he
      exact ⟨Source.noConfusion, rfl⟩
  refine ⟨honce, by rw [hq]; exact List.nodup_nil, ⟨fun p hp => ?_, fun j hj => ?_, fun e he hs => ?_⟩,
    fun e he _ => (hentry e he).2, .of_stopped ha⟩
  · rw [hq] at hp
    cases hp
  · obtain ⟨e, he, hs, -⟩ := exists_of_mem_identities hj
    exact absurd hs (hentry e he).1
  · exact absurd hs (hentry e he).1

/-! ### Both together -/

/-- From `s` to `t` MODE stays held as the mode calls for, and the junctions sound. -/
structure State.KeepsOrder (s t : State) : Prop where
  modeHeld : s.ModeHeld → t.ModeHeld
  junctions : s.JunctionsSound → t.JunctionsSound

theorem State.KeepsOrder.refl (s : State) : s.KeepsOrder s := ⟨id, id⟩

theorem State.KeepsOrder.trans (h : s.KeepsOrder t) (k : t.KeepsOrder u) : s.KeepsOrder u :=
  ⟨k.modeHeld ∘ h.modeHeld, k.junctions ∘ h.junctions⟩

theorem State.KeepsOrder.ite {c : Prop} {_ : Decidable c} (h : s.KeepsOrder t) (k : s.KeepsOrder u) :
    s.KeepsOrder (if c then t else u) := by
  split
  · exact h
  · exact k

theorem State.KeepsOrder.foldl {α : Type} {f : State → α → State} (hf : ∀ (u : State) x, u.KeepsOrder (f u x)) :
    ∀ (l : List α) {t : State}, s.KeepsOrder t → s.KeepsOrder (l.foldl f t)
  | [], _, h => h
  | x :: l, t, h => State.KeepsOrder.foldl hf l (h.trans (hf t x))

theorem State.KeepsOrder.leaves (h : s.KeepsOrder t) (k : t.Leaves u) : s.KeepsOrder u :=
  h.trans ⟨fun hs => hs.leaves k, fun hs => hs.leaves k⟩

theorem State.Leaves.keepsOrder (h : s.Leaves t) : s.KeepsOrder t := (State.KeepsOrder.refl s).leaves h

/-! ### The route unit (chapter 6) -/

/-- What the route unit does in the modes of R104 alone keeps MODE held. -/
theorem State.KeepsOrder.routed (h : s.KeepsOrder t) (k : t.SparesMode u) (hu : t.mcr.mode.routing = false → u = t)
    (hj : t.JunctionsSound → u.JunctionsSound) : s.KeepsOrder u := by
  refine h.trans ⟨fun hs => ?_, hj⟩
  by_cases hm : t.mcr.mode = .standby
  · rwa [hu (by rw [hm]; rfl)]
  · exact k.modeHeld hm hs

theorem State.KeepsOrder.deliverTelegram (h : s.KeepsOrder t) (x : Telegram) : s.KeepsOrder (t.deliverTelegram x) :=
  h.routed ((State.SparesMode.refl t).deliverTelegram x) (fun hm => by simp [State.deliverTelegram, hm])
    fun hs => hs.deliverTelegram x

theorem State.KeepsOrder.linkFaulted (h : s.KeepsOrder t) : s.KeepsOrder t.linkFaulted :=
  h.routed (State.SparesMode.refl t).linkFaulted (fun hm => by simp [State.linkFaulted, hm]) fun hs => hs.linkFaulted

theorem State.KeepsOrder.requestSent (h : s.KeepsOrder t) (n : Byte) : s.KeepsOrder (t.requestSent n) :=
  h.routed ((State.SparesMode.refl t).requestSent n)
    (fun hm => by
      unfold State.requestSent
      split
      · rfl
      · simp [hm])
    fun hs => hs.requestSent n

theorem State.KeepsOrder.periodDistance (h : s.KeepsOrder t) (d : Nat) : s.KeepsOrder (t.periodDistance d) :=
  h.routed ((State.SparesMode.refl t).periodDistance d) (fun hm => by simp [State.periodDistance, hm])
    fun hs => hs.periodDistance d

theorem State.KeepsOrder.reversal (h : s.KeepsOrder t) : s.KeepsOrder t.reversal :=
  h.routed (State.SparesMode.refl t).reversal (fun hm => by simp [State.reversal, hm]) fun hs => hs.reversal

theorem State.KeepsOrder.routePress (h : s.KeepsOrder t) (i : DeskInput) : s.KeepsOrder (t.routePress i) := by
  have button (d : PointDir) : s.KeepsOrder (t.routeButton d) :=
    h.routed ((State.SparesMode.refl t).routeButton d) (fun hm => by simp [State.routeButton, hm])
      fun hs => hs.routeButton d
  unfold State.routePress
  split
  · exact button _
  · exact button _
  · exact button _
  · exact h.routed (State.SparesMode.refl t).proceedPress (fun hm => by simp [State.proceedPress, hm])
      fun hs => hs.proceedPress
  · exact h

/-- The attempt timer expires for a REQUESTING head, in the modes that drive (R111, R115). -/
theorem State.KeepsOrder.attemptExpiry (h : s.KeepsOrder t) :
    s.KeepsOrder (if t.attemptExpires then t.failAttempt else t) := by
  split
  · rename_i hx
    simp only [State.attemptExpires, State.attemptRunning, Bool.and_eq_true] at hx
    obtain ⟨⟨hsome, hdrive⟩, -⟩ := hx
    have hm : t.mcr.mode ≠ .standby := fun hm => by rw [hm] at hdrive; cases hdrive
    refine h.trans ⟨(State.SparesMode.refl t).failAttempt.modeHeld hm, fun hs => hs.failAttempt hm fun y hy => ?_⟩
    have hhead := hs.timed hsome
    rw [Option.mem_def.mp hy] at hhead
    exact Option.some.inj hhead
  · exact h

/-! ### Changes of mode (chapter 11) -/

/-- A change to a mode that calls for MODE only where the old one did. -/
theorem State.KeepsOrder.changeMode (h : s.KeepsOrder t) (hm : m ≠ .standby)
    (hr : m.restrained = true → t.mcr.mode.restrained = true) : s.KeepsOrder (t.changeMode m) :=
  h.trans ⟨fun ⟨honly, hentry, _⟩ => State.modeHeld_changeMode honly hm fun hmr => hentry (hr hmr),
    fun hs => hs.changeMode m⟩

/-- MODE lifted and a mode entered that does not call for it (R95). -/
theorem State.KeepsOrder.liftMode (h : s.KeepsOrder t) (hm : m ≠ .standby) (hr : m.restrained = false) :
    s.KeepsOrder ((t.lift .mode 0).changeMode m) :=
  h.trans ⟨fun ⟨honly, _, _⟩ => State.modeHeld_changeMode (State.onlyHold_lift honly) hm (by simp [hr]),
    fun hs => hs.liftMode.changeMode m⟩

theorem State.KeepsOrder.standbyTest (h : s.KeepsOrder t) : s.KeepsOrder t.standbyTest := by
  obtain ht | ⟨-, ht⟩ := t.standbyTest_cases <;> rw [ht]
  · exact h
  · exact h.trans ⟨fun _ => ⟨fun e he => (List.not_mem_nil he).elim, nofun, fun _ => rfl⟩,
      fun _ => .of_empty rfl rfl (.inl rfl)⟩

/-- HOLD entered with MODE raised (R95, R197). -/
theorem State.KeepsOrder.enterHold (h : s.KeepsOrder t) : s.KeepsOrder t.enterHold := by
  have held (hs : t.ModeHeld) : t.inHold.ModeHeld := by
    obtain ⟨honly, -, -⟩ := hs
    have hchanged : onlyHold (t.changeMode .hold).rsl .mode := fun e he hsrc =>
      honly e ((t.leaves_changeMode .hold).comes e he (by rw [hsrc]; rfl)) hsrc
    refine ⟨State.onlyHold_raise hchanged, fun _ => t.hasEntry_inHold, fun hm => ?_⟩
    rw [State.inHold_mcr] at hm
    cases hm
  exact State.KeepsOrder.standbyTest (t := t.inHold) (h.trans ⟨held, fun hs => (hs.changeMode .hold).raiseMode⟩)

theorem State.KeepsOrder.completionTest (h : s.KeepsOrder t) : s.KeepsOrder t.completionTest := h.enterHold.ite h

theorem State.KeepsOrder.completionAfter (u : State) (h : s.KeepsOrder t) :
    s.KeepsOrder (State.completionAfter u t) := h.completionTest.ite h

/-- RESTART and standby exit leave MODE/HOLD alone in the list and an empty queue (R93, R201, R202). -/
theorem State.KeepsOrder.restartBlocks (h : s.KeepsOrder t) : s.KeepsOrder t.restartBlocks := by
  obtain ⟨-, -, -, -, -, -, hrsl, hrtu, -, -, -, -, -, -, -, -, hmcr, -⟩ := t.restarted_restartBlocks
  refine h.trans ⟨fun _ => ?_, fun _ => .of_empty (by rw [hrtu]) (by rw [hrtu]) (.inr ⟨_, hrsl⟩)⟩
  rw [State.ModeHeld, hrsl, hmcr]
  refine ⟨fun e he _ => ?_, fun _ => ⟨_, List.mem_singleton.mpr rfl, rfl, rfl⟩, nofun⟩
  rw [List.mem_singleton.mp he]

theorem State.KeepsOrder.keyChanged (h : s.KeepsOrder t) : s.KeepsOrder t.keyChanged :=
  State.KeepsOrder.ite (h.restartBlocks.ite h) h.standbyTest

theorem State.KeepsOrder.enterService (h : s.KeepsOrder t) : s.KeepsOrder t.enterService :=
  (h.liftMode (m := .service) (by decide) rfl).standbyTest

/-- The end of the check leaves STARTING, which calls for MODE (R194). -/
theorem State.KeepsOrder.endCheck (h : s.KeepsOrder t) (hm : t.mcr.mode = .starting) (pass : Bool) :
    s.KeepsOrder (t.endCheck pass) := by
  have ended : s.KeepsOrder (t.withMcr { t.mcr with checkLeft := 0 }) :=
    h.leaves ((State.Leaves.refl t).withMcr rfl)
  have restrained (m : Mode) : m.restrained = true → t.mcr.mode.restrained = true := fun _ => by rw [hm]; rfl
  have displayed {v : State} (hv : s.KeepsOrder v) : s.KeepsOrder v.sendStopDisplay :=
    hv.leaves (State.Leaves.refl v).sendStopDisplay
  unfold State.endCheck
  exact (ended.changeMode (by decide) (restrained .failed)).ite
    (((displayed (ended.liftMode (m := .service) (by decide) rfl)).standbyTest).ite
      (displayed (ended.changeMode (by decide) (restrained .configure))))

/-- The work of a control period (R50, R51). -/
theorem State.KeepsOrder.periodWork (h : s.KeepsOrder t) : s.KeepsOrder t.periodWork := by
  have l := State.Leaves.refl t
  have holding : s.KeepsOrder t.evaluateSpeed.1.releaseTest.publishHold := h.leaves l.evaluateSpeed.releaseTest.publishHold
  have serving : s.KeepsOrder t.computePeriod.1.publishSetpoint.supervise :=
    h.leaves l.computePeriod.publishSetpoint.supervise
  unfold State.periodWork
  dsimp only
  cases t.mcr.mode with
  | starting | failed | standby => exact h
  | step => exact h.leaves l.publishHold
  | configure | hold =>
    dsimp only
    split
    · exact holding.periodDistance _
    · exact holding
  | service | holdPending =>
    dsimp only
    cases t.computePeriod.2.distance with
    | some d => exact (serving.periodDistance d).reversal.ite (serving.periodDistance d)
    | none => exact serving.reversal.ite serving

/-! ### Scans and telegrams (chapters 3 and 7) -/

theorem State.KeepsOrder.deliverTo (h : s.KeepsOrder t) (c : ScanChange) (x : Consumer) :
    s.KeepsOrder (State.deliverTo c t x) := by
  have l := State.Leaves.refl t
  cases x with
  | control => exact h.keyChanged
  | traction => exact (h.leaves (l.deliverTraction _ _)).ite h
  | sound => exact (h.leaves (l.deliverSound c)).ite h
  | route => exact (State.KeepsOrder.foldl (fun u i => (State.KeepsOrder.refl u).routePress i) _ h).ite h
  | stops => exact (h.leaves (State.Leaves.foldl (fun u i => (State.Leaves.refl u).stopPress i) _ l)).ite h

theorem State.KeepsOrder.goodScan (h : s.KeepsOrder t) (image : Word) (handle : Int) :
    s.KeepsOrder (t.goodScan image handle) := by
  have l := State.Leaves.refl t
  unfold State.goodScan
  dsimp only
  split
  · exact State.KeepsOrder.foldl (fun u x => (State.KeepsOrder.refl u).deliverTo _ x) _ (h.leaves (l.withDci _).bumpFree)
  · have counted := h.leaves (l.withDci { t.dci with
      image := image, handle := handle, heldKey := heldIn image .keyOn, goodRun := t.dci.goodRun + 1 })
    have recovered : s.KeepsOrder (if t.dci.goodRun + 1 = 5 then _ else _) :=
      (counted.leaves (State.Leaves.refl _).recoverDesk).ite counted
    exact recovered.keyChanged.ite recovered

theorem State.KeepsOrder.judgeScan (h : s.KeepsOrder t) (bytes : List Byte) : s.KeepsOrder (t.judgeScan bytes) := by
  have closed := (State.Leaves.refl t).withDci { t.dci with exchangeOpen := false }
  unfold State.judgeScan
  dsimp only
  split
  · exact (h.leaves closed).goodScan _ _
  · exact h.leaves closed.badScan

theorem State.KeepsOrder.arrivalEnd (h : s.KeepsOrder t) (bytes : List Byte) : s.KeepsOrder (t.arrivalEnd bytes) := by
  have linked (x : TrackLink) {v : State} (hv : s.KeepsOrder v) : s.KeepsOrder (v.withTlk x) :=
    hv.leaves ((State.Leaves.refl v).withTlk x)
  have flagged (f : Flag) {v : State} (hv : s.KeepsOrder v) : s.KeepsOrder (v.setFlag f) :=
    hv.leaves ((State.Leaves.refl v).setFlag f)
  have left := linked t.tlk.leaveReceiving h
  have bad {v : State} (hv : s.KeepsOrder v) : s.KeepsOrder v.badTelegram :=
    State.KeepsOrder.ite (flagged _ (linked _ (linked _ hv)).linkFaulted) (linked _ hv)
  have good {v : State} (hv : s.KeepsOrder v) (x : Telegram) : s.KeepsOrder (v.goodTelegram x) :=
    State.KeepsOrder.deliverTelegram (State.KeepsOrder.ite (flagged _ (linked _ (linked _ hv))) (linked _ hv)) x
  unfold State.arrivalEnd
  refine (linked _ h).ite ?_
  split
  · exact h
  · refine (linked _ h).ite (left.ite ((bad left).ite ?_))
    split
    · exact good left _
    · exact bad left

theorem State.KeepsOrder.transmissionDone (h : s.KeepsOrder t) : s.KeepsOrder t.transmissionDone := by
  unfold State.transmissionDone
  split
  · exact (h.leaves ((State.Leaves.refl t).withTlk _)).requestSent _
  · exact h

/-! ### Requests (chapters 10 and 11) -/

/-- What a request does keeps MODE held and the junctions sound. -/
def ActKeepsOrder (act : Request → State → State × Answer) : Prop := ∀ r t, State.KeepsOrder t (act r t).1

theorem ActKeepsOrder.of_leaves {act : Request → State → State × Answer} (h : ∀ r (t : State), t.Leaves (act r t).1) :
    ActKeepsOrder act := fun r t => (h r t).keepsOrder

/-- A request that is answered and changes nothing else. -/
theorem ActKeepsOrder.of_eq {act : Request → State → State × Answer} (h : ∀ r t, (act r t).1 = t) :
    ActKeepsOrder act := fun r t => by rw [h]; exact State.KeepsOrder.refl t

theorem State.KeepsOrder.manage (h : s.KeepsOrder t) (row : Row) {act : Request → State → State × Answer}
    (ha : ActKeepsOrder act) : s.KeepsOrder (manage row act t) := by
  have decided (r : Request) (v : State) : v.KeepsOrder (decideRequest act r v).1 := by
    unfold decideRequest
    split
    · exact .refl v
    · exact ha r v
  unfold Machine.manage
  split
  · exact h
  · rename_i r rest _
    have taken := h.leaves ((State.Leaves.refl t).withFcl { t.fcl with requests := rest })
    exact ((taken.trans (decided r _)).leaves ((State.Leaves.refl _).respond r _)).ite h

theorem actReadItem_keepsOrder : ActKeepsOrder actReadItem := .of_eq fun r t => by unfold actReadItem; split <;> rfl
theorem actReadEntry_keepsOrder : ActKeepsOrder actReadEntry := .of_eq fun r t => by
  unfold actReadEntry
  split
  · rfl
  · split <;> rfl
theorem actReadRestrictions_keepsOrder : ActKeepsOrder actReadRestrictions := .of_eq fun _ _ => rfl
theorem actReadJunctions_keepsOrder : ActKeepsOrder actReadJunctions := .of_eq fun _ _ => rfl
theorem actReadStops_keepsOrder : ActKeepsOrder actReadStops := .of_eq fun _ _ => rfl
theorem actReadStep_keepsOrder : ActKeepsOrder actReadStep := .of_eq fun r t => by
  unfold actReadStep
  dsimp only
  split <;> rfl
theorem actUnknown_keepsOrder : ActKeepsOrder actUnknown := .of_eq fun _ _ => rfl

theorem actWriteItem_keepsOrder : ActKeepsOrder actWriteItem := .of_leaves fun r t => by
  unfold actWriteItem
  split
  · exact (State.Leaves.refl t).writeItem _ _
  · exact .refl t

theorem actLoadEntry_keepsOrder : ActKeepsOrder actLoadEntry := .of_leaves fun r t => by
  unfold actLoadEntry
  split
  · exact .refl t
  · exact (State.Leaves.refl t).load _ _ _

theorem actCommit_keepsOrder : ActKeepsOrder actCommit := .of_leaves fun _ t => (State.Leaves.refl t).commitTable _

theorem actReadLoadSum_keepsOrder : ActKeepsOrder actReadLoadSum := .of_leaves fun _ t =>
  (State.Leaves.refl t).withMcr rfl

theorem actReadFlags_keepsOrder : ActKeepsOrder actReadFlags := .of_leaves fun r t => by
  unfold actReadFlags
  dsimp only
  split
  · exact .refl t
  · exact (State.Leaves.refl t).withEfn _

theorem actSetEnables_keepsOrder : ActKeepsOrder actSetEnables := .of_leaves fun r t => by
  unfold actSetEnables
  dsimp only
  split
  · exact .refl t
  · exact ((State.Leaves.refl t).withEfn _).sends (State.sends_judgeChannels _ _)

theorem actSetRoute_keepsOrder : ActKeepsOrder actSetRoute := .of_leaves fun _ t =>
  (State.Leaves.refl t).withRtu rfl rfl

/-- SERVICE gives way to HOLD_PENDING, which calls for MODE no more than it does (R197). -/
theorem actHoldSoft_keepsOrder : ActKeepsOrder actHoldSoft := fun _ t => by
  unfold actHoldSoft
  split
  · exact ((State.KeepsOrder.refl t).changeMode (m := .holdPending) (by decide) nofun).completionTest.standbyTest
  all_goals exact .refl t

theorem actHoldHard_keepsOrder : ActKeepsOrder actHoldHard := fun _ t => by
  have h := State.KeepsOrder.refl t
  unfold actHoldHard
  repeat' split
  any_goals exact h
  all_goals exact h.enterHold

theorem actRelease_keepsOrder : ActKeepsOrder actRelease := fun _ t => by
  have h := State.KeepsOrder.refl t
  unfold actRelease
  split
  · exact (h.changeMode (m := .service) (by decide) nofun).standbyTest
  · exact State.KeepsOrder.enterService (h.leaves ((State.Leaves.refl t).withTdu _))
  all_goals exact h

/-- HOLD and STEP both call for MODE (R199). -/
theorem actStepEnter_keepsOrder : ActKeepsOrder actStepEnter := fun _ t => by
  unfold actStepEnter
  split
  · rename_i hm
    exact (State.KeepsOrder.refl t).changeMode (by decide) fun _ => by rw [hm]; rfl
  all_goals exact .refl t

theorem actStepExit_keepsOrder : ActKeepsOrder actStepExit := fun _ t => by
  unfold actStepExit
  split
  · rename_i hm
    exact ((State.KeepsOrder.refl t).changeMode (m := .hold) (by decide) fun _ => by rw [hm]; rfl).standbyTest
  · exact .refl t

theorem actStepOne_keepsOrder : ActKeepsOrder actStepOne := fun _ t => by
  have computed := (State.Leaves.refl t).bumpFree.ageSlots.computeStep.keepsOrder
  unfold actStepOne State.stepOnce
  split
  · exact computed.reversal.ite computed
  · exact .refl t

theorem actEnterService_keepsOrder : ActKeepsOrder actEnterService := fun _ t => by
  have h := State.KeepsOrder.refl t
  unfold actEnterService
  repeat' split
  · exact h
  · exact h.enterService
  · exact h

theorem actRestart_keepsOrder : ActKeepsOrder actRestart := fun _ t => by
  have h := State.KeepsOrder.refl t
  unfold actRestart
  repeat' split
  any_goals exact h
  all_goals exact h.restartBlocks

/-! ### Every step -/

theorem State.KeepsOrder.of_next (k : s.KeepsOrder u) (h : (.next u : Host.Outcome State Fault Refusal) = .next t) :
    s.KeepsOrder t := Host.Outcome.next.inj h ▸ k

/-- Every command but POWER_ON keeps MODE held and the junctions sound. -/
theorem exec_keepsOrder {c : Instr} (hc : ∀ n, c ≠ .powerOn n) (h : exec c s = .next t) : s.KeepsOrder t := by
  have l := State.Leaves.refl s
  have k := State.KeepsOrder.refl s
  cases c with
  | powerOn n => exact absurd rfl (hc n)
  | idleMarkerArrival p | frameArrivalStart p | frameArrivalEnd p bytes | idleTimerExpiry p | idleMarkerEnd p
  | transmissionEnd p => exact .of_next (l.withPort p _).keepsOrder h
  | frameHandling p => exact .of_next (l.handleFrame p).keepsOrder h
  | activityTimerExpiry p => exact .of_next (l.activityExpiry p).keepsOrder h
  | classifyFrame p =>
    simp only [exec, execClassifyFrame] at h
    split at h
    · exact .of_next k h
    · exact .of_next ((l.withPort p _).classify _).keepsOrder h
  | ageTick => exact .of_next (State.Leaves.ite (l.withSgt _) (l.withSgt _).ageSlots).keepsOrder h
  | scanTimerExpiry => exact .of_next (l.scanExpiry.keepsOrder.completionAfter s) h
  | scanArrivalEnd scan => exact .of_next (((k.judgeScan _).completionAfter s).ite k) h
  | controlPeriod =>
    have worked := l.startPeriod.keepsOrder.periodWork
    exact .of_next (worked.completionTest.standbyTest.ite worked) h
  | attemptTimerExpiry => exact .of_next k.attemptExpiry h
  | telegramArrivalStart => exact .of_next l.arrivalStart.keepsOrder h
  | telegramArrivalEnd bytes => exact .of_next ((k.arrivalEnd bytes).completionAfter s) h
  | requestTransmissionEnd => exact .of_next k.transmissionDone h
  | soundStepBoundary ch load => exact .of_next ((l.soundBoundary ch load).keepsOrder.completionAfter s) h
  | directHornMinEnd => exact .of_next (l.hornMinEnd.keepsOrder.completionAfter s) h
  | directHornInterval load => exact .of_next (l.hornInterval load).keepsOrder h
  | startupCheckEnd pass =>
    simp only [exec, execStartupCheckEnd] at h
    split at h
    · exact .of_next (k.endCheck ‹_› pass) h
    · exact .of_next k h
  | readItem => exact .of_next (k.manage _ actReadItem_keepsOrder) h
  | writeItem => exact .of_next (k.manage _ actWriteItem_keepsOrder) h
  | loadEntry => exact .of_next (k.manage _ actLoadEntry_keepsOrder) h
  | readEntry => exact .of_next (k.manage _ actReadEntry_keepsOrder) h
  | commit => exact .of_next (k.manage _ actCommit_keepsOrder) h
  | readLoadSum => exact .of_next (k.manage _ actReadLoadSum_keepsOrder) h
  | readFlags => exact .of_next (k.manage _ actReadFlags_keepsOrder) h
  | setEnables => exact .of_next (k.manage _ actSetEnables_keepsOrder) h
  | readRestrictions => exact .of_next (k.manage _ actReadRestrictions_keepsOrder) h
  | readJunctions => exact .of_next (k.manage _ actReadJunctions_keepsOrder) h
  | readStops => exact .of_next (k.manage _ actReadStops_keepsOrder) h
  | readStep => exact .of_next (k.manage _ actReadStep_keepsOrder) h
  | holdSoft => exact .of_next (k.manage _ actHoldSoft_keepsOrder) h
  | holdHard => exact .of_next (k.manage _ actHoldHard_keepsOrder) h
  | release => exact .of_next (k.manage _ actRelease_keepsOrder) h
  | stepEnter => exact .of_next (k.manage _ actStepEnter_keepsOrder) h
  | stepOne => exact .of_next (k.manage _ actStepOne_keepsOrder) h
  | stepExit => exact .of_next (k.manage _ actStepExit_keepsOrder) h
  | enterService => exact .of_next (k.manage _ actEnterService_keepsOrder) h
  | restart => exact .of_next (k.manage _ actRestart_keepsOrder) h
  | setRoute => exact .of_next (k.manage _ actSetRoute_keepsOrder) h
  | unknownRequest => exact .of_next (k.manage _ actUnknown_keepsOrder) h

/-- The power-on leaves MODE/HOLD alone in the list, in STARTING or FAILED, and no junction queued (R92, R193). -/
theorem exec_powerOn_keepsOrder {n : Nat} (h : exec (.powerOn n) s = .next t) : s.KeepsOrder t := by
  obtain rfl := Host.Outcome.next.inj (h : execPowerOn n s = .next t)
  refine ⟨fun _ => ?_, fun _ => ?_⟩
  · unfold powerOnState
    split
    · exact State.reset_modeHeld
    · obtain ⟨honly, -, -⟩ := State.reset_modeHeld
      exact ⟨honly, fun _ => ⟨modeHoldAtPowerOn, List.mem_singleton.mpr rfl, rfl, rfl⟩, nofun⟩
  · unfold powerOnState
    split <;> exact .of_empty rfl rfl (.inr ⟨0, rfl⟩)

/-- Every step keeps MODE held and the junctions sound. -/
theorem step_keepsOrder (h : step s = .next t) : s.KeepsOrder t := by
  unfold step at h
  split at h
  · exact .of_next s.leaves_tick.keepsOrder h
  · rename_i c rest _
    have popped : s.KeepsOrder (s.withPending rest) :=
      ((State.Leaves.refl s).of_same rfl rfl rfl rfl : s.Leaves (s.withPending rest)).keepsOrder
    by_cases hc : ∃ n, c = .powerOn n
    · obtain ⟨n, rfl⟩ := hc
      exact popped.trans (exec_powerOn_keepsOrder h)
    · exact popped.trans (exec_keepsOrder (fun n hn => hc ⟨n, hn⟩) h)

/-- Settles O55: the route unit raises and lifts no MODE, each change of mode raises or lifts it as the new mode calls
for, and nothing else touches it. -/
theorem stepKeepsModeHeld : Obligations.StepKeepsModeHeld := fun _ _ hs h => (step_keepsOrder h).modeHeld hs

/-- Settles O57: each operation of the route unit changes one junction's transaction together with its entry, and the
rest of the part changes neither the queue nor the JUNCTION entries, or empties both. -/
theorem stepKeepsJunctionsMirrored : Obligations.StepKeepsJunctionsMirrored := by
  intro s t hd hj hk ha h
  obtain ⟨-, -, honce, hids, -⟩ := hd
  have sound := (step_keepsOrder h).junctions ⟨honce, hids, s.junctionsMirrored_iff.mp hj, hk, ha⟩
  exact ⟨t.junctionsMirrored_iff.mpr sound.agrees, sound.keys, sound.timed⟩

end Sys2Proof.Machine
end

section
/-! SUPPORT. One millisecond of idle time (log 1), and SET_ROUTE (R101), with the statements about them. -/

namespace Sys2Proof.Machine

variable {s : State} {r : Request}

/-! ### Idle time (R111; log 1) -/

theorem State.tick_rtu (s : State) : s.tick.rtu =
    { s.rtu with attempt := if s.mcr.mode.driving then s.rtu.attempt.map (· - 1) else s.rtu.attempt } := rfl

/-- The attempt timer is frozen outside SERVICE and HOLD_PENDING (R111). -/
theorem State.tick_rtu_of_frozen (h : s.mcr.mode.driving = false) : s.tick.rtu = s.rtu := by rw [s.tick_rtu, h]; rfl

theorem State.tick_port (s : State) (p : Line) : s.tick.port p = (s.port p).tick := by cases p <;> rfl

theorem State.tick_channel (s : State) (ch : Channel) : s.tick.ssq.channel ch = (s.ssq.channel ch).tick := by
  cases ch <;> rfl

/-- Settles O2: a step with no command waiting is a tick, which each block's timers tell apart. -/
theorem idleStepLetsTimePass : Obligations.IdleStepLetsTimePass := by
  intro s hp
  have idle : step s = .next s.tick := by rw [step, hp]
  refine ⟨s.tick, idle, s.tick_port, rfl, rfl, rfl, rfl, rfl, rfl, fun hm => ?_, fun hs hh => ?_, rfl, rfl,
    s.tick_channel, rfl, rfl, rfl, rfl, rfl, rfl, rfl, hp⟩
  · rw [s.tick_rtu, if_pos (s.mcr.mode.driving_iff.mpr hm)]
  · exact State.tick_rtu_of_frozen (Bool.eq_false_iff.mpr fun hd => (s.mcr.mode.driving_iff.mp hd).elim hs hh)

/-! ### SET_ROUTE (R101) -/

/-- SET_ROUTE stores the number brought within 1 to 999 and answers with what it has stored. -/
theorem exec_setRoute (h : s.asked r .setRoute) {m : Nat} (hm : max 1 (min 999 (r.half 0).toNat) = m) :
    exec .setRoute s = .next ((s.taken.withRtu { s.rtu with routeNumber := m }).respond r
      ⟨if m = (r.half 0).toNat then .done else .doneClamped, nat2 m⟩) := by
  subst hm
  exact congrArg Host.Outcome.next (manage_of_asked h (by decide) actSetRoute)

/-- Settles O51: the number stored is the one asked for, or the end of the range that it exceeds. -/
theorem setRouteClamps : Obligations.SetRouteClamps := by
  rintro s r n h rfl
  refine ⟨fun hlo hhi => ?_, fun hz => ?_, fun hgt => ?_⟩
  · rw [exec_setRoute h (m := (r.half 0).toNat) (by omega), if_pos rfl, nat2, BitVec.ofNat_toNat, BitVec.setWidth_eq]
  · rw [exec_setRoute h (m := 1) (by omega), if_neg (by omega)]
    rfl
  · rw [exec_setRoute h (m := 999) (by omega), if_neg (by omega)]
    rfl

end Sys2Proof.Machine
end

section
/-! SUPPORT. The track link's REQUESTs and the route unit's operations on the head of its queue (R109 to R116, R120,
R121, R130, R131), with the statement about REQUESTs. -/

namespace Sys2Proof.Machine

variable {s t : State} {h x y : Transaction} {rest l1 l2 : List Transaction} {d : PointDir} {q : Byte}

/-! ### A transaction in its place (R102) -/

/-- The transaction of a junction is put in the place of the first one of that junction. -/
theorem updateTransaction_append_cons (hy : y.junction = x.junction) (h1 : ∀ z ∈ l1, z.junction ≠ x.junction) :
    updateTransaction (l1 ++ y :: l2) x = l1 ++ x :: l2 :=
  replaceFirst_append_cons (q := fun z : Transaction => z.junction == x.junction) x (beq_iff_eq.mpr hy) l2 fun z hz =>
    beq_eq_false_iff_ne.mpr (h1 z hz)

theorem updateTransaction_head (hh : h.junction = x.junction) : updateTransaction (h :: rest) x = x :: rest :=
  updateTransaction_append_cons (l1 := []) hh (by simp)

/-! ### Hand-over and the retry counter (R130, R137) -/

theorem TrackLink.handOver_of_listen {k : TrackLink} (hk : k.state = .listen) (r : PointRequest) :
    k.handOver r = { k with state := .transmitting, inFlight := some r, slotStart := none } := by
  rw [TrackLink.handOver, hk]

theorem TrackLink.handOver_of_busy {k : TrackLink} (hk : k.state ≠ .listen) (r : PointRequest) :
    k.handOver r = { k with slot := some r } := by
  unfold TrackLink.handOver
  split
  · exact absurd ‹_› hk
  · rfl

theorem State.countRetry_of_max (hr : s.tlk.retry = 65535) :
    s.countRetry = (s.withTlk { s.tlk with retry := 0, rollover := true }).setFlag .retryRollover := if_pos hr

theorem State.countRetry_of_less (hr : s.tlk.retry ≠ 65535) :
    s.countRetry = s.withTlk { s.tlk with retry := s.tlk.retry + 1 } := if_neg hr

/-- A retry counted changes the track link and what sending changes. -/
theorem State.countRetry_sameButSent (s : State) : (s.withTlk s.countRetry.tlk).sameButSent s.countRetry := by
  by_cases hr : s.tlk.retry = 65535
  · rw [State.countRetry_of_max hr, State.setFlag_tlk]
    exact State.setFlag_sameButSent _ _
  · rw [State.countRetry_of_less hr]
    rfl

/-- The retry counter wraps, and the rollover is noted (R137). -/
theorem State.countRetry_tlk (s : State) : s.countRetry.tlk =
    { s.tlk with retry := s.tlk.retry + 1, rollover := s.tlk.rollover || decide (s.tlk.retry = 65535) } := by
  by_cases hr : s.tlk.retry = 65535
  · rw [State.countRetry_of_max hr, State.setFlag_tlk, State.withTlk_tlk, hr]
    simp
  · rw [State.countRetry_of_less hr, State.withTlk_tlk, decide_eq_false hr, Bool.or_false]

theorem State.countRetry_isSet (hr : s.tlk.retry = 65535) : s.countRetry.efn.isSet .retryRollover = true := by
  rw [State.countRetry_of_max hr]
  exact State.setFlag_isSet _ _

theorem State.countRetry_efn (hr : s.tlk.retry ≠ 65535) : s.countRetry.efn = s.efn := by
  rw [State.countRetry_of_less hr]
  rfl

/-! ### Attempts (R109, R110) -/

theorem State.startAttempt_eq (hq : s.rtu.queue = h :: rest) (hd : h.dir = some d) : s.startAttempt =
    (s.withRtu { s.rtu with
      seq := s.rtu.seq + 1
      attempt := none
      queue := { h with lastSeq := some (s.rtu.seq + 1), state := .requesting } :: rest }).withTlk
        (s.tlk.handOver ⟨s.rtu.items.tramNumber, h.junction, d, s.rtu.seq + 1, s.rtu.routeNumber⟩) := by
  rw [State.startAttempt, hq]
  simp only [hd]

theorem State.startAttemptTimer_eq (s : State) : s.startAttemptTimer = s.withRtu { s.rtu with
    attempt := some s.rtu.items.confirmTimeout
    restartedAt := if s.rtu.attempt = none then none else some s.env.clock } := by
  unfold State.startAttemptTimer
  cases s.rtu.attempt <;> rfl

/-! ### UNCONFIRMED (R116) -/

/-- The part with a transaction UNCONFIRMED in its place, the attempt timer stopped if it is the head, before the raise
(R116). -/
def State.unconfirming (s : State) (x : Transaction) : State :=
  s.withRtu { s.rtu with
    queue := updateTransaction s.rtu.queue { x with state := .unconfirmed }
    attempt := if s.rtu.isHead x.junction then none else s.rtu.attempt }

theorem State.makeUnconfirmed_eq (s : State) (x : Transaction) : s.makeUnconfirmed x =
    ((s.unconfirming x).raise .junction x.junction .hold).setFlag .jnUnconfirmed := by
  unfold State.makeUnconfirmed State.unconfirming
  dsimp only
  split <;> rfl

theorem State.makeUnconfirmed_rtu (s : State) (x : Transaction) : (s.makeUnconfirmed x).rtu =
    { s.rtu with
      queue := updateTransaction s.rtu.queue { x with state := .unconfirmed }
      attempt := if s.rtu.isHead x.junction then none else s.rtu.attempt } := by
  rw [s.makeUnconfirmed_eq, State.setFlag_rtu, State.raise_rtu]
  rfl

theorem State.makeUnconfirmed_tlk (s : State) (x : Transaction) : (s.makeUnconfirmed x).tlk = s.tlk := by
  rw [s.makeUnconfirmed_eq, State.setFlag_tlk, State.raise_tlk]
  rfl

theorem State.makeUnconfirmed_isSet (s : State) (x : Transaction) :
    (s.makeUnconfirmed x).efn.isSet .jnUnconfirmed = true := State.setFlag_isSet _ _

/-- Outside STANDBY the JUNCTION entry of a transaction that becomes UNCONFIRMED is a HOLD, or the EMERGENCY that stood
there (R85, R116). -/
theorem State.makeUnconfirmed_holds (hm : s.mcr.mode ≠ .standby) (x : Transaction) :
    ∃ e ∈ (s.makeUnconfirmed x).rsl, e.source = .junction ∧ e.key = x.junction ∧
      (e.kind = .hold ∨ ∃ l, e.kind = .emergency l) := by
  rw [s.makeUnconfirmed_eq, State.setFlag_rsl]
  obtain ⟨e, he, hsrc, hkey, hkind | ⟨-, hkind, -⟩⟩ :=
    State.exists_mem_raise (s := s.unconfirming x) hm .junction x.junction (k := .hold) Restraint.noConfusion
  · exact ⟨e, he, hsrc, hkey, .inl hkind⟩
  · exact ⟨e, he, hsrc, hkey, .inr hkind⟩

theorem State.makeUnconfirmed_head (hq : s.rtu.queue = h :: rest) : s.makeUnconfirmed h =
    ((s.withRtu { s.rtu with queue := { h with state := .unconfirmed } :: rest, attempt := none }).raise
      .junction h.junction .hold).setFlag .jnUnconfirmed := by
  have head : s.rtu.isHead h.junction = true := by simp [RouteUnit.isHead, hq]
  rw [s.makeUnconfirmed_eq, State.unconfirming, if_pos head, hq,
    updateTransaction_head (h := h) (x := { h with state := .unconfirmed }) rfl]

/-! ### Failed attempts (R115) -/

/-- The part whose head has failed an attempt: one more is counted and the timer is stopped (R115). -/
def State.failed (s : State) (h : Transaction) (rest : List Transaction) : State :=
  s.withRtu { s.rtu with queue := { h with attempts := h.attempts + 1 } :: rest, attempt := none }

theorem State.failAttempt_of_retries (hq : s.rtu.queue = h :: rest) (hle : h.attempts + 1 ≤ s.rtu.items.shortRetries) :
    s.failAttempt = (s.failed h rest).countRetry.startAttempt := by
  rw [State.failAttempt, hq]
  exact if_pos hle

theorem State.failAttempt_of_no_retries (hq : s.rtu.queue = h :: rest)
    (hlt : s.rtu.items.shortRetries < h.attempts + 1) :
    s.failAttempt = (s.failed h rest).makeUnconfirmed { h with attempts := h.attempts + 1 } := by
  rw [State.failAttempt, hq]
  exact if_neg (Nat.not_le.mpr hlt)

/-- A failed attempt with retries left: the REQUEST goes out again under the next sequence number. -/
theorem State.failAttempt_resends (hq : s.rtu.queue = h :: rest) (hle : h.attempts + 1 ≤ s.rtu.items.shortRetries)
    (hd : h.dir = some d) : s.failAttempt =
      ((s.failed h rest).countRetry.withRtu { s.rtu with
        seq := s.rtu.seq + 1
        attempt := none
        queue := { h with
          attempts := h.attempts + 1, lastSeq := some (s.rtu.seq + 1), state := .requesting } :: rest }).withTlk
          ((s.failed h rest).countRetry.tlk.handOver
            ⟨s.rtu.items.tramNumber, h.junction, d, s.rtu.seq + 1, s.rtu.routeNumber⟩) := by
  have hrtu := (s.failed h rest).countRetry_sameButSent.rtu
  rw [State.failAttempt_of_retries hq hle,
    State.startAttempt_eq (h := { h with attempts := h.attempts + 1 }) (rest := rest) (by rw [hrtu]; rfl) hd, hrtu]
  rfl

theorem State.failAttempt_gives_up (hq : s.rtu.queue = h :: rest) (hlt : s.rtu.items.shortRetries < h.attempts + 1) :
    s.failAttempt.rtu = { s.rtu with
      queue := { h with attempts := h.attempts + 1, state := .unconfirmed } :: rest, attempt := none } := by
  rw [State.failAttempt_of_no_retries hq hlt,
    State.makeUnconfirmed_head (h := { h with attempts := h.attempts + 1 }) (rest := rest) rfl,
    State.setFlag_rtu, State.raise_rtu]
  rfl

/-! ### The attempt timer (R111, R114) -/

theorem State.attemptExpires_iff (s : State) : s.attemptExpires = true ↔
    s.rtu.attempt ≠ none ∧ (s.mcr.mode = .service ∨ s.mcr.mode = .holdPending) ∧
      s.rtu.restartedAt ≠ some s.env.clock := by
  simp only [State.attemptExpires, State.attemptRunning, Bool.and_eq_true, Option.isSome_iff_ne_none, Mode.driving_iff,
    bne_iff_ne, and_assoc]

theorem exec_attemptTimerExpiry_of_expires (he : s.attemptExpires = true) :
    exec .attemptTimerExpiry s = .next s.failAttempt := congrArg Host.Outcome.next (if_pos he)

theorem exec_attemptTimerExpiry_of_not_expires (he : ¬ s.attemptExpires = true) :
    exec .attemptTimerExpiry s = .next s := congrArg Host.Outcome.next (if_neg he)

/-! ### The report of a transmission's end (R110, R131) -/

theorem State.requestSent_of_head (hq : s.rtu.queue = h :: rest) (hm : s.mcr.mode.routing = true)
    (hr : h.state = .requesting) (hs : h.lastSeq = some q) : s.requestSent q = s.startAttemptTimer := by
  rw [State.requestSent, hq]
  exact if_pos (by simp [hm, hr, hs])

theorem State.requestSent_of_other
    (ho : ∀ h rest, s.rtu.queue = h :: rest → ¬ (h.state = .requesting ∧ h.lastSeq = some q)) :
    s.requestSent q = s := by
  unfold State.requestSent
  split
  · rfl
  · rename_i h rest hq
    exact if_neg fun hc => ho h rest hq (by simp_all)

theorem State.requestSent_of_not_routing (hm : s.mcr.mode.routing = false) : s.requestSent q = s := by
  unfold State.requestSent
  split
  · rfl
  · exact if_neg (by simp [hm])

/-- The report reads and changes the route unit alone, by the mode and the clock. -/
theorem State.requestSent_withTlk (s : State) (k : TrackLink) (q : Byte) :
    (s.withTlk k).requestSent q = (s.withTlk k).withRtu (s.requestSent q).rtu := by
  unfold State.requestSent
  rw [State.withTlk_rtu, State.withTlk_mcr]
  split
  · rfl
  · split <;> rfl

/-- The port after a REQUEST's transmission: a lost arrival, the pending REQUEST, or LISTEN (R131). -/
def TrackLink.afterRequest (k : TrackLink) (clock : Nat) : TrackLink :=
  match k.reception, k.slot with
  | some x, _ =>
    { k with
      txSent := satInc k.txSent, inFlight := none, state := .receiving, reception := some { x with lost := true } }
  | none, some r =>
    { k with
      txSent := satInc k.txSent, state := .transmitting, inFlight := some r, slot := none, slotStart := some clock }
  | none, none => { k with txSent := satInc k.txSent, inFlight := none, state := .listen }

theorem exec_requestTransmissionEnd {r : PointRequest} (hs : s.tlk.state = .transmitting)
    (hf : s.tlk.inFlight = some r) : exec .requestTransmissionEnd s =
      .next ((s.withTlk (s.tlk.afterRequest s.env.clock)).withRtu (s.requestSent r.seq).rtu) := by
  rw [← State.requestSent_withTlk]
  refine congrArg Host.Outcome.next ?_
  unfold State.transmissionDone
  rw [hs, hf]
  dsimp only
  refine congrArg (fun k => (s.withTlk k).requestSent r.seq) ?_
  unfold TrackLink.afterRequest
  cases s.tlk.reception <;> cases s.tlk.slot <;> rfl

theorem TrackLink.afterRequest_txSent (k : TrackLink) (clock : Nat) :
    (k.afterRequest clock).txSent = satInc k.txSent := by
  unfold TrackLink.afterRequest
  split <;> rfl

/-! ### The driver's buttons (R120, R121) -/

theorem State.routeButton_of_idle (hi : s.mcr.mode.routing = false ∨ s.rtu.queue = []) : s.routeButton d = s := by
  unfold State.routeButton
  obtain hm | hq := hi
  · rw [hm]
    rfl
  · rw [hq]
    exact ite_self s

/-- The states of a head for which a press of a route button is an attempt (R120). -/
def Transaction.takesButton (h : Transaction) (d : PointDir) : Prop :=
  h.state = .requesting ∨ h.state = .unconfirmed ∨ h.state = .awaitDriver ∨ (h.state = .confirmed ∧ h.dir ≠ some d)

theorem State.routeButton_of_takes (hm : s.mcr.mode.routing = true) (hq : s.rtu.queue = h :: rest)
    (ht : h.takesButton d) : s.routeButton d =
      (s.withQueue ({ h with dir := some d, source := .manual, attempts := 0 } :: rest)).startAttempt.raise
        .junction h.junction (.cap h.cap) := by
  rw [State.routeButton, hm, hq]
  exact if_pos ht

theorem State.routeButton_of_not_takes (hq : s.rtu.queue = h :: rest) (ht : ¬ h.takesButton d) :
    s.routeButton d = s := by
  rw [State.routeButton, hq]
  exact ite_eq_left_iff.mpr fun _ => if_neg ht

theorem State.proceedPress_of_none (hi : s.mcr.mode.routing = false ∨ ∀ x ∈ s.rtu.queue, x.state ≠ .unconfirmed) :
    s.proceedPress = s := by
  unfold State.proceedPress
  obtain hm | hq := hi
  · rw [hm]
    rfl
  · rw [List.find?_eq_none.mpr fun x hx => by simpa using hq x hx]
    exact ite_self s

/-- PROCEED releases the first UNCONFIRMED junction. -/
theorem State.proceedPress_of_first (hm : s.mcr.mode.routing = true) (hq : s.rtu.queue = l1 ++ x :: l2)
    (hx : x.state = .unconfirmed) (h1 : ∀ y ∈ l1, y.state ≠ .unconfirmed ∧ y.junction ≠ x.junction) :
    s.proceedPress = (s.withRtu { s.rtu with queue := l1 ++ { x with state := .proceed } :: l2 }).raise
      .junction x.junction (.cap s.rtu.items.proceedCap) := by
  have found : s.rtu.queue.find? (·.state == .unconfirmed) = some x := by
    rw [hq, List.find?_append, List.find?_eq_none.mpr fun y hy => by simpa using (h1 y hy).1, Option.none_or]
    exact List.find?_cons_of_pos (p := fun y : Transaction => y.state == .unconfirmed) (beq_iff_eq.mpr hx)
  have replaced : updateTransaction s.rtu.queue { x with state := .proceed } =
      l1 ++ { x with state := .proceed } :: l2 := by
    rw [hq]
    exact updateTransaction_append_cons rfl fun y hy => (h1 y hy).2
  rw [State.proceedPress, hm, found]
  dsimp only
  rw [replaced]
  rfl

/-! ### The statement -/

/-- The first clause of O31: the port goes on by what waits, and the route unit has its report (R131). -/
theorem requestTransmissionEnd_spec {r : PointRequest} (hs : s.tlk.state = .transmitting)
    (hf : s.tlk.inFlight = some r) : ∃ t, exec .requestTransmissionEnd s = .next t ∧
      t.tlk.txSent = satInc s.tlk.txSent ∧ t.rtu = (s.requestSent r.seq).rtu ∧
      (∀ x, s.tlk.reception = none → s.tlk.slot = some x →
        t.tlk.state = .transmitting ∧ t.tlk.inFlight = some x ∧ t.tlk.slot = none) ∧
      (s.tlk.reception = none → s.tlk.slot = none → t.tlk.state = .listen ∧ t.tlk.inFlight = none) ∧
      (s.tlk.reception.isSome = true → t.tlk.state = .receiving ∧ t.tlk.inFlight = none ∧ t.tlk.slot = s.tlk.slot) ∧
      t = (s.withTlk t.tlk).withRtu t.rtu := by
  refine ⟨_, exec_requestTransmissionEnd hs hf, s.tlk.afterRequest_txSent _, rfl, fun x hr hx => ?_, fun hr hx => ?_,
    fun hr => ?_, rfl⟩
  · simp [TrackLink.afterRequest, hr, hx]
  · simp [TrackLink.afterRequest, hr, hx]
  · obtain ⟨y, hy⟩ := Option.isSome_iff_exists.mp hr
    simp [TrackLink.afterRequest, hy]

/-- A failed attempt with retries left: what it leaves block by block (R115, R137). -/
theorem State.failAttempt_spec_of_retries (hq : s.rtu.queue = h :: rest)
    (hle : h.attempts + 1 ≤ s.rtu.items.shortRetries) (hd : h.dir = some d) : ∃ t, s.failAttempt = t ∧
      t.rtu = { s.rtu with
        queue := { h with
          attempts := h.attempts + 1, lastSeq := some (s.rtu.seq + 1), state := .requesting } :: rest
        seq := s.rtu.seq + 1
        attempt := none } ∧
      t.tlk = TrackLink.handOver
        { s.tlk with retry := s.tlk.retry + 1, rollover := s.tlk.rollover || decide (s.tlk.retry = 65535) }
        ⟨s.rtu.items.tramNumber, h.junction, d, s.rtu.seq + 1, s.rtu.routeNumber⟩ ∧
      (s.tlk.retry = 65535 → t.efn.isSet .retryRollover = true) ∧ (s.tlk.retry ≠ 65535 → t.efn = s.efn) ∧
      t.rsl = s.rsl ∧ t.tdu = s.tdu := by
  refine ⟨_, State.failAttempt_resends hq hle hd, rfl, ?_, fun hr => State.countRetry_isSet (s := s.failed h rest) hr,
    fun hr => State.countRetry_efn (s := s.failed h rest) hr, (s.failed h rest).countRetry_sameButSent.rsl,
    (s.failed h rest).countRetry_sameButSent.tdu⟩
  rw [State.withTlk_tlk, State.countRetry_tlk]
  rfl

/-- A failed attempt with none left (R115, R116). -/
theorem State.failAttempt_spec_of_no_retries (hq : s.rtu.queue = h :: rest)
    (hlt : s.rtu.items.shortRetries < h.attempts + 1) : ∃ t, s.failAttempt = t ∧
      t.rtu = { s.rtu with
        queue := { h with attempts := h.attempts + 1, state := .unconfirmed } :: rest, attempt := none } ∧
      t.tlk = s.tlk ∧ t.efn.isSet .jnUnconfirmed = true ∧ t.tdu = s.tdu ∧
      (s.mcr.mode ≠ .standby → ∃ e ∈ t.rsl, e.source = .junction ∧ e.key = h.junction ∧
        (e.kind = .hold ∨ ∃ l, e.kind = .emergency l)) := by
  have gives := State.failAttempt_of_no_retries hq hlt
  refine ⟨_, rfl, State.failAttempt_gives_up hq hlt, ?_⟩
  rw [gives]
  exact ⟨State.makeUnconfirmed_tlk _ _, State.makeUnconfirmed_isSet _ _,
    ((State.Routes.refl (s.failed h rest)).makeUnconfirmed _).same.tdu,
    fun hm => State.makeUnconfirmed_holds (s := s.failed h rest) hm _⟩

/-- Settles O31: the transmission's end, the hand-over, the attempt and its failure, the timer, the two buttons. -/
theorem requestsAreSentAndRetried : Obligations.RequestsAreSentAndRetried := by
  refine ⟨fun s r => requestTransmissionEnd_spec,
    fun k r => ⟨fun hk => k.handOver_of_listen hk r, fun hk => k.handOver_of_busy hk r⟩,
    fun s h rest d hq => ⟨State.startAttempt_eq hq, State.failAttempt_spec_of_retries hq,
      State.failAttempt_spec_of_no_retries hq⟩,
    fun s => ⟨fun hi => ?_, fun ha hm hr => ?_⟩,
    fun s d => ⟨State.routeButton_of_idle, fun h rest hm hq => ⟨fun ht => ?_, fun ht => ?_⟩⟩,
    fun s => ⟨State.proceedPress_of_none, fun l1 x l2 => State.proceedPress_of_first⟩⟩
  · refine exec_attemptTimerExpiry_of_not_expires fun he => ?_
    obtain ⟨ha, hm, hr⟩ := s.attemptExpires_iff.mp he
    obtain h | ⟨hs, hh⟩ | h := hi
    · exact ha h
    · exact hm.elim hs hh
    · exact hr h
  · exact exec_attemptTimerExpiry_of_expires (s.attemptExpires_iff.mpr ⟨ha, hm, hr⟩)
  · rw [State.routeButton_of_takes hm hq ht, State.startAttempt_eq (s := s.withQueue _) rfl rfl]
    rfl
  · refine State.routeButton_of_not_takes hq ?_
    obtain h | h | h | ⟨h, hdir⟩ := ht <;> simp [Transaction.takesButton, h]
    exact hdir

end Sys2Proof.Machine
end

section
/-! SUPPORT. Transactions treated one after another in queue order (R117, R122, R123): what becomes of the queue, and
what treating the other junctions leaves of one junction's restriction. -/

namespace Sys2Proof.Machine

variable {s t u : State} {x y : Transaction} {l l1 l2 : List Transaction} {e : Restriction} {src : Source}
variable {key j : Half} {f : State → Transaction → State} {r : Transaction → Option Transaction}

/-! ### The queue (R102) -/

/-- Treating a transaction leaves in its place in the queue what `r` says becomes of it. -/
def LeavesInPlace (f : State → Transaction → State) (r : Transaction → Option Transaction) : Prop :=
  ∀ (u : State) (x : Transaction) (l1 l2 : List Transaction), u.rtu.queue = l1 ++ x :: l2 →
    (∀ y ∈ l1, y.junction ≠ x.junction) → (f u x).rtu.queue = l1 ++ ((r x).toList ++ l2)

/-- What becomes of a transaction is none or one of its junction. -/
def KeepsJunction (r : Transaction → Option Transaction) : Prop := ∀ x, ∀ y ∈ r x, y.junction = x.junction

theorem KeepsJunction.sublist (hr : KeepsJunction r) :
    ∀ l : List Transaction, (junctionIds (l.filterMap r)).Sublist (junctionIds l)
  | [] => .slnil
  | x :: l => by
    cases hx : r x with
    | none =>
      rw [List.filterMap_cons_none hx]
      exact (hr.sublist l).cons _
    | some y =>
      rw [List.filterMap_cons_some hx]
      simpa [hr x y hx] using hr.sublist l

/-- In a queue of distinct junctions no earlier transaction has the junction of a later one. -/
theorem ne_junction_of_nodup (hd : (junctionIds (l1 ++ x :: l2)).Nodup) :
    (∀ y ∈ l1, y.junction ≠ x.junction) ∧ ∀ y ∈ l2, y.junction ≠ x.junction := by
  rw [junctionIds, List.map_append, List.map_cons, List.nodup_middle, ← List.map_append] at hd
  have hx := (List.nodup_cons.mp hd).1
  exact ⟨fun y hy heq => hx (heq ▸ List.mem_map_of_mem (List.mem_append_left _ hy)),
    fun y hy heq => hx (heq ▸ List.mem_map_of_mem (List.mem_append_right _ hy))⟩

/-- When all that follow in the queue are treated, the queue is what becomes of them. -/
theorem LeavesInPlace.queue_foldl (hf : LeavesInPlace f r) (hr : KeepsJunction r) :
    ∀ (l l1 : List Transaction) {s : State}, s.rtu.queue = l1 ++ l → (junctionIds (l1 ++ l)).Nodup →
      (l.foldl f s).rtu.queue = l1 ++ l.filterMap r
  | [], _, _, hq, _ => hq
  | x :: l, l1, s, hq, hd => by
    have hx : (f s x).rtu.queue = (l1 ++ (r x).toList) ++ l := by
      rw [List.append_assoc]
      exact hf s x l1 l hq (ne_junction_of_nodup hd).1
    have one : (junctionIds (r x).toList).Sublist [x.junction] := by
      cases hrx : r x with
      | none => exact List.nil_sublist _
      | some y => simp [hr x y hrx]
    have hd' : (junctionIds ((l1 ++ (r x).toList) ++ l)).Nodup := by
      refine List.Nodup.sublist ?_ hd
      rw [List.append_assoc, junctionIds, List.map_append, List.map_append, junctionIds, List.map_append]
      exact (List.Sublist.refl _).append (one.append (.refl _))
    rw [List.foldl_cons, hf.queue_foldl hr l _ hx hd', List.append_assoc]
    cases hrx : r x with
    | none => rw [List.filterMap_cons_none hrx]; rfl
    | some y => rw [List.filterMap_cons_some hrx]; rfl

theorem makeUnconfirmed_leavesInPlace :
    LeavesInPlace State.makeUnconfirmed fun x => some { x with state := .unconfirmed } := by
  intro u x l1 l2 hq h1
  rw [u.makeUnconfirmed_queue, hq]
  exact updateTransaction_append_cons (y := x) (x := { x with state := .unconfirmed }) rfl h1

theorem eraseP_junction_append_cons (h1 : ∀ y ∈ l1, y.junction ≠ x.junction) :
    (l1 ++ x :: l2).eraseP (·.junction == x.junction) = l1 ++ l2 := by
  rw [List.eraseP_append_right _ (by simpa using h1), List.eraseP_cons_of_pos (by simp)]

theorem removeTransaction_leavesInPlace : LeavesInPlace State.removeTransaction fun _ => none := by
  intro u x l1 l2 hq h1
  rw [u.removeTransaction_rtu, u.dequeued_queue, hq]
  exact eraseP_junction_append_cons h1

/-- A treatment of some transactions, the others left. -/
theorem LeavesInPlace.ite {g : State → Transaction → State} {q : Transaction → Option Transaction}
    {c : Transaction → Prop} [DecidablePred c] (hf : LeavesInPlace f r) (hg : LeavesInPlace g q) :
    LeavesInPlace (fun u x => if c x then f u x else g u x) fun x => if c x then r x else q x := by
  intro u x l1 l2 hq h1
  dsimp only
  split
  · exact hf u x l1 l2 hq h1
  · exact hg u x l1 l2 hq h1

theorem untouched_leavesInPlace : LeavesInPlace (fun u _ => u) some := fun _ _ _ _ hq _ => hq

/-! ### The restriction of one junction (R83, R103) -/

/-- A raise leaves every entry but that of its source and key. -/
theorem State.mem_raise_iff_of_names (he : e.names src key = false) (s : State) (k : Restraint) :
    e ∈ (s.raise src key k).rsl ↔ e ∈ s.rsl := by
  have other {x : Restriction} (hx : x.names src key = true) : e ≠ x := fun h => by
    rw [h, hx] at he
    cases he
  rw [State.raise_rsl]
  split
  · rfl
  · split
    · rw [List.mem_append, List.mem_singleton, or_iff_left]
      exact other ((Restriction.names_iff _ _ _).mpr ⟨rfl, rfl⟩)
    · rename_i x hx
      have hn : x.names src key = true := List.find?_some (p := fun x : Restriction => x.names src key) hx
      split
      · rfl
      · exact mem_replaceFirst_iff (q := fun x : Restriction => x.names src key) he
          (other (x := { x with kind := x.kind.raisedBy k }) hn) _

/-- A lift leaves every entry but that of its source and key. -/
theorem State.mem_lift_iff_of_names (he : e.names src key = false) (s : State) :
    e ∈ (s.lift src key).rsl ↔ e ∈ s.rsl := by
  rw [State.lift_rsl]
  split
  · rfl
  · rename_i x hx
    have hn : x.names src key = true := List.find?_some (p := fun x : Restriction => x.names src key) hx
    split
    · rfl
    · refine mem_replaceFirst_iff (q := fun x : Restriction => x.names src key) he (fun h => ?_) _
      rw [h] at he
      exact Bool.false_ne_true (he.symm.trans hn)
    · exact List.mem_eraseP_of_neg (by simp [he])

/-- A lift takes the entry of its source and key where that is no EMERGENCY (R86). -/
theorem State.not_names_of_mem_lift (hd : (identities s.rsl).Nodup)
    (hc : ∀ e ∈ s.rsl, e.names src key = true → ∀ b, e.kind ≠ .emergency b) :
    ∀ e ∈ (s.lift src key).rsl, ¬ e.names src key = true := by
  intro e he
  rw [State.lift_rsl] at he
  split at he
  · rename_i hnone
    exact List.find?_eq_none.mp hnone e he
  · rename_i x hx
    have calm := hc x (List.mem_of_find?_eq_some hx) (List.find?_some (p := fun x : Restriction => x.names src key) hx)
    split at he
    · exact absurd ‹_› (calm true)
    · exact absurd ‹_› (calm false)
    · exact not_names_of_mem_eraseP hd he

/-- From `s` to `t` the route unit has acted, and the restriction of junction `j` stands as it stood. -/
structure State.SparesJunction (s t : State) (j : Half) : Prop where
  routes : s.Routes t
  keeps : s.Keeps t
  entries : ∀ e, e.names .junction j = true → (e ∈ t.rsl ↔ e ∈ s.rsl)

theorem State.SparesJunction.refl (s : State) (j : Half) : s.SparesJunction s j := ⟨.refl s, .refl s, fun _ _ => .rfl⟩

theorem State.SparesJunction.trans (h : s.SparesJunction t j) (k : t.SparesJunction u j) : s.SparesJunction u j :=
  ⟨h.routes.trans k.routes, h.keeps.trans k.keeps, fun e he => (k.entries e he).trans (h.entries e he)⟩

theorem State.SparesJunction.mode (h : s.SparesJunction t j) : t.mcr.mode = s.mcr.mode :=
  congrArg Control.mode h.routes.same.mcr

/-- A flag that is set stays set. -/
theorem State.Routes.isSet (h : s.Routes t) {f : Flag} (hf : s.efn.isSet f = true) : t.efn.isSet f = true :=
  State.flagsKept_iff.mp h.flags _ hf

/-- An entry of one junction is none of another's. -/
theorem Restriction.names_of_ne (he : e.names src j = true) (hne : key ≠ j) :
    e.names src key = false :=
  Bool.eq_false_iff.mpr fun h => hne (((e.names_iff _ _).mp h).2.symm.trans ((e.names_iff _ _).mp he).2)

theorem State.sparesJunction_makeUnconfirmed (u : State) (hx : x.junction ≠ j) :
    u.SparesJunction (u.makeUnconfirmed x) j where
  routes := (State.Routes.refl u).makeUnconfirmed x
  keeps := (State.Keeps.refl u).makeUnconfirmed x
  entries := fun e he => by
    rw [u.makeUnconfirmed_eq, State.setFlag_rsl]
    exact State.mem_raise_iff_of_names (Restriction.names_of_ne he hx) (u.unconfirming x) .hold

theorem State.sparesJunction_removeTransaction (u : State) (hx : x.junction ≠ j) :
    u.SparesJunction (u.removeTransaction x) j where
  routes := (State.Routes.refl u).removeTransaction x
  keeps := (State.Keeps.refl u).removeTransaction x
  entries := fun e he => by
    rw [u.removeTransaction_eq]
    split
    · rw [State.mem_lift_iff_of_names (Restriction.names_of_ne he hx), u.dequeued_rsl]
    · rw [u.dequeued_rsl]

/-- Treating a transaction leaves the restrictions of the other junctions. -/
def SparesOthers (f : State → Transaction → State) : Prop :=
  ∀ (u : State) (x : Transaction) (j : Half), x.junction ≠ j → u.SparesJunction (f u x) j

theorem SparesOthers.foldl (hf : SparesOthers f) :
    ∀ (l : List Transaction) (s : State), (∀ y ∈ l, y.junction ≠ j) → s.SparesJunction (l.foldl f s) j
  | [], s, _ => .refl s j
  | x :: l, s, h => by
    obtain ⟨hx, hl⟩ := List.forall_mem_cons.mp h
    exact (hf s x j hx).trans (hf.foldl l (f s x) hl)

/-- Of distinct junctions treated one after another each is treated once, and what is done before and after that leaves
its restriction. -/
theorem SparesOthers.exists_treated (hf : SparesOthers f) (hd : (junctionIds l).Nodup) (hx : x ∈ l) (s : State) :
    ∃ u, s.SparesJunction u x.junction ∧ (f u x).SparesJunction (l.foldl f s) x.junction := by
  obtain ⟨l1, l2, rfl⟩ := List.append_of_mem hx
  obtain ⟨h1, h2⟩ := ne_junction_of_nodup hd
  rw [List.foldl_append, List.foldl_cons]
  exact ⟨_, hf.foldl l1 s h1, hf.foldl l2 _ h2⟩

/-- An entry of a transaction's junction stands only where the transaction places one, and is no EMERGENCY (R83,
R103). -/
def State.PlacedBy (s : State) (x : Transaction) : Prop :=
  ∀ e ∈ s.rsl, e.names .junction x.junction = true → x.places = true ∧ ∀ b, e.kind ≠ .emergency b

theorem State.JunctionsMirrored.placedBy (h : s.JunctionsMirrored) (hx : x ∈ s.rtu.queue) : s.PlacedBy x := by
  obtain ⟨hplaced, hqueued⟩ := h
  intro e he hn
  refine ⟨?_, (hqueued e he ((e.names_iff _ _).mp hn).1).2⟩
  rw [← x.isSome_restraint s.rtu.items, hplaced x hx, findRestriction, List.find?_isSome]
  exact ⟨e, he, hn⟩

/-- A removal takes the junction's restriction (R118). -/
theorem State.not_names_of_mem_removeTransaction (hd : (identities s.rsl).Nodup) (hp : s.PlacedBy x) :
    ∀ e ∈ (s.removeTransaction x).rsl, ¬ e.names .junction x.junction = true := by
  intro e he hn
  have hl := s.dequeued_rsl x
  rw [s.removeTransaction_eq] at he
  split at he
  · exact State.not_names_of_mem_lift (hl ▸ hd) (fun y hy hyn => (hp y (hl ▸ hy) hyn).2) e he hn
  · exact absurd (hp e (hl ▸ he) hn).1 ‹_›

/-- A junction that is removed among distinct others has no restriction after all are treated. -/
theorem SparesOthers.not_names_of_removed (hf : SparesOthers f) (hd : (junctionIds l).Nodup) (hx : x ∈ l)
    (ho : (identities s.rsl).Nodup) (hp : s.PlacedBy x) (hfx : ∀ u, f u x = u.removeTransaction x) :
    ∀ e ∈ (l.foldl f s).rsl, ¬ e.names .junction x.junction = true := by
  intro e he hn
  obtain ⟨u, before, after⟩ := hf.exists_treated hd hx s
  rw [hfx] at after
  refine State.not_names_of_mem_removeTransaction (before.keeps.rsl ho) (fun y hy hyn => ?_) e
    ((after.entries e hn).mp he) hn
  exact hp y ((before.entries y hyn).mp hy) hyn

end Sys2Proof.Machine
end

section
/-! SUPPORT. What the track link hands the route unit (R110, R112 to R114, R116, R123), with the statement about it. -/

namespace Sys2Proof.Machine

variable {s t : State} {h x : Transaction} {rest : List Transaction} {d : PointDir} {q : Byte} {j tram : Half}
variable {c : ConfirmState}

/-! ### A CONFIRM (R112, R113) -/

theorem State.deliverTelegram_of_not_routing (hm : s.mcr.mode.routing = false) (m : Telegram) :
    s.deliverTelegram m = s := by
  unfold State.deliverTelegram
  rw [hm]
  rfl

theorem State.deliverTelegram_confirm (hm : s.mcr.mode.routing = true) :
    s.deliverTelegram (.confirm j tram q d c) = s.confirm j tram q d c := by
  rw [State.deliverTelegram, hm]
  rfl

theorem State.confirm_of_unaddressed (hi : tram ≠ s.rtu.items.tramNumber ∨ s.rtu.queue = []) :
    s.confirm j tram q d c = s := by
  unfold State.confirm
  obtain ht | hq := hi
  · exact if_pos ht
  · rw [hq]
    exact ite_self s

/-- The tests of R112 that name the head, in their order. -/
theorem State.confirm_of_head (ht : tram = s.rtu.items.tramNumber) (hq : s.rtu.queue = h :: rest) :
    s.confirm j tram q d c =
      if h.junction ≠ j then s
      else if h.lastSeq ≠ some q then s.setFlag .lateConfirm
      else if h.state ≠ .requesting then s
      else s.actOnConfirm h d c := by
  rw [State.confirm, if_neg (not_not_intro ht), hq]

theorem State.confirm_of_late (ht : tram = s.rtu.items.tramNumber) (hq : s.rtu.queue = h :: rest) (hj : h.junction = j)
    (hs : h.lastSeq ≠ some q) : s.confirm j tram q d c = s.setFlag .lateConfirm := by
  rw [State.confirm_of_head ht hq, if_neg (not_not_intro hj), if_pos hs]

theorem State.confirm_of_closed (ht : tram = s.rtu.items.tramNumber) (hq : s.rtu.queue = h :: rest)
    (hj : h.junction = j) (hs : h.lastSeq = some q) (hr : h.state ≠ .requesting) : s.confirm j tram q d c = s := by
  rw [State.confirm_of_head ht hq, if_neg (not_not_intro hj), if_neg (not_not_intro hs), if_pos hr]

theorem State.confirm_of_open (ht : tram = s.rtu.items.tramNumber) (hq : s.rtu.queue = h :: rest) (hj : h.junction = j)
    (hs : h.lastSeq = some q) (hr : h.state = .requesting) : s.confirm j tram q d c = s.actOnConfirm h d c := by
  rw [State.confirm_of_head ht hq, if_neg (not_not_intro hj), if_neg (not_not_intro hs), if_neg (not_not_intro hr)]

theorem State.actOnConfirm_locked (hq : s.rtu.queue = h :: rest) (hd : h.dir = some d) :
    s.actOnConfirm h d .setLocked =
      (s.withRtu { s.rtu with queue := { h with state := .confirmed } :: rest, attempt := none }).lift
        .junction h.junction := by
  unfold State.actOnConfirm
  dsimp only
  rw [if_pos hd, hq, updateTransaction_head (h := h) (x := { h with state := .confirmed }) rfl]
  rfl

theorem State.actOnConfirm_locked_elsewhere (hd : h.dir ≠ some d) : s.actOnConfirm h d .setLocked = s.failAttempt :=
  if_neg hd

/-! ### A CONFIRM together with the expiry (R114) -/

/-- The expiry that a CONFIRM has come before: the timer has been stopped, or restarted at this moment (R114). -/
theorem State.not_expires_of_confirmed (hq : s.rtu.queue = h :: rest) (ha : s.rtu.attempt ≠ none)
    (hc : c = .setMoving ∨ c = .setLocked ∧ h.dir = some d) : ¬ (s.actOnConfirm h d c).attemptExpires = true := by
  intro he
  obtain ⟨hrun, -, hre⟩ := State.attemptExpires_iff _ |>.mp he
  obtain rfl | ⟨rfl, hd⟩ := hc
  · change s.startAttemptTimer.rtu.restartedAt ≠ _ at hre
    rw [State.actOnConfirm, State.startAttemptTimer_eq, if_neg ha] at hre
    exact hre rfl
  · rw [State.actOnConfirm_locked hq hd, State.lift_rtu] at hrun
    exact hrun rfl

/-- A CONFIRM that comes after the expiry: late for the REQUEST sent again, or ignored with the head UNCONFIRMED. -/
theorem State.confirm_after_failAttempt (hq : s.rtu.queue = h :: rest) (hs : h.lastSeq = some q) :
    (h.attempts + 1 ≤ s.rtu.items.shortRetries → h.dir ≠ none → q ≠ s.rtu.seq + 1 →
      s.failAttempt.confirm h.junction s.rtu.items.tramNumber q d c = s.failAttempt.setFlag .lateConfirm) ∧
    (s.rtu.items.shortRetries < h.attempts + 1 →
      s.failAttempt.confirm h.junction s.rtu.items.tramNumber q d c = s.failAttempt) := by
  refine ⟨fun hle hdir hne => ?_, fun hlt => ?_⟩
  · obtain ⟨p, hp⟩ := Option.ne_none_iff_exists'.mp hdir
    obtain ⟨t, ht, hrtu, -⟩ := State.failAttempt_spec_of_retries hq hle hp
    rw [ht]
    exact State.confirm_of_late (h := { h with
        attempts := h.attempts + 1, lastSeq := some (s.rtu.seq + 1), state := .requesting }) (rest := rest)
      (by rw [hrtu]) (by rw [hrtu]) rfl fun hq => hne (Option.some.inj hq).symm
  · have hrtu := State.failAttempt_gives_up hq hlt
    exact State.confirm_of_closed (h := { h with attempts := h.attempts + 1, state := .unconfirmed }) (rest := rest)
      (by rw [hrtu]) (by rw [hrtu]) rfl hs TxState.noConfusion

theorem State.failAttempt_mcr (s : State) : s.failAttempt.mcr = s.mcr := State.mcr_of_cab s.cab_failAttempt

/-! ### The FAULT report (R123) -/

/-- A transaction that the FAULT report closes (R123). -/
def Transaction.isOpen (x : Transaction) : Bool := x.state == .announced || x.state == .requesting

theorem Transaction.isOpen_iff (x : Transaction) :
    x.isOpen = true ↔ x.state = .announced ∨ x.state = .requesting := by
  simp [Transaction.isOpen]

/-- What the FAULT report does to one transaction (R123). -/
def State.faultTransaction (s : State) (x : Transaction) : State := if x.isOpen then s.makeUnconfirmed x else s

theorem State.linkFaulted_of_not_routing (hm : s.mcr.mode.routing = false) : s.linkFaulted = s := by
  rw [State.linkFaulted, hm]
  rfl

theorem State.linkFaulted_of_routing (hm : s.mcr.mode.routing = true) :
    s.linkFaulted = s.rtu.queue.foldl State.faultTransaction s := by
  rw [State.linkFaulted, hm]
  exact List.foldl_filter

theorem faultTransaction_leavesInPlace : LeavesInPlace State.faultTransaction fun x =>
    if x.isOpen = true then some { x with state := .unconfirmed } else some x :=
  makeUnconfirmed_leavesInPlace.ite (c := fun x => x.isOpen = true) untouched_leavesInPlace

theorem faultTransaction_sparesOthers : SparesOthers State.faultTransaction := by
  intro u x j hx
  unfold State.faultTransaction
  split
  · exact u.sparesJunction_makeUnconfirmed hx
  · exact .refl u j

/-- The queue after the FAULT report. -/
theorem State.linkFaulted_queue (hm : s.mcr.mode.routing = true) (hd : (junctionIds s.rtu.queue).Nodup) :
    s.linkFaulted.rtu.queue = s.rtu.queue.map (fun x =>
      if x.state = .announced ∨ x.state = .requesting then { x with state := .unconfirmed } else x) := by
  have keeps : KeepsJunction fun x => if x.isOpen = true then some { x with state := .unconfirmed } else some x := by
    intro x y hy
    dsimp only at hy
    split at hy <;> obtain rfl := Option.some.inj hy <;> rfl
  rw [State.linkFaulted_of_routing hm, faultTransaction_leavesInPlace.queue_foldl keeps s.rtu.queue [] rfl hd,
    List.nil_append, ← List.filterMap_eq_map]
  congr 1
  funext x
  simp only [Function.comp_apply, Transaction.isOpen_iff, apply_ite some]

/-- An open head's attempt timer is stopped, and none starts again. -/
theorem State.linkFaulted_attempt (hm : s.mcr.mode.routing = true) (hq : s.rtu.queue = h :: rest)
    (ho : h.isOpen = true) : s.linkFaulted.rtu.attempt = none := by
  have stays (u : State) (x : Transaction) (hu : u.rtu.attempt = none) : (u.faultTransaction x).rtu.attempt = none := by
    unfold State.faultTransaction
    split
    · rw [u.makeUnconfirmed_rtu, hu]
      exact ite_self none
    · exact hu
  have stopped : (s.faultTransaction h).rtu.attempt = none := by
    have head : s.rtu.isHead h.junction = true := by simp [RouteUnit.isHead, hq]
    rw [State.faultTransaction, if_pos ho, s.makeUnconfirmed_rtu]
    exact if_pos head
  rw [State.linkFaulted_of_routing hm, hq, List.foldl_cons]
  exact List.foldlRecOn rest State.faultTransaction (motive := fun u => u.rtu.attempt = none) stopped
    fun u hu x _ => stays u x hu

/-- An open transaction's restriction is a HOLD, and the flag is set (R116, R123). -/
theorem State.linkFaulted_holds (hm : s.mcr.mode.routing = true) (hd : (junctionIds s.rtu.queue).Nodup)
    (hx : x ∈ s.rtu.queue) (ho : x.isOpen = true) : s.linkFaulted.efn.isSet .jnUnconfirmed = true ∧
      ∃ e ∈ s.linkFaulted.rsl, e.source = .junction ∧ e.key = x.junction ∧
        (e.kind = .hold ∨ ∃ l, e.kind = .emergency l) := by
  rw [State.linkFaulted_of_routing hm]
  obtain ⟨u, before, after⟩ := faultTransaction_sparesOthers.exists_treated hd hx s
  rw [State.faultTransaction, if_pos ho] at after
  have hmode : u.mcr.mode ≠ .standby := by
    rw [before.mode]
    exact State.ne_standby_of_routing (by simp [hm])
  obtain ⟨e, he, hsrc, hkey, hkind⟩ := u.makeUnconfirmed_holds hmode x
  have stands := (after.entries e ((e.names_iff _ _).mpr ⟨hsrc, hkey⟩)).mpr he
  exact ⟨after.routes.isSet (u.makeUnconfirmed_isSet x), e, stands, hsrc, hkey, hkind⟩

theorem State.linkFaulted_tlk (s : State) : s.linkFaulted.tlk = s.tlk := by
  unfold State.linkFaulted
  split
  · rfl
  · exact List.foldlRecOn _ State.makeUnconfirmed (motive := fun u => u.tlk = s.tlk) rfl
      fun u hu x _ => (u.makeUnconfirmed_tlk x).trans hu

theorem State.routes_linkFaulted (s : State) : s.Routes s.linkFaulted :=
  (State.Routes.refl s).ite (State.Routes.foldl (fun u x => (State.Routes.refl u).makeUnconfirmed x) _ (.refl s))

/-! ### The statement -/

/-- The second clause of O30: a CONFIRM by the first test of R112 that it fails, or by its state (R113). -/
theorem State.deliverTelegram_confirm_spec (s : State) (j tram : Half) (q : Byte) (d : PointDir) (c : ConfirmState) :
    (s.mcr.mode.routing = false ∨ tram ≠ s.rtu.items.tramNumber ∨ s.rtu.queue = [] →
      s.deliverTelegram (.confirm j tram q d c) = s) ∧
    (∀ h rest, s.mcr.mode.routing = true → tram = s.rtu.items.tramNumber → s.rtu.queue = h :: rest →
      (h.junction ≠ j → s.deliverTelegram (.confirm j tram q d c) = s) ∧
      (h.junction = j → h.lastSeq ≠ some q → s.deliverTelegram (.confirm j tram q d c) = s.setFlag .lateConfirm) ∧
      (h.junction = j → h.lastSeq = some q → h.state ≠ .requesting → s.deliverTelegram (.confirm j tram q d c) = s) ∧
      (h.junction = j → h.lastSeq = some q → h.state = .requesting →
        s.deliverTelegram (.confirm j tram q d c) = s.actOnConfirm h d c)) := by
  refine ⟨fun hi => ?_, fun h rest hm ht hq => ?_⟩
  · by_cases hm : s.mcr.mode.routing = true
    · rw [State.deliverTelegram_confirm hm]
      exact State.confirm_of_unaddressed (hi.resolve_left (by simp [hm]))
    · exact State.deliverTelegram_of_not_routing (Bool.eq_false_iff.mpr hm) _
  · rw [State.deliverTelegram_confirm hm]
    refine ⟨fun hj => ?_, State.confirm_of_late ht hq, State.confirm_of_closed ht hq, State.confirm_of_open ht hq⟩
    rw [State.confirm_of_head ht hq, if_pos hj]

theorem Mode.routing_of_driving {m : Mode} (h : m = .service ∨ m = .holdPending) : m.routing = true := by
  obtain rfl | rfl := h <;> rfl

/-- Settles O30: the report, the CONFIRM, the CONFIRM with the expiry, the FAULT report. -/
theorem reportStartsAttemptTimer : Obligations.ReportStartsAttemptTimer := by
  refine ⟨fun s q => ⟨fun h rest hq hm hr hs => ?_, State.requestSent_of_other, State.requestSent_of_not_routing⟩,
    fun s j tram q d c => ?_, fun s m q d c h rest hm hq hr hs ha hc => ?_,
    fun s => ⟨State.linkFaulted_of_not_routing, fun hm hdist => ?_⟩⟩
  · rw [State.requestSent_of_head hq hm hr hs, State.startAttemptTimer_eq]
  · obtain ⟨ignored, tested⟩ := s.deliverTelegram_confirm_spec j tram q d c
    refine ⟨ignored, fun h rest hm ht hq => ?_⟩
    obtain ⟨other, late, closed, acted⟩ := tested h rest hm ht hq
    refine ⟨other, late, closed, fun hj hs hr => ?_⟩
    rw [acted hj hs hr]
    subst hj
    refine ⟨fun hc hd => ?_, fun hc hd => ?_, fun hc => ?_, fun hc => ?_⟩ <;> subst hc
    · exact State.actOnConfirm_locked hq hd
    · exact State.actOnConfirm_locked_elsewhere hd
    · exact s.startAttemptTimer_eq
    · exact State.makeUnconfirmed_head hq
  · subst hc
    have hroute := Mode.routing_of_driving hm
    refine ⟨fun hc => ?_, fun hre => ?_⟩
    · rw [State.deliverTelegram_confirm hroute, State.confirm_of_open rfl hq rfl hs hr]
      exact exec_attemptTimerExpiry_of_not_expires (State.not_expires_of_confirmed hq ha hc)
    · refine ⟨_, exec_attemptTimerExpiry_of_expires (s.attemptExpires_iff.mpr ⟨ha, hm, hre⟩), rfl, ?_⟩
      rw [State.deliverTelegram_confirm (by rw [s.failAttempt_mcr]; exact hroute)]
      exact State.confirm_after_failAttempt hq hs
  · obtain ⟨-, -, -, hd, -⟩ := hdist
    have routes := s.routes_linkFaulted.same
    refine ⟨_, rfl, State.linkFaulted_queue hm hd,
      fun h rest hq ho => State.linkFaulted_attempt hm hq (h.isOpen_iff.mpr ho),
      fun x hx ho => State.linkFaulted_holds hm hd hx (x.isOpen_iff.mpr ho), s.linkFaulted_tlk, ?_⟩
    exact ⟨routes.tdu, routes.sru, routes.ssq, routes.mcr⟩

end Sys2Proof.Machine
end

section
/-! SUPPORT. How junctions come and go: the lookup (R99), an APPROACH (R105 to R108), a CLEAR (R118, R119), a period's
distance (R117) and a reversal (R122), with the statement about them. -/

namespace Sys2Proof.Machine

variable {s t u : State} {x y : Transaction} {l1 l2 q : List Transaction} {r : RouteUnit} {j : Half} {n d : Nat}
variable {old : Option Half}

/-! ### The lookup (R99, R107, R108) -/

theorem RouteUnit.lookup_of_first {i : Nat} {e : RouteEntry} (he : r.active[i]? = some e)
    (hc : e.covers j r.routeNumber = true)
    (hf : ∀ (k : Nat) (x : RouteEntry), k < i → r.active[k]? = some x → x.covers j r.routeNumber = false) :
    r.lookup j = some (i, e) := by
  obtain ⟨hi, he⟩ := List.getElem?_eq_some_iff.mp he
  have found : r.active.zipIdx.find? (fun (e, _) => e.covers j r.routeNumber) = some (e, i) := by
    refine List.find?_eq_some_iff_getElem.mpr ⟨hc, i, by simpa using hi, by simp [he], fun k hk => ?_⟩
    have hlt : k < r.active.length := hk.trans hi
    simp [hf k r.active[k] hk (List.getElem?_eq_getElem hlt)]
  rw [RouteUnit.lookup, found]
  rfl

theorem RouteUnit.lookup_of_none (hn : ∀ e ∈ r.active, e.covers j r.routeNumber = false) : r.lookup j = none := by
  have missed : r.active.zipIdx.find? (fun (e, _) => e.covers j r.routeNumber) = none :=
    List.find?_eq_none.mpr fun p hp => by simp [hn p.1 (List.fst_mem_of_mem_zipIdx hp)]
  rw [RouteUnit.lookup, missed]
  rfl

theorem RouteUnit.newTransaction_of_entry {i : Nat} {e : RouteEntry} (hl : r.lookup j = some (i, e)) :
    r.newTransaction j n = ⟨j, some i, e.dir, .table, (if e.dir.isSome then .announced else .notRequired), 0, none,
      (n : Int) * 1000, e.confirm, e.clearance, e.cap⟩ := by
  rw [RouteUnit.newTransaction, hl]
  rfl

theorem RouteUnit.newTransaction_of_none (hl : r.lookup j = none) :
    r.newTransaction j n = ⟨j, none, none, .manual,
      (match r.items.noMatch with | .pass => .notRequired | .manual => .awaitDriver), 0, none, (n : Int) * 1000, 0,
      r.items.defaultClearance, r.items.defaultCap⟩ := by
  rw [RouteUnit.newTransaction, hl]
  rfl

theorem State.autoBell_of_entry {i : Nat} {e : RouteEntry} (hl : s.rtu.lookup j = some (i, e)) :
    s.autoBell j = if e.dir.isSome && e.autoBell then s.soundRequest .bell ⟨e.pattern, .route, 1⟩ else s := by
  rw [State.autoBell, hl]

theorem State.autoBell_of_none (hl : s.rtu.lookup j = none) : s.autoBell j = s := by
  rw [State.autoBell, hl]

/-- The states in which a transaction is appended (R107). -/
theorem RouteUnit.newTransaction_state (r : RouteUnit) (j : Half) (n : Nat) :
    (r.newTransaction j n).state = .announced ∨ (r.newTransaction j n).state = .awaitDriver ∨
      (r.newTransaction j n).state = .notRequired := by
  cases hl : r.lookup j with
  | some p =>
    rw [RouteUnit.newTransaction_of_entry hl]
    cases p.2.dir <;> simp
  | none =>
    rw [RouteUnit.newTransaction_of_none hl]
    cases r.items.noMatch <;> simp

/-! ### An APPROACH (R105 to R107) -/

theorem findTransaction_of_first (hx : x.junction = j) (h1 : ∀ y ∈ l1, y.junction ≠ j) :
    findTransaction (l1 ++ x :: l2) j = some x := by
  rw [findTransaction, List.find?_append, List.find?_eq_none.mpr fun y hy => by simpa using h1 y hy, Option.none_or,
    List.find?_cons_of_pos (by simpa using hx)]

theorem findTransaction_of_none (hn : ∀ y ∈ q, y.junction ≠ j) : findTransaction q j = none :=
  List.find?_eq_none.mpr fun y hy => by simpa using hn y hy

theorem State.deliverTelegram_approach (hm : s.mcr.mode.routing = true) :
    s.deliverTelegram (.approach j n) = s.approach j n := by
  unfold State.deliverTelegram
  rw [hm]
  rfl

theorem State.approach_of_queued (hq : s.rtu.queue = l1 ++ x :: l2) (hx : x.junction = j)
    (h1 : ∀ y ∈ l1, y.junction ≠ j) : s.approach j n =
      s.withRtu { s.rtu with queue := l1 ++ { x with remaining := (n : Int) * 1000 } :: l2 } := by
  subst hx
  rw [State.approach, hq, findTransaction_of_first rfl h1]
  dsimp only
  rw [updateTransaction_append_cons (y := x) (x := { x with remaining := millimetres n }) rfl h1]
  rfl

theorem State.approach_of_full (hn : ∀ y ∈ s.rtu.queue, y.junction ≠ j) (hf : 4 ≤ s.rtu.queue.length) :
    s.approach j n = s.refuseApproach := by
  rw [State.approach, findTransaction_of_none hn]
  exact if_neg (Nat.not_lt.mpr hf)

theorem State.approach_of_room (hn : ∀ y ∈ s.rtu.queue, y.junction ≠ j) (hf : s.rtu.queue.length < 4) :
    s.approach j n = s.announce j n := by
  rw [State.approach, findTransaction_of_none hn]
  exact if_pos hf

/-- A new transaction is appended with a CAP where its state places one (R103, R107). -/
theorem State.appended_eq (hx : x.state = .announced ∨ x.state = .awaitDriver ∨ x.state = .notRequired) :
    s.appended j x =
      if x.state = .announced ∨ x.state = .awaitDriver then
        (s.withRtu { s.rtu with queue := s.rtu.queue ++ [x] }).raise .junction j (.cap x.cap)
      else s.withRtu { s.rtu with queue := s.rtu.queue ++ [x] } := by
  unfold State.appended Transaction.restraint
  obtain h | h | h := hx <;> simp only [h]
  all_goals rfl

theorem State.announce_of_first (ha : (s.rtu.newTransaction j n).state = .announced) (hq : s.rtu.queue = []) :
    s.announce j n = ((s.appended j (s.rtu.newTransaction j n)).autoBell j).startAttempt := by
  rw [s.announce_eq]
  exact if_pos (by simp [ha, hq])

theorem State.announce_of_later (ha : (s.rtu.newTransaction j n).state ≠ .announced ∨ s.rtu.queue ≠ []) :
    s.announce j n = (s.appended j (s.rtu.newTransaction j n)).autoBell j := by
  rw [s.announce_eq]
  refine if_neg fun hc => ?_
  simp only [Bool.and_eq_true, List.isEmpty_iff, decide_eq_true_eq] at hc
  exact ha.elim (· hc.2) (· hc.1)

/-! ### After removals (R106, R118) -/

theorem State.liftRoute_eq (s : State) : s.liftRoute =
    if s.rtu.mark = true ∧ s.rtu.queue.length < 4 then (s.withRtu { s.rtu with mark := false }).lift .route 0
    else s := by
  unfold State.liftRoute
  simp only [Bool.and_eq_true, decide_eq_true_eq]
  rfl

theorem State.liftRoute_rtu (s : State) : s.liftRoute.rtu =
    { s.rtu with mark := if s.rtu.mark = true ∧ s.rtu.queue.length < 4 then false else s.rtu.mark } := by
  rw [s.liftRoute_eq]
  split
  · rw [State.lift_rtu]
    rfl
  · rfl

/-- ROUTE is lifted, and no entry of another source. -/
theorem State.mem_liftRoute_iff {e : Restriction} (he : e.source ≠ .route) (s : State) :
    e ∈ s.liftRoute.rsl ↔ e ∈ s.rsl := by
  rw [s.liftRoute_eq]
  split
  · exact State.mem_lift_iff he _ 0
  · rfl

theorem State.afterRemoval_of_new_head {h : Transaction} {rest : List Transaction} (hq : s.rtu.queue = h :: rest)
    (ha : h.state = .announced) (hn : old ≠ some h.junction) : s.afterRemoval old = s.liftRoute.startAttempt := by
  unfold State.afterRemoval
  dsimp only
  rw [s.liftRoute_rtu]
  dsimp only
  rw [hq]
  exact if_pos ⟨ha, hn⟩

theorem State.afterRemoval_of_other
    (ho : ∀ h rest, s.rtu.queue = h :: rest → ¬ (h.state = .announced ∧ old ≠ some h.junction)) :
    s.afterRemoval old = s.liftRoute := by
  unfold State.afterRemoval
  dsimp only
  rw [s.liftRoute_rtu]
  dsimp only
  split
  · rfl
  · rename_i h rest hq
    exact if_neg (ho h rest hq)

/-- From `s` to `t` the removals have had their effects: the queue is as it was, but that an ANNOUNCED head may have
started its attempt, and so are the JUNCTION entries. -/
structure State.MayStartHead (s t : State) : Prop where
  routes : s.Routes t
  queue : t.rtu.queue = s.rtu.queue ∨ ∃ h rest, s.rtu.queue = h :: rest ∧ h.state = .announced ∧
    t.rtu.queue = { h with lastSeq := some (s.rtu.seq + 1), state := .requesting } :: rest
  entries : ∀ e, e.source = .junction → (e ∈ t.rsl ↔ e ∈ s.rsl)

theorem State.MayStartHead.refl (s : State) : s.MayStartHead s := ⟨.refl s, .inl rfl, fun _ _ => .rfl⟩

theorem State.mayStartHead_liftRoute (s : State) : s.MayStartHead s.liftRoute :=
  ⟨(State.Routes.refl s).liftRoute, .inl (by rw [s.liftRoute_rtu]),
    fun e he => s.mem_liftRoute_iff (by rw [he]; exact Source.noConfusion)⟩

theorem State.mayStartHead_afterRemoval (s : State) (old : Option Half) : s.MayStartHead (s.afterRemoval old) := by
  by_cases hs : ∃ h rest, s.rtu.queue = h :: rest ∧ h.state = .announced ∧ old ≠ some h.junction
  · obtain ⟨h, rest, hq, ha, hn⟩ := hs
    have hlift : s.liftRoute.rtu.queue = h :: rest := by rw [s.liftRoute_rtu]; exact hq
    cases hd : h.dir with
    | none =>
      have idle : s.liftRoute.startAttempt = s.liftRoute := by
        rw [State.startAttempt, hlift]
        simp only [hd]
      rw [State.afterRemoval_of_new_head hq ha hn, idle]
      exact s.mayStartHead_liftRoute
    | some d =>
      rw [State.afterRemoval_of_new_head hq ha hn]
      obtain ⟨hl, -, hqueue, -⟩ := State.startAttempt_of_head hlift hd
      refine ⟨(State.Routes.refl s).liftRoute.startAttempt, .inr ⟨h, rest, hq, ha, ?_⟩, fun e he => ?_⟩
      · rw [hqueue, s.liftRoute_rtu]
      · rw [hl]
        exact s.mayStartHead_liftRoute.entries e he
  · rw [State.afterRemoval_of_other fun h rest hq hc => hs ⟨h, rest, hq, hc⟩]
    exact s.mayStartHead_liftRoute

theorem State.MayStartHead.ids (h : s.MayStartHead t) : junctionIds t.rtu.queue = junctionIds s.rtu.queue := by
  obtain hq | ⟨x, rest, hs, -, ht⟩ := h.queue
  · rw [hq]
  · rw [hs, ht]
    rfl

/-- A transaction stays in the queue, or is the ANNOUNCED head that has started its attempt. -/
theorem State.MayStartHead.mem (h : s.MayStartHead t) (hx : x ∈ s.rtu.queue) :
    x ∈ t.rtu.queue ∨ x.state = .announced ∧ t.rtu.queue.head? =
      some { x with lastSeq := some (s.rtu.seq + 1), state := .requesting } := by
  obtain hq | ⟨y, rest, hs, hy, ht⟩ := h.queue
  · exact .inl (hq ▸ hx)
  · rw [hs] at hx
    obtain rfl | hx := List.mem_cons.mp hx
    · exact .inr ⟨hy, by rw [ht]; rfl⟩
    · exact .inl (by rw [ht]; exact List.mem_cons_of_mem _ hx)

/-! ### A CLEAR (R118, R119) -/

theorem State.deliverTelegram_clear (hm : s.mcr.mode.routing = true) :
    s.deliverTelegram (.clear j) = s.clearJunction j := by
  unfold State.deliverTelegram
  rw [hm]
  rfl

theorem Transaction.places_eq_false_iff (x : Transaction) :
    x.places = false ↔ x.state = .confirmed ∨ x.state = .notRequired := by
  unfold Transaction.places
  cases x.state <;> simp

theorem State.dequeued_eq (hq : s.rtu.queue = l1 ++ x :: l2) (h1 : ∀ y ∈ l1, y.junction ≠ x.junction) :
    s.dequeued x = s.withRtu { s.rtu with
      queue := l1 ++ l2, attempt := if l1 = [] then none else s.rtu.attempt } := by
  unfold State.dequeued
  rw [hq, eraseP_junction_append_cons h1]
  cases l1 with
  | nil => exact if_pos (by simp [RouteUnit.isHead, hq])
  | cons y l1 => exact if_neg (by simpa [RouteUnit.isHead, hq] using h1 y List.mem_cons_self)

/-- A CLEAR of a junction that is queued: its removal, and then what R118 does after it. -/
theorem State.clearJunction_of_queued (hq : s.rtu.queue = l1 ++ x :: l2) (h1 : ∀ y ∈ l1, y.junction ≠ x.junction) :
    s.clearJunction x.junction = (s.removeTransaction x).afterRemoval s.rtu.headId := by
  rw [State.clearJunction, hq, findTransaction_of_first rfl h1]
  rfl

/-- The head after the removal of a transaction is a new one exactly when that was the head. -/
theorem State.afterRemoval_of_cleared {v : State} (hd : (junctionIds (l1 ++ x :: l2)).Nodup)
    (hq : s.rtu.queue = l1 ++ x :: l2) (hv : v.rtu.queue = l1 ++ l2) :
    (l1 = [] → l2.head?.map (·.state) = some .announced → v.afterRemoval s.rtu.headId = v.liftRoute.startAttempt) ∧
    (l1 ≠ [] ∨ l2.head?.map (·.state) ≠ some .announced → v.afterRemoval s.rtu.headId = v.liftRoute) := by
  obtain ⟨-, h2⟩ := ne_junction_of_nodup hd
  refine ⟨fun hl hh => ?_, fun ho => State.afterRemoval_of_other fun h rest hvq hc => ?_⟩
  · subst hl
    cases l2 with
    | nil => cases hh
    | cons h rest =>
      refine State.afterRemoval_of_new_head hv (Option.some.inj hh) ?_
      rw [RouteUnit.headId, hq]
      exact fun heq => h2 h List.mem_cons_self (Option.some.inj heq).symm
  · obtain ⟨ha, hn⟩ := hc
    rw [hv] at hvq
    cases l1 with
    | nil =>
      obtain ho | ho := ho
      · exact ho rfl
      · rw [List.nil_append] at hvq
        exact ho (by rw [hvq]; exact congrArg some ha)
    | cons y l1 =>
      obtain ⟨rfl, -⟩ := List.cons.inj hvq
      exact hn (by rw [RouteUnit.headId, hq]; rfl)

/-! ### A period's distance (R117) -/

/-- A transaction whose remaining distance has been counted down (R117). -/
def Transaction.countedDown (x : Transaction) (d : Nat) : Transaction := { x with remaining := countDown x.remaining d }

/-- What becomes of a transaction that is judged by its distance (R117). -/
def Transaction.judged (x : Transaction) : Option Transaction :=
  if x.isPassed = true then none else if x.pastDeadline = true then some { x with state := .unconfirmed } else some x

/-- The transactions counted down and judged in queue order, before what follows removals (R117). -/
def State.judgedDistance (s : State) (d : Nat) : State :=
  (s.rtu.queue.map (·.countedDown d)).foldl State.judgeDistance (s.withQueue (s.rtu.queue.map (·.countedDown d)))

theorem State.mayStartHead_periodDistance (hm : s.mcr.mode.routing = true) (d : Nat) :
    (s.judgedDistance d).MayStartHead (s.periodDistance d) := by
  unfold State.periodDistance
  rw [hm]
  change State.MayStartHead _ (if _ then (s.judgedDistance d).afterRemoval _ else s.judgedDistance d)
  split
  · exact (s.judgedDistance d).mayStartHead_afterRemoval _
  · exact .refl _

theorem judgeDistance_leavesInPlace : LeavesInPlace State.judgeDistance Transaction.judged :=
  removeTransaction_leavesInPlace.ite (c := fun x => x.isPassed = true)
    (makeUnconfirmed_leavesInPlace.ite (c := fun x => x.pastDeadline = true) untouched_leavesInPlace)

theorem judged_keepsJunction : KeepsJunction Transaction.judged := by
  intro x y hy
  unfold Transaction.judged at hy
  split at hy
  · cases hy
  · split at hy <;> obtain rfl := Option.some.inj hy <;> rfl

theorem judgeDistance_sparesOthers : SparesOthers State.judgeDistance := by
  intro u x j hx
  unfold State.judgeDistance
  split
  · exact u.sparesJunction_removeTransaction hx
  · split
    · exact u.sparesJunction_makeUnconfirmed hx
    · exact .refl u j

theorem junctionIds_countedDown (q : List Transaction) (d : Nat) :
    junctionIds (q.map (·.countedDown d)) = junctionIds q := by
  rw [junctionIds, List.map_map]
  rfl

theorem State.judgedDistance_queue (hd : (junctionIds s.rtu.queue).Nodup) (d : Nat) :
    (s.judgedDistance d).rtu.queue = (s.rtu.queue.map (·.countedDown d)).filterMap Transaction.judged :=
  judgeDistance_leavesInPlace.queue_foldl judged_keepsJunction _ [] rfl (by
    rw [List.nil_append, junctionIds_countedDown]
    exact hd)

theorem State.removeTransaction_seq (s : State) (x : Transaction) : (s.removeTransaction x).rtu.seq = s.rtu.seq := by
  rw [s.removeTransaction_rtu, State.dequeued]
  split <;> rfl

theorem State.judgeDistance_seq (s : State) (x : Transaction) : (s.judgeDistance x).rtu.seq = s.rtu.seq := by
  unfold State.judgeDistance
  split
  · exact s.removeTransaction_seq x
  · split
    · rw [s.makeUnconfirmed_rtu]
    · rfl

theorem State.judgedDistance_seq (s : State) (d : Nat) : (s.judgedDistance d).rtu.seq = s.rtu.seq :=
  List.foldlRecOn (s.rtu.queue.map (·.countedDown d)) State.judgeDistance
    (b := s.withQueue (s.rtu.queue.map (·.countedDown d))) (motive := fun u => u.rtu.seq = s.rtu.seq) rfl
    fun u hu x _ => (u.judgeDistance_seq x).trans hu

theorem Transaction.isPassed_countedDown {left : Int} (hl : left = max (-2147483648) (x.remaining - d)) :
    (x.countedDown d).isPassed = true ↔ left ≤ -((x.clearance : Int) * 1000) := by
  subst hl
  exact decide_eq_true_iff

theorem Transaction.pastDeadline_countedDown {left : Int} (hl : left = max (-2147483648) (x.remaining - d)) :
    (x.countedDown d).pastDeadline = true ↔
      x.source = .table ∧ (x.state = .announced ∨ x.state = .requesting) ∧ left ≤ (x.confirm : Int) * 1000 := by
  subst hl
  simp [Transaction.pastDeadline, Transaction.countedDown, countDown, millimetres, and_assoc]

/-- What is left of a transaction that is not passed is in the judged queue. -/
theorem State.mem_judgedDistance (hd : (junctionIds s.rtu.queue).Nodup) (hx : x ∈ s.rtu.queue)
    (hj : (x.countedDown d).judged = some y) : y ∈ (s.judgedDistance d).rtu.queue := by
  rw [State.judgedDistance_queue hd]
  exact List.mem_filterMap.mpr ⟨_, List.mem_map_of_mem hx, hj⟩

/-- A junction that is passed leaves the queue, and its restriction the list. -/
theorem State.periodDistance_of_passed (hm : s.mcr.mode.routing = true) (ho : (identities s.rsl).Nodup)
    (hd : (junctionIds s.rtu.queue).Nodup) (hmir : s.JunctionsMirrored) (hx : x ∈ s.rtu.queue)
    (hp : (x.countedDown d).isPassed = true) : (∀ y ∈ (s.periodDistance d).rtu.queue, y.junction ≠ x.junction) ∧
      findRestriction (s.periodDistance d).rsl .junction x.junction = none := by
  have after := State.mayStartHead_periodDistance hm d
  have hd' : (junctionIds (s.rtu.queue.map (·.countedDown d))).Nodup := by
    rw [junctionIds_countedDown]
    exact hd
  have hx' : x.countedDown d ∈ s.rtu.queue.map (·.countedDown d) := List.mem_map_of_mem hx
  refine ⟨fun y hy heq => ?_, List.find?_eq_none.mpr fun e he hn => ?_⟩
  · have hmem : x.junction ∈ junctionIds (s.judgedDistance d).rtu.queue := by
      rw [← after.ids, ← heq]
      exact List.mem_map_of_mem hy
    obtain ⟨z, hz, hzj⟩ := List.mem_map.mp hmem
    rw [State.judgedDistance_queue hd] at hz
    obtain ⟨w, hw, hwz⟩ := List.mem_filterMap.mp hz
    have hwx : w = x.countedDown d :=
      eq_of_junction hd' hw hx' ((judged_keepsJunction w z hwz).symm.trans hzj)
    rw [hwx, Transaction.judged, if_pos hp] at hwz
    cases hwz
  · have hsrc := ((e.names_iff _ _).mp hn).1
    refine judgeDistance_sparesOthers.not_names_of_removed hd' hx' ?_ ?_ (fun u => if_pos hp) e
      ((after.entries e hsrc).mp he) hn
    · exact ho
    · have placed : s.PlacedBy x := hmir.placedBy hx
      exact placed

/-- A junction at its deadline is UNCONFIRMED, with the flag. -/
theorem State.periodDistance_of_deadline (hm : s.mcr.mode.routing = true) (hd : (junctionIds s.rtu.queue).Nodup)
    (hx : x ∈ s.rtu.queue) (hp : ¬ (x.countedDown d).isPassed = true) (hl : (x.countedDown d).pastDeadline = true) :
    { x.countedDown d with state := .unconfirmed } ∈ (s.periodDistance d).rtu.queue ∧
      (s.periodDistance d).efn.isSet .jnUnconfirmed = true := by
  have after := State.mayStartHead_periodDistance hm d
  refine ⟨?_, after.routes.isSet ?_⟩
  · have judged : (x.countedDown d).judged = some { x.countedDown d with state := .unconfirmed } := by
      rw [Transaction.judged, if_neg hp, if_pos hl]
    exact (after.mem (State.mem_judgedDistance hd hx judged)).resolve_right fun h => TxState.noConfusion h.1
  · obtain ⟨u, -, later⟩ := judgeDistance_sparesOthers.exists_treated
      (by rw [junctionIds_countedDown]; exact hd) (List.mem_map_of_mem (f := (·.countedDown d)) hx)
      (s.withQueue (s.rtu.queue.map (·.countedDown d)))
    rw [State.judgeDistance, if_neg hp, if_pos hl] at later
    exact later.routes.isSet (u.makeUnconfirmed_isSet _)

/-- Any other junction is counted down, and is perhaps the new head that starts its attempt. -/
theorem State.periodDistance_of_neither (hm : s.mcr.mode.routing = true) (hd : (junctionIds s.rtu.queue).Nodup)
    (hx : x ∈ s.rtu.queue) (hp : ¬ (x.countedDown d).isPassed = true) (hl : ¬ (x.countedDown d).pastDeadline = true) :
    x.countedDown d ∈ (s.periodDistance d).rtu.queue ∨ x.state = .announced ∧
      (s.periodDistance d).rtu.queue.head? =
        some { x.countedDown d with lastSeq := some (s.rtu.seq + 1), state := .requesting } := by
  have judged : (x.countedDown d).judged = some (x.countedDown d) := by
    rw [Transaction.judged, if_neg hp, if_neg hl]
  have after := (State.mayStartHead_periodDistance hm d).mem (State.mem_judgedDistance hd hx judged)
  rwa [s.judgedDistance_seq] at after

theorem State.periodDistance_sublist (hm : s.mcr.mode.routing = true) (hd : (junctionIds s.rtu.queue).Nodup) (d : Nat) :
    (junctionIds (s.periodDistance d).rtu.queue).Sublist (junctionIds s.rtu.queue) := by
  have kept := judged_keepsJunction.sublist (s.rtu.queue.map (·.countedDown d))
  rw [(State.mayStartHead_periodDistance hm d).ids, State.judgedDistance_queue hd]
  rwa [junctionIds_countedDown] at kept

/-! ### A reversal (R122) -/

theorem removeTransaction_sparesOthers : SparesOthers State.removeTransaction :=
  fun u _ _ hx => u.sparesJunction_removeTransaction hx

/-- The part with every transaction removed, before what follows removals (R122). -/
def State.emptied (s : State) : State :=
  (s.rtu.queue.foldl State.removeTransaction s).withAttempt none

/-- The part that a reversal leaves but for ROUTE (R122). -/
def State.abandoned (s : State) : State := if s.rtu.queue = [] then s.emptied else s.emptied.setFlag .jqAbandon

theorem State.reversal_eq (hm : s.mcr.mode.routing = true) : s.reversal = s.abandoned.liftRoute := by
  unfold State.reversal State.abandoned
  rw [hm]
  simp only [List.isEmpty_iff]
  rfl

theorem State.emptied_queue (hd : (junctionIds s.rtu.queue).Nodup) : s.emptied.rtu.queue = [] := by
  have keeps : KeepsJunction fun _ => none := fun x y hy => by cases hy
  refine (removeTransaction_leavesInPlace.queue_foldl keeps s.rtu.queue [] rfl hd).trans ?_
  simp

theorem State.abandoned_rtu (s : State) : s.abandoned.rtu = s.emptied.rtu := by
  unfold State.abandoned
  split
  · rfl
  · rw [State.setFlag_rtu]

theorem State.abandoned_rsl (s : State) : s.abandoned.rsl = s.emptied.rsl := by
  unfold State.abandoned
  split
  · rfl
  · rw [State.setFlag_rsl]

theorem State.removeTransaction_tlk (s : State) (x : Transaction) : (s.removeTransaction x).tlk = s.tlk := by
  have dequeued : (s.dequeued x).tlk = s.tlk := by
    unfold State.dequeued
    split <;> rfl
  rw [s.removeTransaction_eq]
  split
  · rw [State.lift_tlk, dequeued]
  · exact dequeued

theorem State.liftRoute_tlk (s : State) : s.liftRoute.tlk = s.tlk := by
  rw [s.liftRoute_eq]
  split
  · rw [State.lift_tlk]
    rfl
  · rfl

theorem State.abandoned_tlk (s : State) : s.abandoned.tlk = s.tlk := by
  have emptied : s.emptied.tlk = s.tlk :=
    List.foldlRecOn s.rtu.queue State.removeTransaction (motive := fun u => u.tlk = s.tlk) rfl
      fun u hu x _ => (u.removeTransaction_tlk x).trans hu
  unfold State.abandoned
  split
  · exact emptied
  · rw [State.setFlag_tlk, emptied]

/-- After a reversal no JUNCTION entry stands. -/
theorem State.source_of_mem_emptied (ho : (identities s.rsl).Nodup) (hd : (junctionIds s.rtu.queue).Nodup)
    (hmir : s.JunctionsMirrored) : ∀ e ∈ s.emptied.rsl, e.source ≠ .junction := by
  intro e he hsrc
  by_cases hx : ∃ x ∈ s.rtu.queue, x.junction = e.key
  · obtain ⟨x, hx, hkey⟩ := hx
    exact removeTransaction_sparesOthers.not_names_of_removed hd hx ho (hmir.placedBy hx) (fun _ => rfl) e he
      ((e.names_iff _ _).mpr ⟨hsrc, hkey.symm⟩)
  · have spared := removeTransaction_sparesOthers.foldl (j := e.key) s.rtu.queue s fun y hy heq => hx ⟨y, hy, heq⟩
    have hold := (spared.entries e ((e.names_iff _ _).mpr ⟨hsrc, rfl⟩)).mp he
    exact hx (hmir.2 e hold hsrc).1

/-! ### The statement -/

/-- The second clause of O32: an APPROACH for a junction that is queued, with the queue full, with room. -/
theorem State.deliverTelegram_approach_spec (hm : s.mcr.mode.routing = true) (j : Half) (n : Nat) :
    (∀ l1 x l2, s.rtu.queue = l1 ++ x :: l2 → x.junction = j → (∀ y ∈ l1, y.junction ≠ j) →
      s.deliverTelegram (.approach j n) =
        s.withRtu { s.rtu with queue := l1 ++ { x with remaining := (n : Int) * 1000 } :: l2 }) ∧
    ((∀ y ∈ s.rtu.queue, y.junction ≠ j) → 4 ≤ s.rtu.queue.length → s.deliverTelegram (.approach j n) =
      ((s.withRtu { s.rtu with mark := true }).setFlag .jqFull).raise .route 0 (.cap s.rtu.items.defaultCap)) ∧
    (∀ (x : Transaction) (u v : State), (∀ y ∈ s.rtu.queue, y.junction ≠ j) → s.rtu.queue.length < 4 →
      x = s.rtu.newTransaction j n → u = s.withRtu { s.rtu with queue := s.rtu.queue ++ [x] } →
      v = (if x.state = .announced ∨ x.state = .awaitDriver then u.raise .junction j (.cap x.cap) else u).autoBell j →
        (x.state = .announced → s.rtu.queue = [] → s.deliverTelegram (.approach j n) = v.startAttempt) ∧
        (x.state ≠ .announced ∨ s.rtu.queue ≠ [] → s.deliverTelegram (.approach j n) = v)) := by
  rw [State.deliverTelegram_approach hm]
  refine ⟨fun l1 x l2 => State.approach_of_queued, State.approach_of_full, fun x u v hn hlt hx hu hv => ?_⟩
  rw [State.approach_of_room hn hlt]
  subst hx hu hv
  rw [← State.appended_eq (s.rtu.newTransaction_state j n)]
  exact ⟨State.announce_of_first, State.announce_of_later⟩

/-- The third clause of O32: a CLEAR of a junction that is queued. -/
theorem State.deliverTelegram_clear_of_queued {v w : State} (hm : s.mcr.mode.routing = true)
    (hd : (junctionIds s.rtu.queue).Nodup) (hq : s.rtu.queue = l1 ++ x :: l2)
    (hu : u = s.withRtu { s.rtu with queue := l1 ++ l2, attempt := if l1 = [] then none else s.rtu.attempt })
    (hv : v = if x.state = .confirmed ∨ x.state = .notRequired then u else u.lift .junction x.junction)
    (hw : w = if s.rtu.mark = true ∧ (l1 ++ l2).length < 4 then
      (v.withRtu { v.rtu with mark := false }).lift .route 0 else v) :
    (l1 = [] → l2.head?.map (·.state) = some .announced →
      s.deliverTelegram (.clear x.junction) = w.startAttempt) ∧
    (l1 ≠ [] ∨ l2.head?.map (·.state) ≠ some .announced → s.deliverTelegram (.clear x.junction) = w) := by
  rw [hq] at hd
  obtain ⟨h1, -⟩ := ne_junction_of_nodup hd
  have removed : s.removeTransaction x = v := by
    rw [s.removeTransaction_eq, State.dequeued_eq hq h1, ← hu, hv]
    cases hp : x.places with
    | false => rw [if_pos (x.places_eq_false_iff.mp hp), if_neg Bool.false_ne_true]
    | true => rw [if_neg (mt x.places_eq_false_iff.mpr (by simp [hp])), if_pos rfl]
  have hrtu : v.rtu = u.rtu := by
    rw [hv]
    split
    · rfl
    · rw [State.lift_rtu]
  have lifted : v.liftRoute = w := by
    rw [v.liftRoute_eq, hw, hrtu, hu]
    rfl
  rw [State.deliverTelegram_clear hm, State.clearJunction_of_queued hq h1, removed, ← lifted]
  exact State.afterRemoval_of_cleared hd hq (by rw [hrtu, hu]; rfl)

/-- Settles O32: the lookup, an APPROACH, a CLEAR, a period's distance, a reversal. -/
theorem approachResolvesRoute : Obligations.ApproachResolvesRoute := by
  refine ⟨fun r j n => ⟨fun i e he hc hf => ?_, fun hn => ?_⟩,
    fun s j n hm => State.deliverTelegram_approach_spec hm j n,
    fun s j hm hd => ⟨fun hn => ?_, fun l1 l2 x u v w hq hx hu hv hw => ?_⟩,
    fun s t d hm hdist hmir ht => ?_, fun s t hm hdist hmir ht => ?_⟩
  · have found := RouteUnit.lookup_of_first he hc hf
    exact ⟨RouteUnit.newTransaction_of_entry found, fun s hs => State.autoBell_of_entry (hs ▸ found)⟩
  · have missed := RouteUnit.lookup_of_none hn
    exact ⟨RouteUnit.newTransaction_of_none missed, fun s hs => State.autoBell_of_none (hs ▸ missed)⟩
  · rw [State.deliverTelegram_clear hm, State.clearJunction, findTransaction_of_none hn]
  · subst hx
    exact State.deliverTelegram_clear_of_queued hm hd hq hu hv hw
  · obtain ⟨-, -, ho, hd, -⟩ := hdist
    subst ht
    have same := (s.routes_periodDistance d).same
    refine ⟨State.periodDistance_sublist hm hd d, fun x left hx hleft => ?_, same.tdu, same.sru, same.ssq, same.mcr⟩
    have passed := x.isPassed_countedDown hleft
    have deadline := x.pastDeadline_countedDown hleft
    have counted : { x with remaining := left } = x.countedDown d := by rw [hleft]; rfl
    refine ⟨fun hp => State.periodDistance_of_passed hm ho hd hmir hx (passed.mpr hp), fun hp hs hst hl => ?_,
      fun hp hl => ?_⟩
    · have judged := State.periodDistance_of_deadline hm hd hx (mt passed.mp (not_le.mpr hp))
        (deadline.mpr ⟨hs, hst, hl⟩)
      rwa [← counted] at judged
    · have kept := State.periodDistance_of_neither hm hd hx (mt passed.mp (not_le.mpr hp)) (mt deadline.mp hl)
      rwa [← counted] at kept
  · obtain ⟨-, -, ho, hd, -⟩ := hdist
    subst ht
    have routes := s.routes_reversal
    have empty : s.abandoned.rtu.queue = [] := by rw [s.abandoned_rtu]; exact State.emptied_queue hd
    rw [State.reversal_eq hm] at routes ⊢
    refine ⟨?_, ?_, ?_, fun e he hsrc => ?_, fun hne => ?_, routes.entries, ?_, routes.same.tdu, routes.same.sru,
      routes.same.ssq, routes.same.mcr⟩
    · rw [State.liftRoute_rtu]
      exact empty
    · rw [State.liftRoute_rtu, s.abandoned_rtu]
      rfl
    · rw [State.liftRoute_rtu, empty]
      simp
    · have he := (s.abandoned.mem_liftRoute_iff (by rw [hsrc]; exact Source.noConfusion)).mp he
      exact State.source_of_mem_emptied ho hd hmir e (s.abandoned_rsl ▸ he) hsrc
    · refine ((State.Routes.refl s.abandoned).liftRoute).isSet ?_
      rw [State.abandoned, if_neg hne]
      exact State.setFlag_isSet _ _
    · rw [State.liftRoute_tlk, State.abandoned_tlk]

end Sys2Proof.Machine
end
